-- ==== Sys2Proof/Word.lean ====
section
/-! DEFINITION. Bytes, tuning words, the sixteen-slot and two-port containers, and the plain integer arithmetic
of spec/00_scope.md (R1). -/

namespace Sys2Proof

/-- One byte of a frame, a body or a nonvolatile image. -/
abbrev Byte := BitVec 8

/-- A tuning word or a phase accumulator: 32 bits, two's complement (spec/00_scope.md 1.7, R7, R9). -/
abbrev Word := BitVec 32

/-- A slot index, 0 to 15. -/
abbrev SlotIx := Fin 16

/-- A page index of Plan Memory, 0 to 15 (R112). -/
abbrev PageIx := Fin 16

/-- One value for each of the sixteen slots (or pages). -/
abbrev PerSlot (α : Type) := Vector α 16

/-- The sixteen slot indices in ascending order. -/
def allSlots : List SlotIx := [0, 1, 2, 3, 4, 5, 6, 7, 8, 9, 10, 11, 12, 13, 14, 15]

/-- "Clamp into a range" (R1), on integers. -/
def clampInt (lo hi x : Int) : Int := max lo (min hi x)

/-- "Clamp into a range" (R1), on natural numbers. -/
def clampNat (lo hi x : Nat) : Nat := max lo (min hi x)

/-- "Round" (R1): the integer nearest to n / d, an exact half rounded away from zero; d is positive. -/
def roundDiv (n : Int) (d : Nat) : Int :=
  if n < 0 then -(((2 * n.natAbs + d) / (2 * d) : Nat) : Int) else (((2 * n.natAbs + d) / (2 * d) : Nat) : Int)

/-- The first k, from `k` on and over at most `fuel` further values, at which `p` holds; the last value tried if none. -/
def firstFrom (p : Nat → Bool) : Nat → Nat → Nat
  | 0, k => k
  | fuel + 1, k => if p k then k else firstFrom p fuel (k + 1)

/-- A complex baseband sample; each component is a fraction of full scale (1 is full scale).
DESIGN CHOICE, log entry 5. -/
structure Sample where
  i : Rat
  q : Rat
  deriving DecidableEq, Repr, Inhabited

/-- Silence. -/
def Sample.zero : Sample := ⟨0, 0⟩

/-- The sum of two samples, component by component (R78). -/
def Sample.add (x y : Sample) : Sample := ⟨x.i + y.i, x.q + y.q⟩

/-- A sample multiplied by a real factor (R14). -/
def Sample.scale (k : Rat) (x : Sample) : Sample := ⟨k * x.i, k * x.q⟩

/-- The instantaneous power I² + Q², in units of P_fs (R18). -/
def Sample.power (x : Sample) : Rat := x.i * x.i + x.q * x.q

end Sys2Proof
end

