-- ==== Sys2Proof/Syntax.lean ====
section
/-! DEFINITION. The commands the block takes: one constructor for each row of spec/opcode_table.json, in the table's
order, with the row's operands. A request row names the port whose oldest request is taken; the request's own fields
travel in the frame that `requestFrame` brings (R136 to R141). -/

namespace Sys2Proof

/-- The two control ports (spec/00_scope.md 1.7). -/
inductive Port where
  | a | b
  deriving DecidableEq, Repr, Inhabited

/-- The remaining port. -/
def Port.other : Port → Port
  | .a => .b
  | .b => .a

/-- One value for each port. -/
structure PerPort (α : Type) where
  a : α
  b : α
  deriving DecidableEq, Repr

/-- The value of one port. -/
def PerPort.get {α : Type} (x : PerPort α) : Port → α
  | .a => x.a
  | .b => x.b

/-- Replace the value of one port. -/
def PerPort.set {α : Type} (x : PerPort α) (p : Port) (v : α) : PerPort α :=
  match p with
  | .a => { x with a := v }
  | .b => { x with b := v }

/-- What caused a device reset (R128, value 2 of STARTED). -/
inductive ResetCause where
  | powerOn | resetLine
  deriving DecidableEq, Repr

/-- The fields of a request frame as received, from its tag to its CRC-16 (R175); the body length is the length of
`body`. -/
structure Frame where
  tag   : Byte
  code  : Byte
  flags : Byte
  body  : List Byte
  crc   : BitVec 16
  deriving DecidableEq, Repr

/-- One of the actions that a level interval expiry brings together, whose order the manual leaves open (R46, R49,
R57, R72, R77, R88): a slot judges its measurement, the combiner judges the interval, or a hold or reacquire timer
that runs out at the same moment is taken between the measuring and the judging (R43). -/
inductive Turn where
  | judge (i : SlotIx)
  | combiner
  | holdOut (i : SlotIx)
  | reacquireOut (i : SlotIx)
  deriving DecidableEq, Repr

/-- The commands of the block: the rows of spec/opcode_table.json. -/
inductive Instr where
  | deviceReset (cause : ResetCause)
  | resetEnd
  | interlockAsserted
  | interlockReleased
  | transferBegin (p : Port)
  | transferEnd (p : Port)
  | requestFrame (p : Port) (f : Frame)
  | bodyLengthAbove256 (p : Port) (length : Nat)
  | responseShiftedOut (p : Port)
  | identify (p : Port)
  | statusRead (p : Port)
  | nop (p : Port)
  | portClear (p : Port)
  | claimNormal (p : Port)
  | claimForce (p : Port)
  | release (p : Port)
  | flagsWrite (p : Port)
  | planRead (p : Port)
  | trimLevel (p : Port)
  | trimFrequency (p : Port)
  | slotRead (p : Port)
  | revive (p : Port)
  | budgetRead (p : Port)
  | draftCopy (p : Port)
  | draftPutEntry (p : Port)
  | draftPutHeader (p : Port)
  | draftClear (p : Port)
  | draftGet (p : Port)
  | commit (p : Port)
  | pageStore (p : Port)
  | pageLoad (p : Port)
  | pageErase (p : Port)
  | pageInfo (p : Port)
  | bootSet (p : Port)
  | bootRead (p : Port)
  | reload (p : Port)
  | counterControl (p : Port)
  | counterRead (p : Port)
  | eventRead (p : Port)
  | unknownRequest (p : Port)
  | levelIntervalExpiry (order : List Turn)
  | settlingComplete (i : SlotIx)
  | holdTimerExpiry (i : SlotIx)
  | reacquireTimerExpiry (i : SlotIx)
  | riseCompletion (i : SlotIx)
  | fallCompletion (i : SlotIx)
  | resumingRampCompletion
  | leaseExpiry
  | contestTimerExpiry
  | forceWindowExpiry
  | storeEraseDone
  | storeProgramDone
  | storeVerifyDone (intact : Bool)
  | pageEraseDone
  | pageLoadReadDone (intact : Bool)
  | bootWriteDone (intact : Bool)
  | startUpReadEnd (primaryIntact fallbackIntact : Bool)
  | reloadReadEnd (primaryIntact fallbackIntact : Bool)
  | startByte (p : Port)
  deriving DecidableEq, Repr

end Sys2Proof
end

