-- ==== Sys2Proof/Config.lean ====
section
/-! DEFINITION. What one implementation fixes and what the manual leaves open: the free values (`opaque`, with no
body) and the constants of the part. -/

namespace Sys2Proof.Config

/-- Sample periods in one millisecond: both bands run at 160 Msps (spec/00_scope.md 1.6). -/
def samplesPerMs : Nat := 160000

/-- The settling period of an extraction: 0.1 ms, 16,000 receive samples (R13). -/
def settlingSamples : Nat := 16000

/-- The revision number of the part, which the manual does not give (R146, R178). Free value, log entry 16. -/
opaque revision : Byte

/-- The n-th sample that the part takes from the receive sample bus (an input of the part). Free value, log entry 6. -/
opaque rxSample : Nat → Sample

/-- What the part's unit complex number of an accumulator adds to the computed one (R12, R15), in units of the model's
tolerance of 10^-24 and counted no further than one unit either way. Free value, log entry 7. -/
opaque angleRest : Word → Sample

/-- The angle, in units of 2π / 2^32, by which the channel filter of a bandwidth class turns its whole passband (R12
gives the passband only). Free value, log entry 7. -/
opaque filterPhase : Fin 4 → Word

/-- What the channel filter's gain of a bandwidth class at the frequency m × 10 kHz adds to its shape (R12), in units of
the model's ripple of 10^-4 and counted no further than one unit either way. Free value, log entry 7. -/
opaque filterRest : Fin 4 → Int → Rat

/-- What the part's unit complex number of k 16,000ths of a turn, for k below 4,000, by which its channel filter tells
frequencies (R12), adds to the computed one, counted as `angleRest` is. Free value, log entry 7. -/
opaque turnRest : Nat → Sample

/-- What the part's factor 10^(r/40) adds to its first 24 decimal places, for r in 1 to 39 (R14), in units of the 24th
place and counted no further than one unit. Free value, log entry 7. -/
opaque gainRest : Nat → Rat

/-- Whether a time that is not a whole number of milliseconds is reported rounded up (R65, R89, R151 give the unit
only). Free value, log entry 15. -/
opaque msRoundsUp : Nat → Bool

/-- Whether the item that a start-up or RELOAD read has come to (the boot record, then pages) ends in the n-th sample
period, where its limit does not end it; R116 gives only the longest time. Free value, log entry 17. -/
opaque itemEnds : Nat → Bool

/-- Whether the cells of Plan Memory read back as they were programmed, for a completion the block reaches by itself
in an idle step (sample clock at the start of the operation or phase, and which item is read). Free value, log entry
18. -/
opaque cellsIntact : Nat → Nat → Bool

end Sys2Proof.Config
end

