-- ==== Sys2Proof/Machine/State.lean ====
section
/-! DEFINITION. The state of the 4216, block by block (spec/00_scope.md, "Block overview"), as plain data, and the
state after device reset. Times are counted in sample periods (160,000 to the millisecond; log entry 4). -/

namespace Sys2Proof.Machine

/-! ### Plan records (R22 to R26) -/

/-- A label: absent, or 0 to 12 printable characters (R24). -/
abbrev Label := Option (List Byte)

/-- The header of a plan record (R23). -/
structure Header where
  rxCentre    : Nat
  txCentre    : Nat
  guardKhz    : Nat
  ceiling     : Int
  rampMs      : Nat
  holdMs      : Nat
  reacquireMs : Nat
  levelMs     : Nat
  leaseMs     : Nat
  label       : Label
  deriving DecidableEq, Repr

/-- An entry of a plan record (R25). -/
structure Entry where
  enabled        : Bool
  rxKhz          : Nat
  txKhz          : Nat
  altRxKhz       : Option Nat
  bwClass        : Fin 4
  priority       : Fin 4
  share          : Nat
  threshold      : Int
  reacquireLimit : Nat
  label          : Label
  deriving DecidableEq, Repr

/-- A plan record: a header and sixteen entries (R22). -/
structure Plan where
  header  : Header
  entries : PerSlot Entry
  deriving DecidableEq, Repr

/-- The header defaults of R23. -/
def Header.default : Header where
  rxCentre := 100000
  txCentre := 100000
  guardKhz := 250
  ceiling := -2
  rampMs := 200
  holdMs := 500
  reacquireMs := 2000
  levelMs := 100
  leaseMs := 5000
  label := none

/-- The entry defaults of R25. -/
def Entry.default : Entry where
  enabled := false
  rxKhz := 0
  txKhz := 0
  altRxKhz := none
  bwClass := 0
  priority := 3
  share := 0
  threshold := -160
  reacquireLimit := 3
  label := none

/-- The default plan (R26). -/
def Plan.default : Plan := ⟨.default, Vector.replicate 16 .default⟩

/-- The failures validation reports (R31). -/
inductive FailKind where
  | rxBand | txBand | altBand | altSame | txSpacing
  deriving DecidableEq, Repr

/-- The report of a failed validation (R31). -/
structure Report where
  kind   : FailKind
  slot   : SlotIx
  second : Option SlotIx
  deriving DecidableEq, Repr

/-! ### Receive Channelizer and Transmit Combiner (R9, R20, R79, R80) -/

/-- The source of a slot (R9). -/
inductive Source where
  | primary | alternate
  deriving DecidableEq, Repr

/-- A power accumulation: the sum of the instantaneous powers, in units of P_fs, and the number of samples (R9, R18). -/
structure Accum where
  sum   : Rat
  count : Nat
  deriving DecidableEq, Repr

/-- An empty accumulation. -/
def Accum.empty : Accum := ⟨0, 0⟩

/-- The record of an extraction (R9). `settling` holds the samples still to pass, `none` is settled (R13); `centre` is
the receive band centre the slot's copy was adopted under, which R11 reads; `history` holds the samples in the channel
filter, newest first (R12). -/
structure Extraction where
  tuned     : Bool
  offset    : Int
  word      : Word
  bwClass   : Fin 4
  source    : Source
  phase     : Word
  settling  : Option Nat
  accum     : Accum
  lastLevel : Int
  centre    : Nat
  history   : List Sample
  deriving DecidableEq, Repr

/-- The record of a placement (R9). -/
structure Placement where
  tuned  : Bool
  offset : Int
  word   : Word
  phase  : Word
  deriving DecidableEq, Repr

/-- The composite state (R80). -/
inductive CompositeState where
  | live | interlocked | resuming
  deriving DecidableEq, Repr

/-- The resuming ramp (R80). -/
structure ResumeRamp where
  elapsed  : Nat
  duration : Nat
  deriving DecidableEq, Repr

/-- The composite: its state and ramp (R80), the last composite level and the accumulation (R20), the clip record (R79)
and the sample on the transmit sample bus (R80). -/
structure Combiner where
  state     : CompositeState
  ramp      : Option ResumeRamp
  lastLevel : Int
  accum     : Accum
  clip      : Bool
  bus       : Sample
  deriving DecidableEq, Repr

/-! ### Slot Bank (R40) -/

/-- The eight slot states (R40). -/
inductive SlotState where
  | off | deferred | rising | on | hold | muted | falling | failed
  deriving DecidableEq, Repr

/-- The in-use copy (R40). -/
structure InUse where
  enabled   : Bool
  rxKhz     : Nat
  txKhz     : Nat
  altRxKhz  : Option Nat
  bwClass   : Fin 4
  threshold : Int
  deriving DecidableEq, Repr

/-- The direction of a ramp (R42). -/
inductive RampDir where
  | rising | falling
  deriving DecidableEq, Repr

/-- A ramp in progress (R42): its starting factor is 0 for a rising ramp. -/
structure Ramp where
  dir      : RampDir
  elapsed  : Nat
  duration : Nat
  start    : Rat
  deriving DecidableEq, Repr

/-- The fall destination of a FALLING slot (R40). -/
inductive FallDest where
  | off | deferred
  deriving DecidableEq, Repr

/-- A slot runtime record (R40). The selected source is in the slot's extraction, the grant in the grant table. -/
structure Slot where
  state     : SlotState
  inUse     : InUse
  gain      : Int
  ramp      : Option Ramp
  endGain   : Int
  hold      : Option Nat
  reacquire : Option Nat
  attempts  : Nat
  fallDest  : Option FallDest
  deriving DecidableEq, Repr

/-! ### Budget Allocator (R66) -/

/-- A record of the grant table (R66). -/
structure GrantRec where
  grant  : Nat
  target : Option Int
  share  : Nat
  deriving DecidableEq, Repr

/-- The Budget Allocator's state (R66). -/
structure Allocator where
  pool        : Nat
  table       : PerSlot GrantRec
  overloadRun : Nat
  held        : Bool
  pendingRun  : Bool
  deriving DecidableEq, Repr

/-! ### Plan Controller and drafts (R90, R97) -/

/-- The controller states (R97). -/
inductive CtlState where
  | starting | ready | loading | draining | raising
  deriving DecidableEq, Repr

/-- The origin of the change in progress (R97). -/
inductive Change where
  | commit (p : Port) (tag : Byte)
  | reload (p : Port) (tag : Byte)
  | startUp
  deriving DecidableEq, Repr

/-- The Plan Controller's state (R97). -/
structure Controller where
  state      : CtlState
  active     : Plan
  generation : Nat
  incoming   : Option Plan
  change     : Option Change
  drainSet   : PerSlot Bool
  awaiting   : PerSlot Bool
  deriving DecidableEq, Repr

/-- A draft (R90): FREE when `loading` is `none`, else LOADING with the page being loaded. -/
structure Draft where
  plan    : Plan
  loading : Option PageIx
  deriving DecidableEq, Repr

/-! ### Plan Memory (R112 to R116) -/

/-- The page states (R112). -/
inductive PageState where
  | blank | valid | corrupt
  deriving DecidableEq, Repr

/-- A page's image: a plan record and the CRC-32 stored with it (R112, R179). -/
structure Image where
  record : Plan
  crc    : BitVec 32
  deriving DecidableEq, Repr

/-- A page (R112). -/
structure Page where
  state      : PageState
  image      : Option Image
  storeCount : Nat
  deriving DecidableEq, Repr

/-- The stored boot record: two page names and their CRC-16 (R114, R179). -/
structure BootImage where
  primary  : PageIx
  fallback : Option PageIx
  crc      : BitVec 16
  deriving DecidableEq, Repr

/-- The result of trying a boot page (R115). -/
inductive TryResult where
  | used | blank | corrupt | invalid | notNamed | notTried
  deriving DecidableEq, Repr

/-- Where a reading of the boot pages came from (R115). -/
inductive BootOrigin where
  | startUp | reload
  deriving DecidableEq, Repr

/-- The last boot outcome (R115). -/
structure BootOutcome where
  origin         : BootOrigin
  record         : Option (PageIx × Option PageIx)
  primary        : TryResult
  fallback       : TryResult
  primaryReport  : Option Report
  fallbackReport : Option Report
  used           : Option PageIx
  deriving DecidableEq, Repr

/-- The phases of a store (R116). -/
inductive StorePhase where
  | erase | program | verify
  deriving DecidableEq, Repr

/-- The item a read of the boot pages is reading: the boot record, the primary page, or the fallback page, with whether
the primary was read before it (R116, R125). -/
inductive ReadItem where
  | record
  | primary
  | fallback (primaryRead : Bool)
  deriving DecidableEq, Repr

/-- The operation in progress of the memory engine (R116); a read of the boot pages has the item it has come to. -/
inductive EngineOp where
  | store (page : PageIx) (phase : StorePhase) (snapshot : Plan) (p : Port) (tag : Byte)
  | erase (page : PageIx) (p : Port) (tag : Byte)
  | load (page : PageIx) (p : Port) (tag : Byte)
  | bootWrite (primary : PageIx) (fallback : Option PageIx) (p : Port) (tag : Byte)
  | startUpRead (item : ReadItem)
  | reloadRead (item : ReadItem) (p : Port) (tag : Byte)
  deriving DecidableEq, Repr

/-- Plan Memory: sixteen pages, the boot record, the last boot outcome and the engine, IDLE when `op` is `none`, with
the time its phase has run (R112 to R116). -/
structure Memory where
  pages       : PerSlot Page
  boot        : Option BootImage
  lastOutcome : Option BootOutcome
  op          : Option EngineOp
  opElapsed   : Nat
  deriving DecidableEq, Repr

/-! ### Control Ports (R132) -/

/-- An entry of a request queue (R132). -/
structure Request where
  tag   : Byte
  code  : Byte
  flags : Byte
  body  : List Byte
  deriving DecidableEq, Repr

/-- The statuses of R176. -/
inductive Status where
  | ok | okClamped | badFrame | unknownRequest | badLength | badArgument | badState
  | notAuthority | heldByOther | contested | notReady | busyPlan | busyMemory | draftBusy
  | stale | invalidPlan | pageBlank | pageCorrupt | pageNotValid
  deriving DecidableEq, Repr

/-- An entry of a response queue (R132). -/
structure Response where
  tag    : Byte
  code   : Byte
  status : Status
  body   : List Byte
  deriving DecidableEq, Repr

/-- What a request's owning block answers: the status and the body of the response (R140). -/
structure Reply where
  status : Status
  body   : List Byte
  deriving DecidableEq, Repr

/-- The rows of the opcode table that take a request from a queue (R176); a CLAIM is two rows, by its mode. -/
inductive RequestRow where
  | identify | statusRead | nop | portClear | claimNormal | claimForce | release | flagsWrite
  | planRead | trimLevel | trimFrequency | slotRead | revive | budgetRead
  | draftCopy | draftPutEntry | draftPutHeader | draftClear | draftGet | commit
  | pageStore | pageLoad | pageErase | pageInfo | bootSet | bootRead | reload
  | counterControl | counterRead | eventRead | unknown
  deriving DecidableEq, Repr

/-- The receive states (R135). -/
inductive Receive where
  | hunting | receiving | ignoring
  deriving DecidableEq, Repr

/-- A control port (R132). `select` is the select line; `frame` is the frame of the transfer, and `frameAtHead` says
whether that response still stands at the head of the response queue (R134, R149). -/
structure PortState where
  select      : Bool
  inTransfer  : Bool
  receive     : Receive
  requests    : List Request
  responses   : List Response
  frame       : Option Response
  frameAtHead : Bool
  badFrames   : Nat
  overruns    : Nat
  deriving DecidableEq, Repr

/-! ### Authority Arbiter (R150) -/

/-- The manner of taking authority (R150). -/
inductive Manner where
  | claim | force
  deriving DecidableEq, Repr

/-- The authority state, with the holder and manner that HELD alone has (R150). -/
inductive Authority where
  | open
  | held (holder : Port) (manner : Manner)
  | contested
  deriving DecidableEq, Repr

/-- The Authority Arbiter's state (R150); each timer is `none` when stopped, else its remaining time. -/
structure Arbiter where
  authority   : Authority
  forceWindow : Option Nat
  lease       : Option Nat
  contest     : Option Nat
  flags       : PerPort (BitVec 4)
  deriving DecidableEq, Repr

/-! ### Event Ring and Counter Bank (R164, R169, R170) -/

/-- The eighteen event kinds, in the order of the table of R170. -/
inductive EventKind where
  | started | commitBegun | commitDone | reloadDone | reloadFailed | trim | slotLost | sourceSwitched
  | slotRecovered | slotFailed | slotDeferred | slotRevived | memoryDone | authority | flags | counterHigh
  | poolChanged | interlock
  deriving DecidableEq, Repr

/-- The causes of the table of R170. -/
inductive Cause where
  | primary | fallback | none
  | noRecord | noUsablePage
  | level | frequency
  | absent | holdExpiry | rampAbort
  | loss | expiry
  | carrier | grant | raise
  | request | limit
  | ok | storeFailed | pageCorrupt | bootFailed
  | claim | force | release | lapse | contest | contestEnd | clear
  | write
  | overload | recovered
  | asserted | released | resumed
  deriving DecidableEq, Repr

/-- An event as a block hands it to the ring (R170). -/
structure Notice where
  kind   : EventKind
  slot   : Option SlotIx := none
  port   : Option Port := none
  tag    : Option Byte := none
  value1 : Option Int := none
  value2 : Option Int := none
  cause  : Option Cause := none
  deriving DecidableEq, Repr

/-- An event record of the ring (R170). -/
structure Event where
  sequence   : Nat
  generation : Nat
  notice     : Notice
  deriving DecidableEq, Repr

/-- The Event Ring (R169): the entries oldest first; a port's read position is given by its unread count (0 is the
write position). -/
structure Ring where
  entries  : List Event
  sequence : Nat
  unread   : PerPort Nat
  lost     : PerPort Nat
  deriving DecidableEq, Repr

/-- The six counters of a slot, in kind order 0 to 5 (R164). -/
structure SlotCounters where
  dips       : Nat
  losses     : Nat
  switches   : Nat
  attempts   : Nat
  shortfall  : Nat
  rampAborts : Nat
  deriving DecidableEq, Repr

/-- The Counter Bank (R164). Bit n of the mask masks kind n. -/
structure CounterBank where
  enable   : Bool
  mask     : BitVec 8
  slots    : PerSlot SlotCounters
  overload : Nat
  clip     : Nat
  deriving DecidableEq, Repr

/-! ### The part -/

/-- The state of the 4216 and the queue of the commands that wait. `sampleClock` is the model's own count of the
sample periods that idle steps have run (log entry 4), `rxTaken` its count of the receive samples taken, by idle steps and
with a level interval expiry (log entries 6 and 9). -/
structure State where
  pending         : List Instr
  sampleClock     : Nat
  rxTaken         : Nat
  inReset         : Bool
  resetCause      : ResetCause
  interlock       : Bool
  intervalElapsed : Nat
  extractions     : PerSlot Extraction
  placements      : PerSlot Placement
  combiner        : Combiner
  slots           : PerSlot Slot
  alloc           : Allocator
  ctl             : Controller
  drafts          : PerPort Draft
  memory          : Memory
  ports           : PerPort PortState
  arbiter         : Arbiter
  ring            : Ring
  counters        : CounterBank
  deriving DecidableEq, Repr

/-- Why a step stops with a fault. The manual describes no behaviour that stops the part, so no meaning raises one:
the type has no constructor. -/
inductive Fault where
  deriving DecidableEq, Repr

/-- Why a step has no meaning. -/
inductive Refusal where
  /-- Raised by an arm of `exec` for a row that has no meaning yet (none is left). Safe: the model stops where the part
  goes on. -/
  | notModelled (mnemonic : String)
  deriving DecidableEq, Repr

/-! ### After device reset -/

/-- An extraction after device reset (R9). The filter history is empty and the centre, which only a tuned extraction
reads, is 0 (log entry 10). -/
def Extraction.reset : Extraction where
  tuned := false
  offset := 0
  word := 0
  bwClass := 0
  source := .primary
  phase := 0
  settling := none
  accum := .empty
  lastLevel := -200
  centre := 0
  history := []

/-- A placement after device reset (R9). -/
def Placement.reset : Placement := ⟨false, 0, 0, 0⟩

/-- The combiner after device reset with INTERLOCK released (R21, R79, R80); the bus carries silence. -/
def Combiner.reset : Combiner := ⟨.live, none, -200, .empty, false, .zero⟩

/-- The in-use copy of the default entry (R40). -/
def InUse.reset : InUse := ⟨false, 0, 0, none, 0, -160⟩

/-- A slot after device reset (R40). -/
def Slot.reset : Slot where
  state := .off
  inUse := .reset
  gain := 0
  ramp := none
  endGain := 0
  hold := none
  reacquire := none
  attempts := 0
  fallDest := none

/-- The Allocator after device reset: held (R66, R73). -/
def Allocator.reset : Allocator := ⟨1024, Vector.replicate 16 ⟨0, none, 0⟩, 0, true, false⟩

/-- The Plan Controller after device reset (R97). -/
def Controller.reset : Controller where
  state := .starting
  active := .default
  generation := 0
  incoming := none
  change := none
  drainSet := Vector.replicate 16 false
  awaiting := Vector.replicate 16 false

/-- A draft after device reset (R90). -/
def Draft.reset : Draft := ⟨.default, none⟩

/-- Plan Memory of a part that has never stored a page (R112, R114, R115). -/
def Memory.new : Memory := ⟨Vector.replicate 16 ⟨.blank, none, 0⟩, none, none, none, 0⟩

/-- A port after device reset (R132). -/
def PortState.reset : PortState := ⟨false, false, .hunting, [], [], none, false, 0, 0⟩

/-- The Arbiter after device reset (R150). -/
def Arbiter.reset : Arbiter := ⟨.open, none, none, none, ⟨0, 0⟩⟩

/-- The ring after device reset (R169). -/
def Ring.reset : Ring := ⟨[], 0, ⟨0, 0⟩, ⟨0, 0⟩⟩

/-- The Counter Bank after device reset (R164). -/
def CounterBank.reset : CounterBank := ⟨true, 0, Vector.replicate 16 ⟨0, 0, 0, 0, 0, 0⟩, 0, 0⟩

/-- The machine right after device reset, the reset still in force (`resetEnd` ends it), at the first power-on of a part
whose pages were never stored, with INTERLOCK released and both select lines deasserted (log entries 2 and 10). -/
def State.reset : State where
  pending := []
  sampleClock := 0
  rxTaken := 0
  inReset := true
  resetCause := .powerOn
  interlock := false
  intervalElapsed := 0
  extractions := Vector.replicate 16 .reset
  placements := Vector.replicate 16 .reset
  combiner := .reset
  slots := Vector.replicate 16 .reset
  alloc := .reset
  ctl := .reset
  drafts := ⟨.reset, .reset⟩
  memory := .new
  ports := ⟨.reset, .reset⟩
  arbiter := .reset
  ring := .reset
  counters := .reset

end Sys2Proof.Machine
end

