-- ==== Sys2Proof/Machine/Plan.lean ====
section
/-! DEFINITION. The arithmetic of plans and levels: ranges, bandwidths, tuning words, the placement tests, validation
(spec/01_channel_translation.md, spec/02_the_active_plan.md), input levels (R18) and target levels (R70). -/

namespace Sys2Proof.Machine

/-! ### Times -/

/-- Milliseconds as sample periods. -/
def samplesOfMs (n : Nat) : Nat := n * Config.samplesPerMs

/-- A time in sample periods as the number of milliseconds a response reports: exact when whole, else the whole
milliseconds or one more (log entry 15). -/
def reportMs (n : Nat) : Nat :=
  if n % Config.samplesPerMs = 0 then n / Config.samplesPerMs
  else n / Config.samplesPerMs + (if Config.msRoundsUp n then 1 else 0)

/-! ### Ranges (R23 to R25) -/

/-- A label in range (R24). -/
def labelInRange : Label → Bool
  | none => true
  | some cs => cs.length ≤ 12 && cs.all (fun c => 32 ≤ c.toNat && c.toNat ≤ 126)

/-- Every header field lies in its range (R23). -/
def Header.inRange (h : Header) : Bool :=
  (100000 ≤ h.rxCentre && h.rxCentre ≤ 5900000) && (100000 ≤ h.txCentre && h.txCentre ≤ 5900000)
    && h.guardKhz ≤ 2000 && (-40 ≤ h.ceiling && h.ceiling ≤ 0)
    && (10 ≤ h.rampMs && h.rampMs ≤ 2000) && h.holdMs ≤ 10000
    && (100 ≤ h.reacquireMs && h.reacquireMs ≤ 60000) && (10 ≤ h.levelMs && h.levelMs ≤ 1000)
    && (h.leaseMs = 0 || (500 ≤ h.leaseMs && h.leaseMs ≤ 60000)) && labelInRange h.label

/-- Every entry field lies in its range (R25); class and priority are in range by their type. -/
def Entry.inRange (e : Entry) : Bool :=
  e.rxKhz ≤ 6000000 && e.txKhz ≤ 6000000 && (e.altRxKhz.all fun f => f ≤ 6000000)
    && e.share ≤ 1024 && (-200 ≤ e.threshold && e.threshold ≤ -20) && e.reacquireLimit ≤ 15 && labelInRange e.label

/-- Every field of the record lies in its range (R22). -/
def Plan.inRange (p : Plan) : Bool := p.header.inRange && allSlots.all fun i => p.entries[i].inRange

/-! ### Bandwidths, offsets and tuning words -/

/-- The occupied width W of a bandwidth class, in kHz (R3). -/
def widthKhz (c : Fin 4) : Nat :=
  match c with
  | 0 => 200
  | 1 => 1536
  | 2 => 6000
  | 3 => 8000

/-- The offset of a frequency in a band (R7). -/
def offsetOf (freq centre : Nat) : Int := (freq : Int) - (centre : Int)

/-- round(offset × 2^32 / 160,000) (R7). -/
def tuningValue (offset : Int) : Int := roundDiv (offset * 4294967296) 160000

/-- The tuning word of an offset, in two's complement (R7). -/
def tuningWord (offset : Int) : Word := BitVec.ofInt 32 (tuningValue offset)

/-! ### Placement tests (R4 to R6) -/

/-- The band test (R4). -/
def bandTest (f c : Int) (w : Nat) : Bool := (f - c).natAbs + w / 2 ≤ 76000

/-- The spacing test (R6). -/
def spacingTest (txI txJ : Int) (wI wJ guardKhz : Nat) : Bool := (wI + wJ) / 2 + guardKhz ≤ (txI - txJ).natAbs

/-- The receive-band test of an entry (R4). -/
def rxTest (h : Header) (e : Entry) : Bool := bandTest e.rxKhz h.rxCentre (widthKhz e.bwClass)

/-- The transmit-band test of an entry (R4). -/
def txTest (h : Header) (e : Entry) : Bool := bandTest e.txKhz h.txCentre (widthKhz e.bwClass)

/-- The alternate test of an entry (R5): `none` when it passes, else the failure to report. -/
def altTest (h : Header) (e : Entry) : Option FailKind :=
  match e.altRxKhz with
  | none => none
  | some f =>
    if !bandTest f h.rxCentre (widthKhz e.bwClass) then some .altBand
    else if f = e.rxKhz then some .altSame else none

/-- The spacing test between two entries of a plan (R6). -/
def entrySpacing (p : Plan) (i j : SlotIx) : Bool :=
  spacingTest p.entries[i].txKhz p.entries[j].txKhz (widthKhz p.entries[i].bwClass) (widthKhz p.entries[j].bwClass)
    p.header.guardKhz

/-- The first enabled entry above i that i stands too close to (R31, step 5). -/
def spacingFailure (p : Plan) (i : SlotIx) : Option SlotIx :=
  allSlots.find? fun j => i < j && p.entries[j].enabled && !entrySpacing p i j

/-- The first failure of one enabled entry, in the order of R31. -/
def entryReport (p : Plan) (i : SlotIx) : Option Report :=
  if !rxTest p.header p.entries[i] then some ⟨.rxBand, i, none⟩
  else if !txTest p.header p.entries[i] then some ⟨.txBand, i, none⟩
  else match altTest p.header p.entries[i] with
    | some k => some ⟨k, i, none⟩
    | none => (spacingFailure p i).map fun j => ⟨.txSpacing, i, some j⟩

/-- The validation report: the first failure of the enabled entries in ascending index, `none` for a plan that passes
every placement test (R30, R31). -/
def Plan.report (p : Plan) : Option Report :=
  allSlots.findSome? fun i => if p.entries[i].enabled then entryReport p i else none

/-- A plan record is valid (R30): every field in range and every placement test passed. -/
def Plan.valid (p : Plan) : Bool := p.inRange && p.report.isNone

/-! ### Levels -/

/-- floor(20 × log10(P / P_fs)) clamped into −200 to 0 (R18): −k for the least k with 1 ≤ P^20 × 10^k. -/
def levelOfPower (p : Rat) : Int :=
  if p ≤ 0 then -200
  else -(firstFrom (fun k => p.den ^ 20 ≤ p.num.natAbs ^ 20 * 10 ^ k) 200 0 : Nat)

/-- The level of an accumulation: its mean power (R18, R20). -/
def accumLevel (x : Accum) : Int := levelOfPower (x.sum / (x.count : Rat))

/-- The accumulation of two runs of samples. -/
def accumJoin (x y : Accum) : Accum := ⟨x.sum + y.sum, x.count + y.count⟩

/-- −round(20 × log10(g / 1,024)) for a grant g above 0 (R70): no exact half occurs, so the nearest integer −k is the
one of the least k with 1024^40 ≤ g^40 × 10^(2k+1). -/
def grantDrop (g : Nat) : Nat := firstFrom (fun k => 1024 ^ 40 ≤ g ^ 40 * 10 ^ (2 * k + 1)) 61 0

/-- The target level T of a grant under a ceiling (R70); absent when the grant is 0 (R66). -/
def targetOf (ceiling : Int) (g : Nat) : Option Int := if g = 0 then none else some (ceiling - (grantDrop g : Int))

/-- A gain is kept in −80 to +120 steps (R40). -/
def clampGain (g : Int) : Int := clampInt (-80) 120 g

/-- 65,535 plus 1 gives generation 1 (R28). -/
def nextGeneration (g : Nat) : Nat := if g = 65535 then 1 else g + 1

end Sys2Proof.Machine
end

