-- ==== Sys2Proof/Machine/Formats.lean ====
section
/-! DEFINITION. How values are written as bytes: numbers, codes, plan records, event records, frames and the two CRCs
(spec/10_frame_and_record_formats.md, R136, R179). Multi-byte numbers stand most significant byte first. -/

namespace Sys2Proof.Machine

/-! ### Numbers -/

/-- The low eight bits of a number. -/
def byteOf (n : Nat) : Byte := BitVec.ofNat 8 n

/-- Two bytes, unsigned. -/
def be16 (n : Nat) : List Byte := [byteOf (n / 256), byteOf n]

/-- Four bytes, unsigned. -/
def be32 (n : Nat) : List Byte := be16 (n / 65536) ++ be16 n

/-- One byte, two's complement. -/
def signed8 (x : Int) : List Byte := [byteOf (x % 256).toNat]

/-- Two bytes, two's complement. -/
def signed16 (x : Int) : List Byte := be16 (x % 65536).toNat

/-- Four bytes, two's complement. -/
def signed32 (x : Int) : List Byte := be32 (x % 4294967296).toNat

/-- A yes or no as one byte: 1 for yes and 0 for no, as R176 and R178 code the enable, the clear and the plan_label
presence. They state no code for the other such fields, the difference flag, held, pending, claimant, worn, record present, in
BOOT_WRITE, boot record present and cleared; that these are written in the same way is the model's (DEDUCED, unsafe: log entry
27). -/
def flagByte (x : Bool) : Byte := if x then 1 else 0

/-- An optional unsigned byte: 0xFF when absent (R175). -/
def optByte (x : Option Nat) : Byte := byteOf (x.getD 0xFF)

/-- An optional unsigned 16-bit field: 0xFFFF when absent (R175). -/
def opt16 (x : Option Nat) : List Byte := be16 (x.getD 0xFFFF)

/-- An optional signed 16-bit field: 0x8000 when absent (R175). -/
def optSigned16 (x : Option Int) : List Byte := signed16 (x.getD 0x8000)

/-- A timer's remaining-time field: 0xFFFF when stopped (R175). -/
def timer16 (t : Option Nat) : List Byte := opt16 (t.map reportMs)

/-! ### Small codes (R175) and status codes (R176) -/

def portCode : Port → Nat
  | .a => 0
  | .b => 1

def Source.code : Source → Nat
  | .primary => 0
  | .alternate => 1

def SlotState.code : SlotState → Nat
  | .off => 0
  | .deferred => 1
  | .rising => 2
  | .on => 3
  | .hold => 4
  | .muted => 5
  | .falling => 6
  | .failed => 7

def CtlState.code : CtlState → Nat
  | .starting => 0
  | .ready => 1
  | .loading => 2
  | .draining => 3
  | .raising => 4

def PageState.code : PageState → Nat
  | .blank => 0
  | .valid => 1
  | .corrupt => 2

def CompositeState.code : CompositeState → Nat
  | .live => 0
  | .interlocked => 1
  | .resuming => 2

def Authority.code : Authority → Nat
  | .open => 0
  | .held _ _ => 1
  | .contested => 2

def Manner.code : Manner → Nat
  | .claim => 0
  | .force => 1

def FailKind.code : FailKind → Nat
  | .rxBand => 1
  | .txBand => 2
  | .altBand => 3
  | .altSame => 4
  | .txSpacing => 5

def TryResult.code : TryResult → Nat
  | .used => 0
  | .blank => 1
  | .corrupt => 2
  | .invalid => 3
  | .notNamed => 4
  | .notTried => 5

def BootOrigin.code : BootOrigin → Nat
  | .startUp => 0
  | .reload => 1

def StorePhase.code : StorePhase → Nat
  | .erase => 1
  | .program => 2
  | .verify => 3

/-- The engine state code of an operation; IDLE is 0 (R175). -/
def EngineOp.code : EngineOp → Nat
  | .store _ _ _ _ _ => 1
  | .erase _ _ _ => 2
  | .load _ _ _ => 3
  | .startUpRead _ => 3
  | .reloadRead _ _ _ => 3
  | .bootWrite _ _ _ _ => 4

/-- The engine phase code of an operation (R175). -/
def EngineOp.phaseCode : EngineOp → Nat
  | .store _ ph _ _ _ => ph.code
  | .erase _ _ _ | .load _ _ _ | .startUpRead _ | .reloadRead _ _ _ | .bootWrite _ _ _ _ => 0

def resetCode : ResetCause → Nat
  | .powerOn => 0
  | .resetLine => 1

/-- The status byte (R176). -/
def Status.code : Status → Nat
  | .ok => 0x00
  | .okClamped => 0x01
  | .badFrame => 0x10
  | .unknownRequest => 0x11
  | .badLength => 0x12
  | .badArgument => 0x13
  | .badState => 0x14
  | .notAuthority => 0x20
  | .heldByOther => 0x21
  | .contested => 0x22
  | .notReady => 0x30
  | .busyPlan => 0x31
  | .busyMemory => 0x32
  | .draftBusy => 0x33
  | .stale => 0x34
  | .invalidPlan => 0x35
  | .pageBlank => 0x40
  | .pageCorrupt => 0x41
  | .pageNotValid => 0x42

/-- A request succeeds with OK or OK_CLAMPED (R140). -/
def Status.success : Status → Bool
  | .ok | .okClamped => true
  | .badFrame | .unknownRequest | .badLength | .badArgument | .badState | .notAuthority | .heldByOther | .contested
  | .notReady | .busyPlan | .busyMemory | .draftBusy | .stale | .invalidPlan | .pageBlank | .pageCorrupt
  | .pageNotValid => false

/-- A validation report is three bytes; the second slot is 0xFF when absent (R175). -/
def Report.bytes (r : Report) : List Byte :=
  [byteOf r.kind.code, byteOf r.slot.val, optByte (r.second.map Fin.val)]

/-- A report that is absent: three absent bytes (DEDUCED from R175, log entry 14). -/
def reportBytes : Option Report → List Byte
  | some r => r.bytes
  | none => [0xFF, 0xFF, 0xFF]

/-! ### Plan bodies (R177) -/

/-- A label field: its length and twelve character bytes, the unused ones 0 (R177). -/
def labelBytes (l : Label) : List Byte :=
  match l with
  | none => List.replicate 13 0
  | some cs => byteOf cs.length :: (cs ++ List.replicate 12 0).take 12

/-- The presence byte of an entry (R177). -/
def entryPresence (enabled alt label : Bool) : Byte :=
  byteOf ((if enabled then 1 else 0) + (if alt then 2 else 0) + (if label then 4 else 0))

/-- A plan entry as 33 bytes (R177). -/
def Entry.bytes (e : Entry) : List Byte :=
  entryPresence e.enabled e.altRxKhz.isSome e.label.isSome :: (be32 e.rxKhz ++ be32 e.txKhz
    ++ be32 (e.altRxKhz.getD 0) ++ [byteOf e.bwClass.val, byteOf e.priority.val] ++ be16 e.share
    ++ signed16 e.threshold ++ [byteOf e.reacquireLimit] ++ labelBytes e.label)

/-- A plan header as 35 bytes (R177). -/
def Header.bytes (h : Header) : List Byte :=
  flagByte h.label.isSome :: (be32 h.rxCentre ++ be32 h.txCentre ++ be16 h.guardKhz ++ signed8 h.ceiling
    ++ be16 h.rampMs ++ be16 h.holdMs ++ be16 h.reacquireMs ++ be16 h.levelMs ++ be16 h.leaseMs ++ labelBytes h.label)

/-- The in-use copy as an entry without priority, share, limit and label: 16 bytes (R178). -/
def InUse.bytes (u : InUse) : List Byte :=
  entryPresence u.enabled u.altRxKhz.isSome false :: (be32 u.rxKhz ++ be32 u.txKhz ++ be32 (u.altRxKhz.getD 0)
    ++ [byteOf u.bwClass.val] ++ signed16 u.threshold)

/-- `count` entries from `start` on, passing from entry 15 to entry 0 (R32, R96). -/
def Plan.entryRun (p : Plan) (start count : Nat) : List Byte :=
  (List.range count).flatMap fun k => (p.entries[(Fin.ofNat 16 (start + k) : SlotIx)]).bytes

/-- The 563 record bytes of a page image (R179). -/
def Plan.imageBytes (p : Plan) : List Byte := p.header.bytes ++ p.entryRun 0 16

/-! ### The two CRCs -/

/-- One bit of the CRC-16 with polynomial 0x1021 (R136). -/
def crc16Bit (c : BitVec 16) : BitVec 16 := if c.msb then (c <<< 1) ^^^ 0x1021 else c <<< 1

/-- The CRC-16 of R136: initial value 0xFFFF, each byte from its most significant bit, no final inversion. -/
def crc16 (bs : List Byte) : BitVec 16 :=
  bs.foldl (fun c b => Nat.iterate crc16Bit 8 (c ^^^ BitVec.shiftLeft (b.setWidth 16) 8)) 0xFFFF

/-- One bit of the CRC-32 with polynomial 0x04C11DB7 (R179). -/
def crc32Bit (c : BitVec 32) : BitVec 32 := if c.msb then (c <<< 1) ^^^ 0x04C11DB7 else c <<< 1

/-- The CRC-32 of R179: initial value 0xFFFFFFFF, no reflection, the result inverted. -/
def crc32 (bs : List Byte) : BitVec 32 :=
  ~~~(bs.foldl (fun c b => Nat.iterate crc32Bit 8 (c ^^^ BitVec.shiftLeft (b.setWidth 32) 24)) 0xFFFFFFFF)

/-- The image of a plan record (R179). -/
def Plan.image (p : Plan) : Image := ⟨p, crc32 p.imageBytes⟩

/-- The stored CRC-32 matches the record (R120, R125, R179). -/
def Image.matching (m : Image) : Bool := crc32 m.record.imageBytes = m.crc

/-- The two page bytes of the boot record (R179). -/
def bootBytes (primary : PageIx) (fallback : Option PageIx) : List Byte :=
  [byteOf primary.val, optByte (fallback.map Fin.val)]

/-- The boot record to be written for two pages, with its check (R179). -/
def bootImage (primary : PageIx) (fallback : Option PageIx) : BootImage :=
  ⟨primary, fallback, crc16 (bootBytes primary fallback)⟩

/-- What the boot record reads as: *no boot record* when absent or when its check does not match (R114). -/
def readBoot (b : Option BootImage) : Option (PageIx × Option PageIx) :=
  b.bind fun m => if crc16 (bootBytes m.primary m.fallback) = m.crc then some (m.primary, m.fallback) else none

/-! ### Frames (R175) -/

/-- The bytes a request frame's CRC-16 covers: tag, code, flags, body length and body (R136). -/
def frameCovered (tag code third : Byte) (body : List Byte) : List Byte :=
  tag :: code :: third :: (be16 body.length ++ body)

/-- The request frame's check (R136). -/
def frameGood (f : Frame) : Bool := crc16 (frameCovered f.tag f.code f.flags f.body) = f.crc

/-- A response frame as it is shifted out, from its start byte to its CRC-16 (R134, R175). -/
def Response.frameBytes (r : Response) : List Byte :=
  let covered := frameCovered r.tag r.code (byteOf r.status.code) r.body
  0x3C :: (covered ++ be16 (crc16 covered).toNat)

/-! ### Event records (R178) -/

/-- The kind code: the position in the table of R170 (R178). -/
def EventKind.code : EventKind → Nat
  | .started => 1
  | .commitBegun => 2
  | .commitDone => 3
  | .reloadDone => 4
  | .reloadFailed => 5
  | .trim => 6
  | .slotLost => 7
  | .sourceSwitched => 8
  | .slotRecovered => 9
  | .slotFailed => 10
  | .slotDeferred => 11
  | .slotRevived => 12
  | .memoryDone => 13
  | .authority => 14
  | .flags => 15
  | .counterHigh => 16
  | .poolChanged => 17
  | .interlock => 18

/-- The cause list of a kind (R170). -/
def EventKind.causes : EventKind → List Cause
  | .started => [.primary, .fallback, .none]
  | .commitBegun | .commitDone | .reloadDone | .slotFailed | .counterHigh => []
  | .reloadFailed => [.noRecord, .noUsablePage]
  | .trim => [.level, .frequency]
  | .slotLost => [.absent, .holdExpiry, .rampAbort]
  | .sourceSwitched => [.loss, .expiry]
  | .slotRecovered => [.carrier, .grant]
  | .slotDeferred => [.grant, .raise]
  | .slotRevived => [.request, .limit]
  | .memoryDone => [.ok, .storeFailed, .pageCorrupt, .bootFailed]
  | .authority => [.claim, .force, .release, .lapse, .contest, .contestEnd, .clear]
  | .flags => [.write, .clear]
  | .poolChanged => [.overload, .recovered]
  | .interlock => [.asserted, .released, .resumed]

/-- The cause byte: its position, from 1, in the kind's list (R178). -/
def causeCode (k : EventKind) (c : Cause) : Nat := k.causes.idxOf c + 1

/-- The presence byte of an event record (R178). -/
def Notice.presence (n : Notice) : Byte :=
  byteOf ((if n.slot.isSome then 1 else 0) + (if n.port.isSome then 2 else 0) + (if n.tag.isSome then 4 else 0)
    + (if n.value1.isSome then 8 else 0) + (if n.value2.isSome then 16 else 0) + (if n.cause.isSome then 32 else 0))

/-- An event record as 20 bytes (R178). -/
def Event.bytes (e : Event) : List Byte :=
  be32 e.sequence ++ [byteOf e.notice.kind.code] ++ be16 e.generation ++ [e.notice.presence]
    ++ [byteOf ((e.notice.slot.map Fin.val).getD 0), byteOf ((e.notice.port.map portCode).getD 0),
        e.notice.tag.getD 0]
    ++ signed32 (e.notice.value1.getD 0) ++ signed32 (e.notice.value2.getD 0)
    ++ [byteOf ((e.notice.cause.map (causeCode e.notice.kind)).getD 0)]

end Sys2Proof.Machine
end

