-- ==== Sys2Proof/Machine/Operands.lean ====
section
/-! DEFINITION. Reading a request: which row takes it, the checks on its form (R141, R176), the numbers in its body, and
the entry or header of a draft put with its refused and clamped fields (R92, R93, R177). -/

namespace Sys2Proof.Machine

/-! ### The request codes (R176) -/

/-- The row that takes a request. A CLAIM whose body names mode FORCE is CLAIM_FORCE's; every other CLAIM is
CLAIM_NORMAL's (log entry 11). -/
def requestRow (r : Request) : RequestRow :=
  match r.code.toNat with
  | 0x01 => .identify
  | 0x02 => .statusRead
  | 0x03 => .nop
  | 0x04 => .portClear
  | 0x10 => if r.body = [1] then .claimForce else .claimNormal
  | 0x11 => .release
  | 0x12 => .flagsWrite
  | 0x20 => .planRead
  | 0x21 => .trimLevel
  | 0x22 => .trimFrequency
  | 0x30 => .slotRead
  | 0x31 => .revive
  | 0x32 => .budgetRead
  | 0x40 => .draftCopy
  | 0x41 => .draftPutEntry
  | 0x42 => .draftPutHeader
  | 0x43 => .draftClear
  | 0x44 => .draftGet
  | 0x45 => .commit
  | 0x50 => .pageStore
  | 0x51 => .pageLoad
  | 0x52 => .pageErase
  | 0x53 => .pageInfo
  | 0x54 => .bootSet
  | 0x55 => .bootRead
  | 0x56 => .reload
  | 0x60 => .counterControl
  | 0x61 => .counterRead
  | 0x62 => .eventRead
  | _ => .unknown

/-- The body lengths a request admits (R176). -/
def RequestRow.lengthOk (row : RequestRow) (n : Nat) : Bool :=
  match row with
  | .identify | .statusRead | .portClear | .release | .budgetRead | .draftCopy | .draftClear | .bootRead
  | .reload => n = 0
  | .nop => n ≤ 256
  | .claimNormal | .claimForce | .flagsWrite | .slotRead | .revive | .pageLoad | .pageErase | .pageInfo
  | .eventRead => n = 1
  | .trimFrequency | .pageStore | .counterControl | .counterRead => n = 2
  | .planRead | .trimLevel => n = 3
  | .draftGet => n = 4
  | .draftPutEntry => n = 34
  | .draftPutHeader => n = 35
  | .commit => n = 0 || n = 2
  | .bootSet => n = 1 || n = 2
  | .unknown => false

/-- The three checks on the form of a taken request, in the order of R141: `none` when they pass. -/
def formCheck (r : Request) : Option Status :=
  if requestRow r = .unknown then some .unknownRequest
  else if 1 < r.flags.toNat then some .badArgument
  else if !(requestRow r).lengthOk r.body.length then some .badLength
  else none

/-- The quiet indication (R140, R175). -/
def Request.quiet (r : Request) : Bool := r.flags = 1

/-! ### Numbers in a body -/

/-- The byte at an offset, unsigned. -/
def u8At (b : List Byte) (i : Nat) : Nat := (b.getD i 0).toNat

/-- Two bytes, unsigned. -/
def u16At (b : List Byte) (i : Nat) : Nat := u8At b i * 256 + u8At b (i + 1)

/-- Four bytes, unsigned. -/
def u32At (b : List Byte) (i : Nat) : Nat := u16At b i * 65536 + u16At b (i + 2)

/-- A number of n bits read as two's complement. -/
def signedOf (bits n : Nat) : Int := if 2 ^ bits ≤ 2 * n then (n : Int) - 2 ^ bits else n

/-- One byte, two's complement. -/
def s8At (b : List Byte) (i : Nat) : Int := signedOf 8 (u8At b i)

/-- Two bytes, two's complement. -/
def s16At (b : List Byte) (i : Nat) : Int := signedOf 16 (u16At b i)

/-- A slot or page index in 0 to 15, or `none`. -/
def indexOf (n : Nat) : Option (Fin 16) := if h : n < 16 then some ⟨n, h⟩ else none

/-! ### Draft puts (R92, R93, R177) -/

/-- A label field at an offset: its length byte and its first characters (R177). -/
def labelAt (present : Bool) (b : List Byte) (i : Nat) : Label :=
  if present then some ((b.drop (i + 1)).take (min 12 (u8At b i))) else none

/-- A label field that a put refuses: its length is above 12, or a character lies outside 32 to 126 (R24, R177). -/
def labelRefused (present : Bool) (b : List Byte) (i : Nat) : Bool :=
  present && (12 < u8At b i || !labelInRange (labelAt present b i))

/-- The number of the first refused entry field, in the order of R92; the entry stands at offset 1 of the body. -/
def entryRefusal (b : List Byte) : Option Nat :=
  let presence := u8At b 1
  if 8 ≤ presence then some 1
  else if 16 ≤ u8At b 0 then some 0
  else if 6000000 < u32At b 2 then some 2
  else if 6000000 < u32At b 6 then some 3
  else if presence.testBit 1 && 6000000 < u32At b 10 then some 4
  else if 3 < u8At b 14 then some 5
  else if labelRefused (presence.testBit 2) b 21 then some 10
  else none

/-- The entry a put stores, with its clamped fields (R92, step 4). -/
def entryStored (b : List Byte) : Entry where
  enabled := (u8At b 1).testBit 0
  rxKhz := u32At b 2
  txKhz := u32At b 6
  altRxKhz := if (u8At b 1).testBit 1 then some (u32At b 10) else none
  bwClass := Fin.ofNat 4 (u8At b 14)
  priority := Fin.ofNat 4 (min 3 (u8At b 15))
  share := min 1024 (u16At b 16)
  threshold := clampInt (-200) (-20) (s16At b 18)
  reacquireLimit := min 15 (u8At b 20)
  label := labelAt ((u8At b 1).testBit 2) b 21

/-- Some field of the entry was clamped (R92). -/
def entryClamped (b : List Byte) : Bool :=
  3 < u8At b 15 || 1024 < u16At b 16 || s16At b 18 < -200 || -20 < s16At b 18 || 15 < u8At b 20

/-- The number of the first refused header field, in the order of R93. -/
def headerRefusal (b : List Byte) : Option Nat :=
  let presence := u8At b 0
  if 2 ≤ presence then some 11
  else if u32At b 1 < 100000 || 5900000 < u32At b 1 then some 12
  else if u32At b 5 < 100000 || 5900000 < u32At b 5 then some 13
  else if labelRefused (presence.testBit 0) b 22 then some 11
  else none

/-- The clamp of lease_ms (R93): 0 is kept. -/
def clampLease (n : Nat) : Nat := if n = 0 then 0 else clampNat 500 60000 n

/-- The header a put stores, with its clamped fields (R93). -/
def headerStored (b : List Byte) : Header where
  rxCentre := u32At b 1
  txCentre := u32At b 5
  guardKhz := min 2000 (u16At b 9)
  ceiling := clampInt (-40) 0 (s8At b 11)
  rampMs := clampNat 10 2000 (u16At b 12)
  holdMs := min 10000 (u16At b 14)
  reacquireMs := clampNat 100 60000 (u16At b 16)
  levelMs := clampNat 10 1000 (u16At b 18)
  leaseMs := clampLease (u16At b 20)
  label := labelAt ((u8At b 0).testBit 0) b 22

/-- Some field of the header was clamped (R93). -/
def headerClamped (b : List Byte) : Bool :=
  (headerStored b).guardKhz ≠ u16At b 9 || (headerStored b).ceiling ≠ s8At b 11 || (headerStored b).rampMs ≠ u16At b 12
    || (headerStored b).holdMs ≠ u16At b 14 || (headerStored b).reacquireMs ≠ u16At b 16
    || (headerStored b).levelMs ≠ u16At b 18 || (headerStored b).leaseMs ≠ u16At b 20

end Sys2Proof.Machine
end

