-- ==== Sys2Proof/Machine/Update.lean ====
section
/-! DEFINITION. The updates of one block, one slot, one port or one page of the state, through which every operation
writes. -/

namespace Sys2Proof.Machine

/-- Change one slot's runtime record. -/
def State.modSlot (s : State) (i : SlotIx) (f : Slot → Slot) : State :=
  { s with slots := s.slots.set i (f s.slots[i]) }

/-- Change one slot's extraction. -/
def State.modExtraction (s : State) (i : SlotIx) (f : Extraction → Extraction) : State :=
  { s with extractions := s.extractions.set i (f s.extractions[i]) }

/-- Change one slot's placement. -/
def State.modPlacement (s : State) (i : SlotIx) (f : Placement → Placement) : State :=
  { s with placements := s.placements.set i (f s.placements[i]) }

/-- Change the Budget Allocator. -/
def State.modAlloc (s : State) (f : Allocator → Allocator) : State := { s with alloc := f s.alloc }

/-- Change one record of the grant table. -/
def State.modGrant (s : State) (i : SlotIx) (f : GrantRec → GrantRec) : State :=
  s.modAlloc fun a => { a with table := a.table.set i (f a.table[i]) }

/-- Change the combiner. -/
def State.modCombiner (s : State) (f : Combiner → Combiner) : State := { s with combiner := f s.combiner }

/-- Change the Plan Controller. -/
def State.modCtl (s : State) (f : Controller → Controller) : State := { s with ctl := f s.ctl }

/-- Change one port's draft. -/
def State.modDraft (s : State) (p : Port) (f : Draft → Draft) : State :=
  { s with drafts := s.drafts.set p (f (s.drafts.get p)) }

/-- Change Plan Memory. -/
def State.modMemory (s : State) (f : Memory → Memory) : State := { s with memory := f s.memory }

/-- Change one page. -/
def State.modPage (s : State) (i : PageIx) (f : Page → Page) : State :=
  s.modMemory fun m => { m with pages := m.pages.set i (f m.pages[i]) }

/-- Change one port. -/
def State.modPort (s : State) (p : Port) (f : PortState → PortState) : State :=
  { s with ports := s.ports.set p (f (s.ports.get p)) }

/-- Change the Authority Arbiter. -/
def State.modArbiter (s : State) (f : Arbiter → Arbiter) : State := { s with arbiter := f s.arbiter }

/-- Change the Event Ring. -/
def State.modRing (s : State) (f : Ring → Ring) : State := { s with ring := f s.ring }

/-- Change the Counter Bank. -/
def State.modCounters (s : State) (f : CounterBank → CounterBank) : State := { s with counters := f s.counters }

end Sys2Proof.Machine
end

