-- ==== Sys2Proof/Machine/Flags.lean ====
section
/-! DEFINITION. The output lines READY and ATTN, the transmitted bytes of a transfer, the cross flags as a number, the
authority view, and the engine's codes as the reading requests report them. -/

namespace Sys2Proof.Machine

/-- READY: asserted while the request queue has a free place, deasserted in reset (R132, R138). -/
def State.ready (s : State) (p : Port) : Bool := !s.inReset && (s.ports.get p).requests.length < 4

/-- ATTN: a response is queued or an event is unread; deasserted in reset (R132, R143). -/
def State.attn (s : State) (p : Port) : Bool :=
  !s.inReset && (!(s.ports.get p).responses.isEmpty || 0 < s.ring.unread.get p)

/-- The byte shifted out at position n of a transfer: the frame of the transfer, then fill bytes (R134). -/
def PortState.dataOut (x : PortState) (n : Nat) : Byte :=
  match x.frame with
  | some r => r.frameBytes.getD n 0
  | none => 0

/-- The own port holds authority (R158). -/
def State.holds (s : State) (p : Port) : Bool :=
  match s.arbiter.authority with
  | .held q _ => q = p
  | .open | .contested => false

/-- The holder, present in HELD alone (R150). -/
def Authority.holder : Authority → Option Port
  | .held q _ => some q
  | .open | .contested => none

/-- The manner of taking, present in HELD alone (R150). -/
def Authority.manner : Authority → Option Manner
  | .held _ m => some m
  | .open | .contested => none

/-- The authority view of a CLAIM response, eleven bytes (R151, R176). -/
def State.authorityView (s : State) : List Byte :=
  [byteOf s.arbiter.authority.code, optByte (s.arbiter.authority.holder.map portCode),
   optByte (s.arbiter.authority.manner.map Manner.code)]
    ++ be32 ((s.arbiter.lease.map reportMs).getD 0xFFFFFFFF)
    ++ timer16 s.arbiter.forceWindow ++ timer16 s.arbiter.contest

/-- A port's cross flags as a number: flag n counts 2 to the power n (R163). -/
def State.flagsByte (s : State) (p : Port) : Byte := (s.arbiter.flags.get p).setWidth 8

/-- The engine state code; IDLE is 0 (R175). -/
def Memory.engineCode (m : Memory) : Nat := (m.op.map EngineOp.code).getD 0

/-- The engine phase code (R175). -/
def Memory.phaseCode (m : Memory) : Nat := (m.op.map EngineOp.phaseCode).getD 0

/-! ### Trying a boot page (R125) -/

/-- The record a read of a page yields: its image's, when the stored check matches (R120, R125). -/
def Page.readRecord (x : Page) (intact : Bool) : Option Plan :=
  if intact then x.image.bind fun m => if m.matching then some m.record else none else none

/-- What trying one page gives: its result, its validation report and its record (R125). -/
structure Trial where
  result : TryResult
  report : Option Report
  record : Option Plan
  deriving DecidableEq, Repr

/-- A page is tried (R125). -/
def Page.try (x : Page) (intact : Bool) : Trial :=
  match x.state with
  | .blank => ⟨.blank, none, none⟩
  | .corrupt => ⟨.corrupt, none, none⟩
  | .valid =>
    match x.readRecord intact with
    | none => ⟨.corrupt, none, none⟩
    | some pl => if pl.valid then ⟨.used, none, some pl⟩ else ⟨.invalid, pl.report, none⟩

/-- A page whose trial found its check not matching becomes CORRUPT (R112, R125). -/
def Memory.markCorrupt (m : Memory) (pg : Option PageIx) (result : TryResult) : Memory :=
  match pg with
  | none => m
  | some g =>
    if result = .corrupt then { m with pages := m.pages.set g { m.pages[g] with state := .corrupt } } else m

/-! ### The engine's page -/

/-- The item that a read of the boot pages has come to. -/
def EngineOp.readItem : EngineOp → Option ReadItem
  | .startUpRead item => some item
  | .reloadRead item _ _ => some item
  | .store _ _ _ _ _ | .erase _ _ _ | .load _ _ _ | .bootWrite _ _ _ _ => none

/-- The page of an item, `none` while the boot record is read (R178). -/
def Memory.pageOfItem (m : Memory) (item : ReadItem) : Option PageIx :=
  match item with
  | .record => none
  | .primary => (readBoot m.boot).map fun r => r.1
  | .fallback _ => (readBoot m.boot).bind fun r => r.2

/-- The page of the operation in progress, as STATUS READ names it (R178). -/
def State.enginePage (s : State) : Option PageIx :=
  match s.memory.op with
  | none => none
  | some (.store pg _ _ _ _) => some pg
  | some (.erase pg _ _) => some pg
  | some (.load pg _ _) => some pg
  | some (.bootWrite pr _ _ _) => some pr
  | some (.startUpRead item) => s.memory.pageOfItem item
  | some (.reloadRead item _ _) => s.memory.pageOfItem item

/-- The engine is operating on a page's image (R122): a boot write operates on the boot record alone (log entry 14). -/
def State.operatingOn (s : State) (pg : PageIx) : Bool :=
  match s.memory.op with
  | none => false
  | some (.bootWrite _ _ _ _) => false
  | some (.store _ _ _ _ _) => s.enginePage = some pg
  | some (.erase _ _ _) => s.enginePage = some pg
  | some (.load _ _ _) => s.enginePage = some pg
  | some (.startUpRead _) => s.enginePage = some pg
  | some (.reloadRead _ _ _) => s.enginePage = some pg

end Sys2Proof.Machine
end

