-- ==== Sys2Proof/Machine/Ops.lean ====
section
/-! DEFINITION. The shared operations: writing events, counting, tuning, the transitions of a slot, the allocation run,
adoption and raising, and the installation of a plan. Each request and each event of the table is a line or a few
over these. -/

namespace Sys2Proof.Machine

/-! ### Event Ring (R170, R171) -/

/-- The sequence number after `n` (R170). -/
def nextSequence (n : Nat) : Nat := if n = 4294967295 then 1 else n + 1

/-- The unread count of a port after an event is written to a ring of `held` entries (R170, R171). -/
def unreadAfterWrite (held unread : Nat) : Nat := if 64 ≤ held && held ≤ unread then unread else unread + 1

/-- The lost count of a port after an event is written: it rises when the read position stands on the entry that the
write removes, and saturates at 255 (R171). -/
def lostAfterWrite (held unread lost : Nat) : Nat := if 64 ≤ held && held ≤ unread then min 255 (lost + 1) else lost

/-- The ring takes an event (R170, R171). -/
def Ring.write (r : Ring) (generation : Nat) (n : Notice) : Ring where
  entries := (if 64 ≤ r.entries.length then r.entries.tail else r.entries)
    ++ [⟨nextSequence r.sequence, generation, n⟩]
  sequence := nextSequence r.sequence
  unread := ⟨unreadAfterWrite r.entries.length r.unread.a, unreadAfterWrite r.entries.length r.unread.b⟩
  lost := ⟨lostAfterWrite r.entries.length r.unread.a r.lost.a, lostAfterWrite r.entries.length r.unread.b r.lost.b⟩

/-- A block hands an event to the ring; it carries the generation of the active plan at this moment (R29, R170). -/
def State.write (s : State) (n : Notice) : State := s.modRing fun r => r.write s.ctl.generation n

/-! ### Counter Bank (R165, R166) -/

/-- The kinds of a slot's counters (R164). -/
inductive SlotKind where
  | dips | losses | switches | attempts | shortfall | rampAborts
  deriving DecidableEq, Repr

/-- The kind code (R164). -/
def SlotKind.code : SlotKind → Nat
  | .dips => 0
  | .losses => 1
  | .switches => 2
  | .attempts => 3
  | .shortfall => 4
  | .rampAborts => 5

/-- A counter of a slot. -/
def SlotCounters.get (c : SlotCounters) : SlotKind → Nat
  | .dips => c.dips
  | .losses => c.losses
  | .switches => c.switches
  | .attempts => c.attempts
  | .shortfall => c.shortfall
  | .rampAborts => c.rampAborts

/-- Replace a counter of a slot. -/
def SlotCounters.put (c : SlotCounters) (k : SlotKind) (n : Nat) : SlotCounters :=
  match k with
  | .dips => { c with dips := n }
  | .losses => { c with losses := n }
  | .switches => { c with switches := n }
  | .attempts => { c with attempts := n }
  | .shortfall => { c with shortfall := n }
  | .rampAborts => { c with rampAborts := n }

/-- A 16-bit counter adds 1, wrapping from 65,535 to 0 (R144, R165). -/
def wrap16 (n : Nat) : Nat := if n = 65535 then 0 else n + 1

/-- A kind counts while the enable is on and the kind is not masked (R165). -/
def CounterBank.counting (c : CounterBank) (code : Nat) : Bool := c.enable && !c.mask.getLsbD code

/-- The three-quarter notice, written on the step from 49,151 to 49,152 (R166). -/
def State.noticeHigh (s : State) (before : Nat) (i : Option SlotIx) (code : Nat) : State :=
  if before = 49151 then s.write { kind := .counterHigh, slot := i, value1 := some code } else s

/-- A slot's counter counts (R165, R166). -/
def State.count (s : State) (k : SlotKind) (i : SlotIx) : State :=
  if s.counters.counting k.code then
    (s.modCounters fun c => { c with slots := c.slots.set i (c.slots[i].put k (wrap16 (c.slots[i].get k))) }).noticeHigh
      (s.counters.slots[i].get k) (some i) k.code
  else s

/-- The composite overload counter counts (R85, R165). -/
def State.countOverload (s : State) : State :=
  if s.counters.counting 6 then
    (s.modCounters fun c => { c with overload := wrap16 c.overload }).noticeHigh s.counters.overload none 6
  else s

/-- The composite clip counter counts (R85, R165). -/
def State.countClip (s : State) : State :=
  if s.counters.counting 7 then
    (s.modCounters fun c => { c with clip := wrap16 c.clip }).noticeHigh s.counters.clip none 7
  else s

/-! ### Extractions: retuning and the selected source (R11, R13) -/

/-- A retune: new offset and word, phase 0, accumulation and filter history cleared, settling begins (R10 to R13). -/
def Extraction.retune (x : Extraction) (offset : Int) : Extraction :=
  { x with offset := offset, word := tuningWord offset, phase := 0, accum := .empty,
           settling := some Config.settlingSamples, history := [] }

/-- The frequency of a source in an in-use copy; without an alternate it is the primary's. -/
def InUse.freq (u : InUse) : Source → Nat
  | .primary => u.rxKhz
  | .alternate => u.altRxKhz.getD u.rxKhz

/-- An extraction takes a source: a tuned one that changes source is retuned against the centre it was adopted under
(R11). -/
def Extraction.select (x : Extraction) (u : InUse) (src : Source) : Extraction :=
  if x.tuned && x.source ≠ src then
    { (x.retune (offsetOf (u.freq src) x.centre)) with source := src }
  else { x with source := src }

/-- The Slot Bank selects a slot's source (R11, R52). -/
def State.selectSource (s : State) (i : SlotIx) (src : Source) : State :=
  s.modExtraction i fun x => x.select s.slots[i].inUse src

/-- The other source. -/
def Source.flipped : Source → Source
  | .primary => .alternate
  | .alternate => .primary

/-- A slot whose copy has an alternate flips its source; the switch is counted and written (R47, R49, R52). The event
is written before the retune, which no event field reads. -/
def State.flipSource (s : State) (i : SlotIx) (cause : Cause) : State :=
  if s.slots[i].inUse.altRxKhz.isSome then
    let src := s.extractions[i].source.flipped
    ((s.count .switches i).write
      { kind := .sourceSwitched, slot := some i, value1 := some src.code, value2 := some s.slots[i].attempts,
        cause := some cause }).selectSource i src
  else s

/-! ### Transitions of a slot -/

/-- A slot's grant is recorded as 0 at once, and its target becomes absent (R57, R66). -/
def State.releaseGrant (s : State) (i : SlotIx) : State := s.modGrant i fun g => { g with grant := 0, target := none }

/-- A slot's recorded target level, 0 where it is absent (which no slot that reads it has). -/
def State.target (s : State) (i : SlotIx) : Int := s.alloc.table[i].target.getD 0

/-- The ramp duration in force (R42). -/
def State.rampSamples (s : State) : Nat := samplesOfMs s.ctl.active.header.rampMs

/-- The gain a rise ends at: T minus the last input level, clamped (R53). -/
def State.riseGain (s : State) (i : SlotIx) : Int := clampGain (s.target i - s.extractions[i].lastLevel)

/-- Entry to RISING (R53); the attempt count becomes 0 (R50) and the reacquire timer, running in MUTED alone, stops. -/
def State.enterRising (s : State) (i : SlotIx) : State :=
  s.modSlot i fun x =>
    { x with state := .rising, gain := s.riseGain i, endGain := s.riseGain i,
             ramp := some ⟨.rising, 0, s.rampSamples, 0⟩, reacquire := none, attempts := 0 }

/-- The SLOT_RECOVERED event of a slot (R64). -/
def State.writeRecovered (s : State) (i : SlotIx) (cause : Cause) : State :=
  s.write { kind := .slotRecovered, slot := some i, value1 := some s.extractions[i].lastLevel,
            value2 := some s.alloc.table[i].grant, cause := some cause }

/-- Entry to DEFERRED (R58): from MUTED the reacquire timer stops, the attempt count becomes 0 and the grant is recorded
as 0; SLOT_DEFERRED is written. -/
def State.enterDeferred (s : State) (i : SlotIx) (cause : Cause) : State :=
  ((s.modSlot i fun x =>
      { x with state := .deferred, reacquire := none, ramp := none,
               attempts := if x.state = .muted then 0 else x.attempts }).releaseGrant i).write
    { kind := .slotDeferred, slot := some i, value1 := some s.extractions[i].lastLevel, cause := some cause }

/-- The factor a ramp stands at (R42). -/
def Ramp.factor (r : Ramp) : Rat :=
  match r.dir with
  | .rising => (r.elapsed : Rat) / (r.duration : Rat)
  | .falling => r.start * (1 - (r.elapsed : Rat) / (r.duration : Rat))

/-- The factor a fall starts from: the rising ramp's, or 1 from ON and HOLD (R42). -/
def Slot.fallStart (x : Slot) : Rat :=
  match x.state, x.ramp with
  | .rising, some r => r.factor
  | _, _ => 1

/-- Entry to FALLING (R55). -/
def State.enterFalling (s : State) (i : SlotIx) (dest : FallDest) : State :=
  (s.modSlot i fun x =>
    { x with state := .falling, hold := none, ramp := some ⟨.falling, 0, s.rampSamples, x.fallStart⟩,
             fallDest := some dest }).releaseGrant i

/-- Entry to OFF (R59). -/
def State.enterOff (s : State) (i : SlotIx) : State :=
  (s.modSlot i fun x =>
    { x with state := .off, hold := none, reacquire := none, ramp := none, fallDest := none, attempts := 0 }).releaseGrant i

/-- The time a reacquire timer is started at (R47, R49, R63). -/
def State.reacquireSamples (s : State) : Nat := samplesOfMs s.ctl.active.header.reacquireMs

/-- Entry to MUTED by carrier loss (R47). -/
def State.loseCarrier (s : State) (i : SlotIx) (cause : Cause) : State :=
  let s1 := s.modSlot i fun x => { x with state := .muted, ramp := none, hold := none }
  let s2 := (s1.count .losses i).write
    { kind := .slotLost, slot := some i, value1 := some s.extractions[i].lastLevel,
      value2 := some s.slots[i].inUse.threshold, cause := some cause }
  (s2.flipSource i .loss).modSlot i fun x => { x with reacquire := some s.reacquireSamples }

/-! ### Claims and the allocation run (R67 to R71) -/

/-- A claimant: its active entry is enabled and the slot is not FAILED (R67). -/
def State.claimant (s : State) (i : SlotIx) : Bool :=
  s.ctl.active.entries[i].enabled && s.slots[i].state ≠ .failed

/-- A claimant that the run serves (R67). -/
def State.served (s : State) (raise : Bool) (i : SlotIx) : Bool :=
  s.claimant i && (match s.slots[i].state with
    | .deferred | .rising | .on | .hold | .muted => true
    | .off => raise
    | .falling | .failed => false)

/-- The share a slot's active entry asks for. -/
def State.share (s : State) (i : SlotIx) : Nat := s.ctl.active.entries[i].share

/-- A slot served at priority p. -/
def State.servedAt (s : State) (raise : Bool) (p : Nat) (i : SlotIx) : Bool :=
  s.served raise i && s.ctl.active.entries[i].priority.val = p

/-- The demand of a level (R68). -/
def State.demand (s : State) (raise : Bool) (p : Nat) : Nat :=
  ((allSlots.filter (s.servedAt raise p)).map s.share).sum

/-- The remainder R before level p is served (R68). -/
def State.remainder (s : State) (raise : Bool) : Nat → Nat
  | 0 => s.alloc.pool
  | p + 1 => if s.demand raise p ≤ s.remainder raise p then s.remainder raise p - s.demand raise p else 0

/-- The floor part of a cut claimant's grant (R68). -/
def cutFloor (share r d : Nat) : Nat := share * r / d

/-- The leftover L of a cut level (R69). -/
def State.leftover (s : State) (raise : Bool) (p : Nat) : Nat :=
  s.remainder raise p -
    ((allSlots.filter (s.servedAt raise p)).map fun j => cutFloor (s.share j) (s.remainder raise p) (s.demand raise p)).sum

/-- The claimants served at a cut level whose grant is below their share, which take the leftover in ascending index
(R69). -/
def State.shortAt (s : State) (raise : Bool) (p : Nat) : List SlotIx :=
  allSlots.filter fun j => s.servedAt raise p j
    && cutFloor (s.share j) (s.remainder raise p) (s.demand raise p) < s.share j

/-- The grant of a slot served at level p (R68, R69). -/
def State.grantAt (s : State) (raise : Bool) (p : Nat) (i : SlotIx) : Nat :=
  if s.demand raise p ≤ s.remainder raise p then s.share i
  else cutFloor (s.share i) (s.remainder raise p) (s.demand raise p)
    + (if ((s.shortAt raise p).take (s.leftover raise p)).contains i then 1 else 0)

/-- The grant a run computes for a slot: 0 for a slot it does not serve (R68). -/
def State.runGrant (s : State) (raise : Bool) (i : SlotIx) : Nat :=
  if s.served raise i then s.grantAt raise s.ctl.active.entries[i].priority.val i else 0

/-- The grant table a run writes: grants, targets and shares in force (R70, R71). -/
def State.runTable (s : State) (raise : Bool) : PerSlot GrantRec :=
  Vector.ofFn fun i =>
    ⟨s.runGrant raise i, targetOf s.ctl.active.header.ceiling (s.runGrant raise i), s.share i⟩

/-- The fall of target at a delivery, 0 when the target does not fall (R54, R76). -/
def targetFall (before after : Option Int) : Int :=
  match before, after with
  | some t, some t' => max 0 (t - t')
  | _, _ => 0

/-- A fall of target lowers the gain of a slot in ON or HOLD at once (R76), and the ramp end gain and gain of a RISING
slot (R54). -/
def Slot.cutGain (x : Slot) (fall : Int) : Slot :=
  if fall = 0 then x
  else match x.state with
    | .rising => { x with endGain := clampGain (x.endGain - fall), gain := clampGain (x.endGain - fall) }
    | .on | .hold => { x with gain := clampGain (x.gain - fall) }
    | .off | .deferred | .muted | .falling | .failed => x

/-- A slot acts on the grant it is given (R56; R61 for a slot just raised). -/
def State.deliver (raise : Bool) (before : PerSlot GrantRec) (s : State) (i : SlotIx) : State :=
  let g := s.alloc.table[i].grant
  match s.slots[i].state with
  | .off =>
    if raise && s.claimant i then
      if 0 < g then s.enterRising i else s.enterDeferred i .raise
    else s
  | .deferred => if 0 < g then (s.enterRising i).writeRecovered i .grant else s
  | .rising | .on | .hold =>
    if g = 0 then s.enterFalling i .deferred
    else s.modSlot i fun x => x.cutGain (targetFall before[i].target s.alloc.table[i].target)
  | .muted => if g = 0 then s.enterDeferred i .grant else s
  | .falling | .failed => s

/-- The grants of a run are given to the slots, in ascending index (R71; log entry 12). -/
def State.deliverAll (raise : Bool) (before : PerSlot GrantRec) (s : State) : State :=
  allSlots.foldl (State.deliver raise before) s

/-- An allocation run (R68 to R71). -/
def State.run (s : State) (raise : Bool) : State :=
  State.deliverAll raise s.alloc.table (s.modAlloc fun a => { a with table := s.runTable raise })

/-- An event that starts a run: the run is made while the Allocator is free, and made pending while it is held (R72,
R73). -/
def State.startRun (s : State) : State :=
  if s.alloc.held then s.modAlloc fun a => { a with pendingRun := true } else s.run false

/-- The Plan Controller holds the Allocator (R73). -/
def State.holdAlloc (s : State) : State := s.modAlloc fun a => { a with held := true }

/-- Release with a raise: the raise run, pending or not; a release of a free Allocator changes nothing (R74). -/
def State.releaseWithRaise (s : State) : State :=
  if s.alloc.held then (s.modAlloc fun a => { a with held := false, pendingRun := false }).run true else s

/-- Release without a raise: one run if one is pending; a release of a free Allocator changes nothing (R74). -/
def State.releaseWithoutRaise (s : State) : State :=
  if s.alloc.held then
    let s1 := s.modAlloc fun a => { a with held := false, pendingRun := false }
    if s.alloc.pendingRun then s1.run false else s1
  else s

/-! ### Failing and reviving (R49 to R51, R63) -/

/-- Entry to FAILED (R51). -/
def State.enterFailed (s : State) (i : SlotIx) : State :=
  (((s.modSlot i fun x => { x with state := .failed, reacquire := none }).releaseGrant i).write
    { kind := .slotFailed, slot := some i, value1 := some s.slots[i].attempts,
      value2 := some s.extractions[i].source.code }).startRun

/-- The steps of a revived slot (R63); the event carries the port and tag of a request, or the cause LIMIT (R50). -/
def State.reviveSlot (s : State) (i : SlotIx) (port : Option Port) (tag : Option Byte) (cause : Cause) : State :=
  let s1 := ((s.modSlot i fun x => { x with attempts := 0 }).selectSource i .primary).modSlot i fun x =>
    { x with state := .muted, reacquire := some s.reacquireSamples }
  ((s1.releaseGrant i).startRun).write
    { kind := .slotRevived, slot := some i, port := port, tag := tag, value1 := some s.extractions[i].source.code,
      cause := some cause }

/-- The reacquire timer runs out in MUTED: one attempt (R49). -/
def State.attempt (s : State) (i : SlotIx) : State :=
  let limit := s.ctl.active.entries[i].reacquireLimit
  let s1 := (s.modSlot i fun x => { x with attempts := min 255 (x.attempts + 1) }).count .attempts i
  if 0 < limit && s1.slots[i].attempts = limit then s1.enterFailed i
  else (s1.flipSource i .expiry).modSlot i fun x => { x with reacquire := some s.reacquireSamples }

/-- A changed reacquire_limit adjusts the attempt count of a slot that is not drained (R50). -/
def State.adjustLimit (s : State) (i : SlotIx) (limit : Nat) : State :=
  if s.slots[i].state = .failed then
    if limit = 0 then s.reviveSlot i none none .limit
    else s.modSlot i fun x => { x with attempts := limit }
  else if 0 < limit && limit ≤ s.slots[i].attempts then s.modSlot i fun x => { x with attempts := limit - 1 }
  else s

/-! ### Adoption and raising (R10, R61, R107) -/

/-- The in-use fields of an entry (R40). -/
def Entry.inUse (e : Entry) : InUse := ⟨e.enabled, e.rxKhz, e.txKhz, e.altRxKhz, e.bwClass, e.threshold⟩

/-- An extraction at adoption: idle, kept or retuned (R10). R10 names neither the settling condition nor the filter
history that an adoption of a disabled entry leaves: the model leaves the extraction settled and its history cleared, as
after a device reset (DESIGN CHOICE, safe: log entry 24). -/
def Extraction.adopt (x : Extraction) (h : Header) (e : Entry) : Extraction :=
  if !e.enabled then
    { x with tuned := false, offset := 0, word := 0, bwClass := 0, source := .primary, phase := 0, settling := none,
             accum := .empty, lastLevel := -200, centre := 0, history := [] }
  else if x.tuned && x.source = .primary && x.offset = offsetOf e.rxKhz h.rxCentre && x.bwClass = e.bwClass then
    { x with centre := h.rxCentre }
  else
    { (x.retune (offsetOf e.rxKhz h.rxCentre)) with
      tuned := true, bwClass := e.bwClass, source := .primary, lastLevel := -200, centre := h.rxCentre }

/-- A placement at adoption (R10). -/
def Placement.adopt (h : Header) (e : Entry) : Placement :=
  if e.enabled then ⟨true, offsetOf e.txKhz h.txCentre, tuningWord (offsetOf e.txKhz h.txCentre), 0⟩ else ⟨false, 0, 0, 0⟩

/-- A raise order: the slot adopts its active entry and waits in OFF for the raise run (R61). -/
def State.raiseOrder (s : State) (i : SlotIx) : State :=
  let e := s.ctl.active.entries[i]
  let h := s.ctl.active.header
  ((s.modSlot i fun x => { x with inUse := e.inUse, attempts := 0, hold := none, reacquire := none }).modExtraction i
    fun x => x.adopt h e).modPlacement i fun _ => Placement.adopt h e

/-- The number of slots of a set in a state. -/
def State.countIn (s : State) (set : PerSlot Bool) (st : SlotState) : Nat :=
  (allSlots.filter fun i => set[i] && s.slots[i].state = st).length

/-- An empty set of slots. -/
def noSlots : PerSlot Bool := Vector.replicate 16 false

/-- The members of a set of slots, in ascending index. -/
def members (set : PerSlot Bool) : List SlotIx := allSlots.filter fun i => set[i]

/-- The Controller returns to READY and the change ends (R107). -/
def State.endChange (s : State) : State :=
  s.modCtl fun c => { c with state := .ready, drainSet := noSlots, awaiting := noSlots, incoming := none, change := none }

/-- The event that ends a change: COMMIT_DONE, or RELOAD_DONE for a reload (R107, R108, R111). -/
def doneNotice (c : Option Change) (rising deferred : Nat) : Option Notice :=
  match c with
  | some (.commit p tag) =>
    some { kind := .commitDone, port := some p, tag := some tag, value1 := some rising, value2 := some deferred }
  | some (.reload p tag) =>
    some { kind := .reloadDone, port := some p, tag := some tag, value1 := some rising, value2 := some deferred }
  | some .startUp => none
  | none => none

/-- Write an event if there is one. -/
def State.writeOpt (s : State) (n : Option Notice) : State :=
  match n with
  | some e => s.write e
  | none => s

/-- RAISING, taken whole: raise orders, the raise run, READY and the closing event (R107). -/
def State.raise (s : State) : State :=
  let s1 := (s.modCtl fun c => { c with state := .raising })
  let s2 := ((members s.ctl.drainSet).foldl State.raiseOrder s1).releaseWithRaise
  s2.endChange.writeOpt
    (doneNotice s.ctl.change (s2.countIn s.ctl.drainSet .rising) (s2.countIn s.ctl.drainSet .deferred))

/-! ### Installing a plan (R100 to R105, R111) -/

/-- A slot is on the air in RISING, ON, HOLD and FALLING (R41). -/
def SlotState.onAir : SlotState → Bool
  | .rising | .on | .hold | .falling => true
  | .off | .deferred | .muted | .failed => false

/-- A band centre changes from one header to another (R101). -/
def centreChanged (h h' : Header) : Bool := h.rxCentre ≠ h'.rxCentre || h.txCentre ≠ h'.txCentre

/-- A slot is drained: its in-use copy U and the incoming entry N differ in what needs a raise (R101). -/
def drains (u : InUse) (n : Entry) (centre : Bool) : Bool :=
  u.enabled ≠ n.enabled || n.rxKhz ≠ u.rxKhz || n.txKhz ≠ u.txKhz || n.bwClass ≠ u.bwClass || n.altRxKhz ≠ u.altRxKhz
    || (u.enabled && centre)

/-- The drain set of an incoming plan (R101). -/
def State.drainSetFor (s : State) (p : Plan) : PerSlot Bool :=
  Vector.ofFn fun i => drains s.slots[i].inUse p.entries[i] (centreChanged s.ctl.active.header p.header)

/-- The spacing bound between the in-use placements of two slots, with a guard (R103). -/
def State.inUseSpacing (s : State) (guardKhz : Nat) (i j : SlotIx) : Bool :=
  spacingTest s.slots[i].inUse.txKhz s.slots[j].inUse.txKhz (widthKhz s.slots[i].inUse.bwClass)
    (widthKhz s.slots[j].inUse.bwClass) guardKhz

/-- A drained slot on the air that breaches the incoming guard, and is cut (R103). -/
def State.cuts (s : State) (drain : PerSlot Bool) (guardKhz : Nat) (i : SlotIx) : Bool :=
  drain[i] && s.slots[i].state.onAir && allSlots.any fun j =>
    j ≠ i && (if drain[j] then s.slots[j].state.onAir else s.slots[j].inUse.enabled) && !s.inUseSpacing guardKhz i j

/-- The slots given cut orders (R103). -/
def State.cutSetFor (s : State) (p : Plan) : PerSlot Bool :=
  Vector.ofFn fun i => s.cuts (s.drainSetFor p) p.header.guardKhz i

/-- A slot that is not drained takes up its new threshold and limit at once (R62, R102). -/
def State.levelOnly (old : Plan) (s : State) (i : SlotIx) : State :=
  let n := s.ctl.active.entries[i]
  let s1 := s.modSlot i fun x => { x with inUse := { x.inUse with threshold := n.threshold } }
  if n.reacquireLimit = old.entries[i].reacquireLimit then s1 else s1.adjustLimit i n.reacquireLimit

/-- A drain order (R60). -/
def State.drainOrder (s : State) (i : SlotIx) : State :=
  match s.slots[i].state with
  | .rising | .on | .hold => s.enterFalling i .off
  | .falling => s.modSlot i fun x => { x with fallDest := some .off }
  | .muted | .deferred | .failed => s.enterOff i
  | .off => s

/-- The state a plan is made active in: incoming and active plan, generation, change and drain set (R100, steps 1 to 4,
R111). -/
def State.takePlan (s : State) (p : Plan) (c : Change) : State :=
  s.holdAlloc.modCtl fun x =>
    { x with state := .draining, active := p, incoming := some p, generation := nextGeneration x.generation,
             change := some c, drainSet := s.drainSetFor p, awaiting := noSlots }

/-- The COMMIT_BEGUN event of a commit; a reload writes none (R108, R111). -/
def begunNotice (c : Change) (drained cut : Nat) : Option Notice :=
  match c with
  | .commit p tag =>
    some { kind := .commitBegun, port := some p, tag := some tag, value1 := some drained, value2 := some cut }
  | .reload _ _ => none
  | .startUp => none

/-- The orders of an installation: level-only changes, then cut orders, then drain orders (R100, steps 5 to 7, R104). -/
def State.sendOrders (s : State) (old : Plan) (drain cut : PerSlot Bool) : State :=
  let s1 := (allSlots.filter fun i => !drain[i]).foldl (State.levelOnly old) s
  let s2 := (members cut).foldl State.enterOff s1
  (allSlots.filter fun i => drain[i] && !cut[i]).foldl State.drainOrder s2

/-- The awaiting set: the drained slots that replied *falling* (R104). -/
def State.awaitFalls (s : State) (drain : PerSlot Bool) : State :=
  s.modCtl fun c => { c with awaiting := Vector.ofFn fun i => drain[i] && s.slots[i].state = .falling }

/-- RAISING is entered as soon as the awaiting set is empty (R104, R105). -/
def State.raiseIfDrained (s : State) : State := if (members s.ctl.awaiting).isEmpty then s.raise else s

/-- A plan is installed through DRAINING, and RAISING if no slot must fall (R100, R104, R111). -/
def State.install (s : State) (p : Plan) (c : Change) : State :=
  let drain := s.drainSetFor p
  let cut := s.cutSetFor p
  let s1 := (s.takePlan p c).writeOpt (begunNotice c (members drain).length (members cut).length)
  ((s1.sendOrders s.ctl.active drain cut).awaitFalls drain).raiseIfDrained

/-- A fall completes: the slot enters its destination, and the Controller takes the report (R55, R105). -/
def State.completeFall (s : State) (i : SlotIx) : State :=
  match s.slots[i].fallDest with
  | some .deferred =>
    (s.modSlot i fun x => { x with fallDest := none }).enterDeferred i .grant
  | some .off | none =>
    let s1 := s.enterOff i
    if s1.ctl.state = .draining && s1.ctl.awaiting[i] then
      (s1.modCtl fun c => { c with awaiting := c.awaiting.set i false }).raiseIfDrained
    else s1

/-! ### The lease (R155, R157) -/

/-- The lease timer as a start or restart leaves it: stopped under a lease_ms of 0 (R157). -/
def State.freshLease (s : State) : Option Nat :=
  if s.ctl.active.header.leaseMs = 0 then none else some (samplesOfMs s.ctl.active.header.leaseMs)

/-- A success on the holder's port restarts the lease (R145, R155). -/
def State.renewLease (s : State) (p : Port) (st : Status) : State :=
  if st.success && s.holds p then s.modArbiter fun a => { a with lease := s.freshLease } else s

end Sys2Proof.Machine
end

