-- ==== Sys2Proof/Machine/Requests.lean ====
section
/-! DEFINITION. The taking and answering of requests (R139 to R141, R145), and the refusals that several requests
share (R158, R176). -/

namespace Sys2Proof.Machine

/-- The outcome of a command that a device reset in force holds off: while RESET is asserted the part stays at its reset
values (R132, section 6.9). -/
def State.running (s : State) (f : State → State) : Host.Outcome State Fault Refusal :=
  .next (if s.inReset then s else f s)

/-- The answer joins the response queue, unless the request is quiet and succeeds (R140); the port reports a success to
the Arbiter, which renews the holder's lease (R145). -/
def State.respond (s : State) (p : Port) (r : Request) (a : Reply) : State :=
  let s1 := s.renewLease p a.status
  if r.quiet && a.status.success then s1
  else s1.modPort p fun x => { x with responses := x.responses ++ [⟨r.tag, r.code, a.status, a.body⟩] }

/-- The oldest request leaves the queue (R139). -/
def State.dequeue (s : State) (p : Port) : State := s.modPort p fun x => { x with requests := x.requests.tail }

/-- The body of a refusal at a form check: empty (R141), but that every COMMIT response carries the active generation
(R98, R176). R154 gives every RELEASE response the authority view, and R151, R32, R96 and R162 say the like of CLAIM, PLAN
READ, DRAFT GET and FLAGS WRITE, where R141 and R176 give these refusals an empty body; the model answers the empty body
(DESIGN CHOICE, unsafe: log entry 26). -/
def State.formBody (s : State) (row : RequestRow) : List Byte := if row = .commit then be16 s.ctl.generation else []

/-- A taken request is judged: its form first (R141), then by its owning block, and answered in the same action (R139). -/
def State.judge (s : State) (p : Port) (r : Request) (handler : Port → Request → State → State × Reply) : State :=
  match formCheck r with
  | some st => (s.dequeue p).respond p r ⟨st, s.formBody (requestRow r)⟩
  | none =>
    let out := handler p r (s.dequeue p)
    out.1.respond p r out.2

/-- The port takes its oldest request when that request is of the row, and the response queue has a free place (R139).
In every other state the taking does not happen (log entry 3). -/
def State.take (s : State) (p : Port) (row : RequestRow) (handler : Port → Request → State → State × Reply) :
    Host.Outcome State Fault Refusal :=
  s.running fun s =>
    match (s.ports.get p).requests with
    | [] => s
    | r :: _ => if requestRow r = row && (s.ports.get p).responses.length < 8 then s.judge p r handler else s

/-! ### Refusals -/

/-- A refusal with an empty body. -/
def refuse (st : Status) : Reply := ⟨st, []⟩

/-- The body of NOT_AUTHORITY: authority state, and holder or 0xFF (R176). -/
def State.authorityBrief (s : State) : List Byte :=
  [byteOf s.arbiter.authority.code, optByte (s.arbiter.authority.holder.map portCode)]

/-- The authority check (R158): `none` when the own port holds. -/
def State.authorityRefusal (s : State) (p : Port) : Option Reply :=
  match s.arbiter.authority with
  | .held q _ => if q = p then none else some ⟨.notAuthority, s.authorityBrief⟩
  | .open => some ⟨.notAuthority, s.authorityBrief⟩
  | .contested => some ⟨.contested, s.authorityView⟩

/-- The generation and controller state that NOT_READY and BUSY_PLAN carry (R176). -/
def State.planBody (s : State) : List Byte := be16 s.ctl.generation ++ [byteOf s.ctl.state.code]

/-- BUSY_MEMORY, with the engine's state and phase (R176). -/
def State.busyMemory (s : State) : Reply := ⟨.busyMemory, [byteOf s.memory.engineCode, byteOf s.memory.phaseCode]⟩

/-- DRAFT_BUSY, with the page being loaded (R176), when the own draft is LOADING (R91). -/
def State.draftRefusal (s : State) (p : Port) : Option Reply :=
  (s.drafts.get p).loading.map fun pg => ⟨.draftBusy, [byteOf pg.val]⟩

/-- The start index and count of a run of entries, refused when out of range (R32, R96). -/
def runInRange (start count : Nat) : Bool := start ≤ 15 && 1 ≤ count && count ≤ 16

end Sys2Proof.Machine
end

