-- ==== Sys2Proof/Machine/PortRequests.lean ====
section
/-! DEFINITION. The port's own requests: IDENTIFY, NOP, STATUS READ and PORT CLEAR, and the refusal of a code that names
no request (R141, R146 to R149, R178). -/

namespace Sys2Proof.Machine

/-- The body of an IDENTIFY response (R146, R178): vendor code 0x0B37, part code 4216, revision, "Pelfram". -/
def identityBody : List Byte :=
  be16 0x0B37 ++ be16 4216 ++ [Config.revision, 7] ++ [0x50, 0x65, 0x6C, 0x66, 0x72, 0x61, 0x6D]

def onIdentify (_ : Port) (_ : Request) (s : State) : State × Reply := (s, ⟨.ok, identityBody⟩)

def onNop (_ : Port) (r : Request) (s : State) : State × Reply := (s, ⟨.ok, r.body⟩)

/-- The body of a STATUS READ response (R148, R178). -/
def State.statusBody (s : State) (p : Port) : List Byte :=
  [byteOf s.arbiter.authority.code, optByte (s.arbiter.authority.holder.map portCode), s.flagsByte .a, s.flagsByte .b]
    ++ be16 s.ctl.generation
    ++ [byteOf s.ctl.state.code, byteOf s.memory.engineCode, byteOf s.memory.phaseCode,
        optByte (s.enginePage.map Fin.val)]
    ++ allSlots.map (fun i => byteOf s.slots[i].state.code)
    ++ [byteOf s.combiner.state.code] ++ be16 s.alloc.pool
    ++ be16 (s.ports.get p).badFrames ++ be16 (s.ports.get p).overruns
    ++ [byteOf (s.ring.unread.get p), byteOf (s.ring.lost.get p)]

def onStatusRead (p : Port) (_ : Request) (s : State) : State × Reply := (s, ⟨.ok, s.statusBody p⟩)

/-! ### Authority given up (R153, R154, R160) -/

/-- The AUTHORITY event of a change of authority: the state and holder it leaves (R160). -/
def State.writeAuthority (s : State) (port : Option Port) (tag : Option Byte) (cause : Cause) : State :=
  s.write { kind := .authority, port := port, tag := tag, value1 := some s.arbiter.authority.code,
            value2 := s.arbiter.authority.holder.map fun q => (portCode q : Int), cause := some cause }

/-- Authority becomes OPEN; the three timers are stopped (R153, R154, R156). -/
def Arbiter.toOpen (a : Arbiter) : Arbiter :=
  { a with authority := .open, lease := none, forceWindow := none, contest := none }

/-- A RELEASE or PORT CLEAR of this port changes authority: it holds, or authority is contested (R153, R154). -/
def State.gives (s : State) (p : Port) : Bool :=
  match s.arbiter.authority with
  | .held q _ => q = p
  | .contested => true
  | .open => false

/-- Authority is given up, or a contest ended, where R154 says so. -/
def State.giveUp (s : State) (p : Port) : State := if s.gives p then s.modArbiter Arbiter.toOpen else s

/-- The FLAGS event, written when a port's flags changed (R163). -/
def State.writeFlags (s : State) (p : Port) (tag : Option Byte) (old new : BitVec 4) (cause : Cause) : State :=
  if old = new then s
  else s.write { kind := .flags, port := some p, tag := tag, value1 := some new.toNat, value2 := some old.toNat,
                 cause := some cause }

/-- PORT CLEAR, steps 1 to 6 (R149): queues, flags, authority, read position, lost count and port counters; then the
AUTHORITY event and the FLAGS event. -/
def State.clearPort (s : State) (p : Port) : State :=
  let s1 := s.modPort p fun x =>
    { x with requests := [], responses := [], frameAtHead := false, badFrames := 0, overruns := 0 }
  let s2 := (s1.modArbiter fun a => { a with flags := a.flags.set p 0 }).giveUp p
  let s3 := s2.modRing fun r => { r with unread := r.unread.set p 0, lost := r.lost.set p 0 }
  let s4 := if s.gives p then s3.writeAuthority (some p) none .clear else s3
  s4.writeFlags p none (s.arbiter.flags.get p) 0 .clear

def onPortClear (p : Port) (_ : Request) (s : State) : State × Reply := (s.clearPort p, ⟨.ok, []⟩)

/-- Never reached: a code that names no request is refused by the form checks (R141). -/
def onUnknown (_ : Port) (_ : Request) (s : State) : State × Reply := (s, refuse .unknownRequest)

/-- IDENTIFY (R146). -/
def execIdentify (p : Port) (s : State) : Host.Outcome State Fault Refusal := s.take p .identify onIdentify

/-- NOP (R147). -/
def execNop (p : Port) (s : State) : Host.Outcome State Fault Refusal := s.take p .nop onNop

/-- STATUS READ (R148). -/
def execStatusRead (p : Port) (s : State) : Host.Outcome State Fault Refusal := s.take p .statusRead onStatusRead

/-- PORT CLEAR (R149). -/
def execPortClear (p : Port) (s : State) : Host.Outcome State Fault Refusal := s.take p .portClear onPortClear

/-- A taken request whose code names no request (R141). -/
def execUnknownRequest (p : Port) (s : State) : Host.Outcome State Fault Refusal := s.take p .unknown onUnknown

end Sys2Proof.Machine
end

