-- ==== Sys2Proof/Machine/AuthorityRequests.lean ====
section
/-! DEFINITION. The Authority Arbiter: CLAIM, RELEASE and FLAGS WRITE, and the expiries of its three timers
(spec/08_authority_and_cross_flags.md). -/

namespace Sys2Proof.Machine

/-- Ten seconds: the force window and the contest timer (R150). -/
def tenSeconds : Nat := samplesOfMs 10000

/-- A port takes authority: the lease timer starts, and a force starts its window (R151, R152, R155). -/
def State.takeAuthority (s : State) (p : Port) (m : Manner) : State :=
  s.modArbiter fun a =>
    { a with authority := .held p m, lease := s.freshLease, contest := none,
             forceWindow := match m with | .claim => none | .force => some tenSeconds }

/-- A claim that finds authority OPEN (R151, R152). -/
def State.claimOpen (s : State) (p : Port) (tag : Byte) : State :=
  (s.takeAuthority p .claim).writeAuthority (some p) (some tag) .claim

/-- An answer with the authority view as it stands after the request (R151). -/
def State.withView (s : State) (st : Status) : State × Reply := (s, ⟨st, s.authorityView⟩)

/-- CLAIM with mode NORMAL (R151). A mode that names no value is refused with BAD_ARGUMENT (R176): R151 gives every CLAIM
response the authority view and R176 gives that refusal an empty body; the model answers the empty body (DESIGN CHOICE,
unsafe: log entry 26). -/
def onClaimNormal (p : Port) (r : Request) (s : State) : State × Reply :=
  if 1 < u8At r.body 0 then (s, refuse .badArgument)
  else match s.arbiter.authority with
    | .open => (s.claimOpen p r.tag).withView .ok
    | .held q _ => if q = p then (s.renewLease p .ok).withView .ok else s.withView .heldByOther
    | .contested => s.withView .contested

/-- A force meets a running force window: CONTESTED (R152, R153). -/
def State.enterContested (s : State) (p : Port) (tag : Byte) : State :=
  (s.modArbiter fun a =>
    { a with authority := .contested, lease := none, forceWindow := none, contest := some tenSeconds }).writeAuthority
    (some p) (some tag) .contest

/-- CLAIM with mode FORCE (R152). -/
def onClaimForce (p : Port) (r : Request) (s : State) : State × Reply :=
  match s.arbiter.authority with
  | .open => (s.claimOpen p r.tag).withView .ok
  | .contested => s.withView .contested
  | .held q m =>
    if q = p then (s.renewLease p .ok).withView .ok
    else if m = .force && s.arbiter.forceWindow.isSome then (s.enterContested p r.tag).withView .contested
    else ((s.takeAuthority p .force).writeAuthority (some p) (some r.tag) .force).withView .ok

/-- RELEASE (R154): every answer of its own rule carries the authority view, NOT_AUTHORITY too, to which R176 gives the
first two bytes of it (log entry 13). A refusal at a form check comes before this (log entry 26). -/
def onRelease (p : Port) (r : Request) (s : State) : State × Reply :=
  if s.gives p then ((s.giveUp p).writeAuthority (some p) (some r.tag) .release).withView .ok
  else s.withView .notAuthority

/-- FLAGS WRITE (R162, R163, R176). R162 has both ports read the flags in every FLAGS WRITE response and R176 gives
BAD_ARGUMENT an empty body; the model answers the empty body (DESIGN CHOICE, unsafe: log entry 26). -/
def onFlagsWrite (p : Port) (r : Request) (s : State) : State × Reply :=
  if 16 ≤ u8At r.body 0 then (s, refuse .badArgument)
  else
    let new := BitVec.ofNat 4 (u8At r.body 0)
    let s1 := (s.modArbiter fun a => { a with flags := a.flags.set p new }).writeFlags p (some r.tag)
      (s.arbiter.flags.get p) new .write
    (s1, ⟨.ok, [s1.flagsByte .a, s1.flagsByte .b]⟩)

/-- CLAIM, mode NORMAL (R151). -/
def execClaimNormal (p : Port) (s : State) : Host.Outcome State Fault Refusal := s.take p .claimNormal onClaimNormal

/-- CLAIM, mode FORCE (R152). -/
def execClaimForce (p : Port) (s : State) : Host.Outcome State Fault Refusal := s.take p .claimForce onClaimForce

/-- RELEASE (R154). -/
def execRelease (p : Port) (s : State) : Host.Outcome State Fault Refusal := s.take p .release onRelease

/-- FLAGS WRITE (R162). -/
def execFlagsWrite (p : Port) (s : State) : Host.Outcome State Fault Refusal := s.take p .flagsWrite onFlagsWrite

/-- The lease timer runs out (R156): the AUTHORITY event names the port that lost authority. -/
def State.lapse (s : State) : State :=
  match s.arbiter.authority with
  | .held q _ => (s.modArbiter Arbiter.toOpen).writeAuthority (some q) none .lapse
  | .open | .contested => s

/-- LEASE_EXPIRY: a lease timer that is stopped does not run out (R156, R157). -/
def execLeaseExpiry (s : State) : Host.Outcome State Fault Refusal :=
  s.running fun s => if s.arbiter.lease.isSome then s.lapse else s

/-- CONTEST_TIMER_EXPIRY (R153). -/
def execContestTimerExpiry (s : State) : Host.Outcome State Fault Refusal :=
  s.running fun s =>
    if s.arbiter.authority = .contested && s.arbiter.contest.isSome then
      (s.modArbiter Arbiter.toOpen).writeAuthority none none .contestEnd
    else s

/-- FORCE_WINDOW_EXPIRY: the holder and the manner stay (R150). -/
def execForceWindowExpiry (s : State) : Host.Outcome State Fault Refusal :=
  s.running fun s => s.modArbiter fun a => { a with forceWindow := none }

end Sys2Proof.Machine
end

