-- ==== Sys2Proof/Machine/Counters.lean ====
section
/-! DEFINITION. COUNTER CONTROL, COUNTER READ and EVENT READ (R167, R168, R173). -/

namespace Sys2Proof.Machine

/-- COUNTER CONTROL (R167): the enable selector, then authority (R176). -/
def onCounterControl (p : Port) (r : Request) (s : State) : State × Reply :=
  let enable := u8At r.body 0
  let mask := r.body.getD 1 0
  if 1 < enable then (s, refuse .badArgument)
  else match s.authorityRefusal p with
    | some a => (s, a)
    | none =>
      (s.modCounters fun c => { c with enable := enable = 1, mask := mask }, ⟨.ok, [flagByte (enable = 1), mask]⟩)

/-- The six counters of a slot, in kind order (R168). -/
def SlotCounters.bytes (c : SlotCounters) : List Byte :=
  be16 c.dips ++ be16 c.losses ++ be16 c.switches ++ be16 c.attempts ++ be16 c.shortfall ++ be16 c.rampAborts

/-- What a COUNTER READ returns and, with the clear, the bank it leaves (R168): target 0x10 is the composite. -/
def CounterBank.read (c : CounterBank) (target : Nat) (clear : Bool) : Option (CounterBank × List Byte) :=
  match indexOf target with
  | some i =>
    some (if clear then { c with slots := c.slots.set i ⟨0, 0, 0, 0, 0, 0⟩ } else c, c.slots[i].bytes)
  | none =>
    if target = 16 then
      some (if clear then { c with overload := 0, clip := 0 } else c, be16 c.overload ++ be16 c.clip)
    else none

/-- COUNTER READ (R168): the clear selector, then authority when a clear is asked for, then the target (R158, R176). -/
def onCounterRead (p : Port) (r : Request) (s : State) : State × Reply :=
  let target := u8At r.body 0
  let clear := u8At r.body 1 = 1
  if 1 < u8At r.body 1 then (s, refuse .badArgument)
  else match (if clear then s.authorityRefusal p else none) with
    | some a => (s, a)
    | none =>
      match s.counters.read target clear with
      | none => (s, refuse .badArgument)
      | some (c, bs) =>
        (s.modCounters fun _ => c,
          ⟨.ok, [byteOf target, flagByte s.counters.enable, s.counters.mask, flagByte clear] ++ bs⟩)

/-- The unread entries of a port, oldest first (R169). -/
def Ring.unreadEntries (r : Ring) (p : Port) : List Event := r.entries.drop (r.entries.length - r.unread.get p)

/-- EVENT READ (R173). -/
def onEventRead (p : Port) (r : Request) (s : State) : State × Reply :=
  let maximum := u8At r.body 0
  if maximum = 0 || 8 < maximum then (s, refuse .badArgument)
  else
    let taken := (s.ring.unreadEntries p).take maximum
    let left := s.ring.unread.get p - taken.length
    (s.modRing fun g => { g with unread := g.unread.set p left, lost := g.lost.set p 0 },
      ⟨.ok, [byteOf (s.ring.lost.get p), byteOf taken.length, byteOf left] ++ taken.flatMap Event.bytes⟩)

/-- COUNTER CONTROL (R167). -/
def execCounterControl (p : Port) (s : State) : Host.Outcome State Fault Refusal :=
  s.take p .counterControl onCounterControl

/-- COUNTER READ (R168). -/
def execCounterRead (p : Port) (s : State) : Host.Outcome State Fault Refusal := s.take p .counterRead onCounterRead

/-- EVENT READ (R173). -/
def execEventRead (p : Port) (s : State) : Host.Outcome State Fault Refusal := s.take p .eventRead onEventRead

end Sys2Proof.Machine
end

