-- ==== Sys2Proof/Machine/Drafts.lean ====
section
/-! DEFINITION. The drafts and COMMIT (R90 to R104). -/

namespace Sys2Proof.Machine

/-- A request that writes the own draft: refused while it is LOADING (R91). -/
def State.editDraft (s : State) (p : Port) (f : State → State × Reply) : State × Reply :=
  match s.draftRefusal p with
  | some a => (s, a)
  | none => f s

/-- Replace the own draft's content. -/
def State.setDraft (s : State) (p : Port) (pl : Plan) : State := s.modDraft p fun d => { d with plan := pl }

/-- DRAFT COPY (R94). -/
def onDraftCopy (p : Port) (_ : Request) (s : State) : State × Reply :=
  s.editDraft p fun s => (s.setDraft p s.ctl.active, ⟨.ok, be16 s.ctl.generation⟩)

/-- DRAFT CLEAR (R95). -/
def onDraftClear (p : Port) (_ : Request) (s : State) : State × Reply :=
  s.editDraft p fun s => (s.setDraft p Plan.default, ⟨.ok, []⟩)

/-- OK, or OK_CLAMPED when a field was clamped. -/
def okStatus (clamped : Bool) : Status := if clamped then .okClamped else .ok

/-- DRAFT PUT ENTRY (R92, R177). -/
def onDraftPutEntry (p : Port) (r : Request) (s : State) : State × Reply :=
  s.editDraft p fun s =>
    match entryRefusal r.body with
    | some n => (s, ⟨.badArgument, [byteOf n]⟩)
    | none =>
      let e := entryStored r.body
      let i : SlotIx := Fin.ofNat 16 (u8At r.body 0)
      (s.modDraft p fun d => { d with plan := { d.plan with entries := d.plan.entries.set i e } },
        ⟨okStatus (entryClamped r.body), e.bytes⟩)

/-- DRAFT PUT HEADER (R93, R177). -/
def onDraftPutHeader (p : Port) (r : Request) (s : State) : State × Reply :=
  s.editDraft p fun s =>
    match headerRefusal r.body with
    | some n => (s, ⟨.badArgument, [byteOf n]⟩)
    | none =>
      let h := headerStored r.body
      (s.modDraft p fun d => { d with plan := { d.plan with header := h } },
        ⟨okStatus (headerClamped r.body), h.bytes⟩)

/-- DRAFT GET (R96): the draft selector, then the form selector, then start and count (R176). R96 gives every DRAFT GET
response the draft's state and R176 gives BAD_ARGUMENT an empty body; the model answers a refusal with the empty body
(DESIGN CHOICE, unsafe: log entry 26). -/
def onDraftGet (p : Port) (r : Request) (s : State) : State × Reply :=
  let form := u8At r.body 1
  let start := u8At r.body 2
  let count := u8At r.body 3
  let d := s.drafts.get (if u8At r.body 0 = 0 then p else p.other)
  let lead := [flagByte d.loading.isSome, optByte (d.loading.map Fin.val)]
  if 1 < u8At r.body 0 then (s, refuse .badArgument)
  else if 1 < form then (s, refuse .badArgument)
  else if form = 0 then (s, ⟨.ok, lead ++ d.plan.header.bytes⟩)
  else if runInRange start count then (s, ⟨.ok, lead ++ d.plan.entryRun start count⟩)
  else (s, refuse .badArgument)

/-! ### COMMIT -/

/-- The expected generation of a COMMIT, present when the body has two bytes (R176). -/
def expectedGeneration (b : List Byte) : Option Nat := if b.length = 2 then some (u16At b 0) else none

/-- A refusal at one of a COMMIT's own checks carries the active generation ahead of its body (R98, R176). -/
def State.withGeneration (s : State) (a : Reply) : Reply := ⟨a.status, be16 s.ctl.generation ++ a.body⟩

/-- The first of a COMMIT's five checks that fails (R98). -/
def State.commitRefusal (s : State) (p : Port) (expected : Option Nat) : Option Reply :=
  match s.authorityRefusal p with
  | some a => some (s.withGeneration a)
  | none =>
    if s.ctl.state = .starting then some ⟨.notReady, s.planBody⟩
    else if s.ctl.state ≠ .ready then some ⟨.busyPlan, s.planBody⟩
    else match s.draftRefusal p with
      | some a => some (s.withGeneration a)
      | none =>
        if expected.any fun g => g ≠ s.ctl.generation then some ⟨.stale, be16 s.ctl.generation⟩
        else if !(s.drafts.get p).plan.valid then
          some ⟨.invalidPlan, be16 s.ctl.generation ++ reportBytes (s.drafts.get p).plan.report⟩
        else none

/-- COMMIT (R98, R100). -/
def onCommit (p : Port) (r : Request) (s : State) : State × Reply :=
  match s.commitRefusal p (expectedGeneration r.body) with
  | some a => (s, a)
  | none =>
    let pl := (s.drafts.get p).plan
    let s1 := s.install pl (.commit p r.tag)
    (s1, ⟨.ok, be16 s1.ctl.generation ++ [byteOf s1.ctl.state.code, byteOf (members (s.drainSetFor pl)).length,
      byteOf (members (s.cutSetFor pl)).length]⟩)

/-! ### The commands -/

/-- DRAFT COPY (R94). -/
def execDraftCopy (p : Port) (s : State) : Host.Outcome State Fault Refusal := s.take p .draftCopy onDraftCopy

/-- DRAFT PUT ENTRY (R92). -/
def execDraftPutEntry (p : Port) (s : State) : Host.Outcome State Fault Refusal :=
  s.take p .draftPutEntry onDraftPutEntry

/-- DRAFT PUT HEADER (R93). -/
def execDraftPutHeader (p : Port) (s : State) : Host.Outcome State Fault Refusal :=
  s.take p .draftPutHeader onDraftPutHeader

/-- DRAFT CLEAR (R95). -/
def execDraftClear (p : Port) (s : State) : Host.Outcome State Fault Refusal := s.take p .draftClear onDraftClear

/-- DRAFT GET (R96). -/
def execDraftGet (p : Port) (s : State) : Host.Outcome State Fault Refusal := s.take p .draftGet onDraftGet

/-- COMMIT (R100). -/
def execCommit (p : Port) (s : State) : Host.Outcome State Fault Refusal := s.take p .commit onCommit

end Sys2Proof.Machine
end

