-- ==== Sys2Proof/Machine/Lines.lean ====
section
/-! DEFINITION. The commands of the shared lines: device reset and its end, and the INTERLOCK line
(R21, R80 to R84, R117, R125, R132). -/

namespace Sys2Proof.Machine

/-- What a device reset leaves of Plan Memory: the pages, their store counts and the boot record are nonvolatile, except
where an operation is interrupted (R112, R117). -/
def Memory.afterReset (m : Memory) : Memory :=
  let m1 : Memory := { m with lastOutcome := none, op := none, opElapsed := 0 }
  match m.op with
  | some (.store pg .erase _ _ _) => { m1 with pages := m.pages.set pg { m.pages[pg] with state := .blank, image := none } }
  | some (.store pg .program _ _ _) => { m1 with pages := m.pages.set pg { m.pages[pg] with state := .corrupt } }
  | some (.store pg .verify _ _ _) => { m1 with pages := m.pages.set pg { m.pages[pg] with state := .corrupt } }
  | some (.erase pg _ _) => { m1 with pages := m.pages.set pg { m.pages[pg] with state := .blank, image := none } }
  | some (.bootWrite _ _ _ _) => { m1 with boot := none }
  | some (.load _ _ _) => m1
  | some (.startUpRead _) => m1
  | some (.reloadRead _ _ _) => m1
  | none => m1

/-- A port after device reset: its select line is an input and keeps its level (R132). -/
def PortState.afterReset (x : PortState) : PortState := { PortState.reset with select := x.select }

/-- The composite state that the INTERLOCK line gives at a reset (R80). -/
def Combiner.atReset (interlock : Bool) : Combiner :=
  { Combiner.reset with state := if interlock then .interlocked else .live }

/-- DEVICE_RESET: every block returns to its reset values; nonvolatile memory, the input lines and the queue of commands
stay (R9, R21, R40, R66, R90, R97, R109, R112, R117, R132, R150, R164, R169). -/
def State.deviceReset (s : State) (cause : ResetCause) : State :=
  { State.reset with
    pending := s.pending
    sampleClock := s.sampleClock
    rxTaken := s.rxTaken
    resetCause := cause
    interlock := s.interlock
    combiner := Combiner.atReset s.interlock
    memory := s.memory.afterReset
    ports := ⟨s.ports.a.afterReset, s.ports.b.afterReset⟩ }

def execDeviceReset (cause : ResetCause) (s : State) : Host.Outcome State Fault Refusal := .next (s.deviceReset cause)

/-- RESET_END: the ports come up, the composite state follows INTERLOCK, and the engine enters READ with start-up as its
origin (R80, R116, R125, R132). A reset that is not in force cannot end. -/
def execResetEnd (s : State) : Host.Outcome State Fault Refusal :=
  .next (if s.inReset then
    { s with inReset := false, combiner := Combiner.atReset s.interlock,
             memory := { s.memory with op := some (.startUpRead .record), opElapsed := 0 } }
  else s)

/-- The INTERLOCK event of a change of the composite state (R84). -/
def State.writeInterlock (s : State) (cause : Cause) : State :=
  s.write { kind := .interlock, value1 := some s.combiner.state.code, value2 := some s.combiner.lastLevel,
            cause := some cause }

/-- The combiner acts on an assertion of INTERLOCK (R81). -/
def State.interlockOn (s : State) : State :=
  match s.combiner.state with
  | .live | .resuming =>
    (s.modCombiner fun c => { c with state := .interlocked, ramp := none }).writeInterlock .asserted
  | .interlocked => s

/-- The combiner acts on a release of INTERLOCK (R82). -/
def State.interlockOff (s : State) : State :=
  match s.combiner.state with
  | .interlocked =>
    (s.modCombiner fun c => { c with state := .resuming, ramp := some ⟨0, s.rampSamples⟩ }).writeInterlock .released
  | .live | .resuming => s

/-- INTERLOCK goes from released to asserted (R81). In reset only the line changes (R80). -/
def execInterlockAsserted (s : State) : Host.Outcome State Fault Refusal :=
  .next (if s.interlock then s
    else if s.inReset then { s with interlock := true }
    else State.interlockOn { s with interlock := true })

/-- INTERLOCK goes from asserted to released (R82). In reset only the line changes (R80). -/
def execInterlockReleased (s : State) : Host.Outcome State Fault Refusal :=
  .next (if !s.interlock then s
    else if s.inReset then { s with interlock := false }
    else State.interlockOff { s with interlock := false })

/-- The resuming ramp reaches its duration (R83). -/
def execResumingRampCompletion (s : State) : Host.Outcome State Fault Refusal :=
  s.running fun s =>
    if s.combiner.state = .resuming && s.combiner.ramp.isSome then
      (s.modCombiner fun c => { c with state := .live, ramp := none }).writeInterlock .resumed
    else s

end Sys2Proof.Machine
end

