-- ==== Sys2Proof/Machine/Measure.lean ====
section
/-! DEFINITION. The level interval expiry: the measurements (R17 to R20), the slots' carrier decisions and level loops
(R43 to R48, R53, R75), the combiner's judging and the Allocator's backoff (R85 to R87). -/

namespace Sys2Proof.Machine

/-! ### Measuring -/

/-- The measurement of an extraction: level and source label, for a tuned extraction with at least one settled sample
(R19). -/
def Extraction.measurement (x : Extraction) : Option (Int × Source) :=
  if x.tuned && 0 < x.accum.count then some (accumLevel x.accum, x.source) else none

/-- An extraction records its measurement and clears its accumulation (R19). -/
def Extraction.measured (x : Extraction) : Extraction :=
  match x.measurement with
  | some (l, _) => { x with lastLevel := l, accum := .empty }
  | none => x

/-- The measuring of every extraction and of the composite over the samples their accumulations hold, and the restart of
the interval (R17, R19, R20; log entry 9). -/
def State.measure (s : State) : State :=
  { s with
    intervalElapsed := 0
    extractions := Vector.ofFn fun i => s.extractions[i].measured
    combiner := { s.combiner with lastLevel := accumLevel s.combiner.accum, accum := .empty } }

/-- The measurements of an expiry (R19). -/
def State.measurements (s : State) : PerSlot (Option (Int × Source)) :=
  Vector.ofFn fun i => s.extractions[i].measurement

/-! ### The slot's decision -/

/-- The move of a level loop with error e on a gain (R75). -/
def loopGain (e gain : Int) : Int :=
  if -1 ≤ e && e ≤ 1 then gain else if 0 < e then clampGain (gain + min e 4) else clampGain (gain - min (-e) 4)

/-- The level loop of a slot in ON acts on an input level (R75). -/
def State.levelLoop (s : State) (i : SlotIx) (level : Int) : State :=
  let e := s.target i - (level + s.slots[i].gain)
  if 1 < e && s.slots[i].gain = 120 then s.count .shortfall i
  else s.modSlot i fun x => { x with gain := loopGain e x.gain }

/-- A slot in ON finds its carrier absent (R44). -/
def State.carrierAbsentOn (s : State) (i : SlotIx) : State :=
  if s.ctl.active.header.holdMs = 0 then s.loseCarrier i .absent
  else s.modSlot i fun x => { x with state := .hold, hold := some (samplesOfMs s.ctl.active.header.holdMs) }

/-- A slot in HOLD finds its carrier present (R45). -/
def State.returnFromHold (s : State) (i : SlotIx) : State :=
  (s.modSlot i fun x => { x with state := .on, hold := none }).count .dips i

/-- A MUTED slot regains its carrier (R48). -/
def State.regain (s : State) (i : SlotIx) : State :=
  if 0 < s.alloc.table[i].grant then (s.enterRising i).writeRecovered i .carrier else s.enterDeferred i .grant

/-- A slot acts on a judged measurement according to its state (R43). -/
def State.act (s : State) (i : SlotIx) (level : Int) : State :=
  let threshold := s.slots[i].inUse.threshold
  match s.slots[i].state with
  | .on => if threshold ≤ level then s.levelLoop i level else s.carrierAbsentOn i
  | .hold => if threshold ≤ level then s.returnFromHold i else s
  | .rising => if threshold ≤ level then s else (s.count .rampAborts i).loseCarrier i .rampAbort
  | .muted => if threshold + 6 ≤ level then s.regain i else s
  | .off | .deferred | .falling | .failed => s

/-- A slot takes its measurement: one labelled with another source is set aside (R43). -/
def State.takeMeasurement (s : State) (i : SlotIx) (m : Option (Int × Source)) : State :=
  match m with
  | none => s
  | some (level, src) => if src = s.extractions[i].source then s.act i level else s

/-! ### Judging and backoff -/

/-- E after a step down (R87): bounded below by 512, and while the Allocator is held by the grant sum. -/
def stepDown (pool : Nat) (held : Bool) (grants : Nat) : Nat :=
  if held then max (max (pool - 64) 512) grants else max (pool - 64) 512

/-- E after a step up (R87). -/
def stepUp (pool : Nat) : Nat := min (pool + 16) 1024

/-- E takes a new value: a change writes its event, where R87 has one, and starts a run (R72, R87). -/
def State.changePool (s : State) (new : Nat) (notice : Option Notice) : State :=
  if new = s.alloc.pool then s else (((s.modAlloc fun a => { a with pool := new }).writeOpt notice)).startRun

/-- The POOL_CHANGED event (R87). -/
def poolNotice (new old : Nat) (cause : Cause) : Notice :=
  { kind := .poolChanged, value1 := some new, value2 := some old, cause := some cause }

/-- The sum of the sixteen grants standing (R87). -/
def State.grantsStanding (s : State) : Nat := (allSlots.map fun i => s.alloc.table[i].grant).sum

/-- The Allocator steps E down (R87). -/
def State.poolDown (s : State) : State :=
  let new := stepDown s.alloc.pool s.alloc.held s.grantsStanding
  s.changePool new (some (poolNotice new s.alloc.pool .overload))

/-- The Allocator steps E up; the event is written at the step that reaches 1,024 (R87). -/
def State.poolUp (s : State) : State :=
  let new := stepUp s.alloc.pool
  s.changePool new (if new = 1024 then some (poolNotice new s.alloc.pool .recovered) else none)

/-- The Allocator acts on an overloaded interval (R86). -/
def State.onOverloaded (s : State) : State :=
  if 3 ≤ s.alloc.overloadRun + 1 then (s.modAlloc fun a => { a with overloadRun := 0 }).poolDown
  else s.modAlloc fun a => { a with overloadRun := a.overloadRun + 1 }

/-- The Allocator acts on a clean interval (R86). -/
def State.onClean (s : State) : State := (s.modAlloc fun a => { a with overloadRun := 0 }).poolUp

/-- A judged interval is overloaded above the ceiling + 2 steps (R85). -/
def State.overloaded (s : State) : Bool := s.ctl.active.header.ceiling + 2 < s.combiner.lastLevel

/-- The combiner judges the interval: in LIVE alone; the clip record is then cleared (R85). The manual leaves open where
the notice of the clip counter stands against POOL_CHANGED and the events of the run from the same judgement (R85,
R166): the model writes it after them (DESIGN CHOICE, unsafe: log entry 12). -/
def State.judgeInterval (s : State) : State :=
  let s1 := match s.combiner.state with
    | .live =>
      let t := if s.overloaded then s.countOverload.onOverloaded else s.onClean
      if s.combiner.clip then t.countClip else t
    | .interlocked | .resuming => s
  s1.modCombiner fun c => { c with clip := false }

/-! ### The timers of a slot -/

/-- A hold timer runs out in HOLD (R46). -/
def State.holdOut (s : State) (i : SlotIx) : State :=
  if s.slots[i].state = .hold && s.slots[i].hold.isSome then s.loseCarrier i .holdExpiry else s

/-- A reacquire timer runs out in MUTED (R49). -/
def State.reacquireOut (s : State) (i : SlotIx) : State :=
  if s.slots[i].state = .muted && s.slots[i].reacquire.isSome then s.attempt i else s

/-! ### The expiry -/

/-- One of the actions an expiry brings together. -/
def State.turn (ms : PerSlot (Option (Int × Source))) (s : State) (t : Turn) : State :=
  match t with
  | .judge i => s.takeMeasurement i ms[i]
  | .combiner => s.judgeInterval
  | .holdOut i => s.holdOut i
  | .reacquireOut i => s.reacquireOut i

/-- The actions that every expiry has: the slots' decisions in ascending index, then the combiner's judging. -/
def defaultTurns : List Turn := (allSlots.map Turn.judge) ++ [.combiner]

/-- Each action once: those the command orders, then the others an expiry has (log entry 8). -/
def turnsOf (order : List Turn) : List Turn :=
  order.eraseDups ++ defaultTurns.filter fun t => !order.contains t

/-- The level interval timer expires (R17). -/
def State.expireInterval (s : State) (order : List Turn) : State :=
  (turnsOf order).foldl (State.turn s.measurements) s.measure

/-- LEVEL_INTERVAL_EXPIRY (R17). -/
def execLevelIntervalExpiry (order : List Turn) (s : State) : Host.Outcome State Fault Refusal :=
  s.running fun s => s.expireInterval order

/-- SETTLING_COMPLETE (R13). -/
def execSettlingComplete (i : SlotIx) (s : State) : Host.Outcome State Fault Refusal :=
  s.running fun s => s.modExtraction i fun x => { x with settling := none }

/-- HOLD_TIMER_EXPIRY (R46). -/
def execHoldTimerExpiry (i : SlotIx) (s : State) : Host.Outcome State Fault Refusal :=
  s.running fun s => s.holdOut i

/-- REACQUIRE_TIMER_EXPIRY (R49). -/
def execReacquireTimerExpiry (i : SlotIx) (s : State) : Host.Outcome State Fault Refusal :=
  s.running fun s => s.reacquireOut i

/-- A rising ramp reaches its duration: ON at the ramp end gain (R53). -/
def State.completeRise (s : State) (i : SlotIx) : State :=
  s.modSlot i fun x =>
    if x.state = .rising && x.ramp.isSome then { x with state := .on, ramp := none, gain := x.endGain } else x

/-- RISE_COMPLETION (R53). -/
def execRiseCompletion (i : SlotIx) (s : State) : Host.Outcome State Fault Refusal :=
  s.running fun s => s.completeRise i

/-- FALL_COMPLETION (R55). -/
def execFallCompletion (i : SlotIx) (s : State) : Host.Outcome State Fault Refusal :=
  s.running fun s => if s.slots[i].state = .falling && s.slots[i].ramp.isSome then s.completeFall i else s

end Sys2Proof.Machine
end

