-- ==== Sys2Proof/Machine/PlanMemory.lean ====
section
/-! DEFINITION. Plan Memory, the memory engine, start-up and RELOAD (R112 to R131). -/

namespace Sys2Proof.Machine

/-! ### Checks and the engine -/

/-- The engine takes an operation (R116). -/
def State.startOp (s : State) (op : EngineOp) : State := s.modMemory fun m => { m with op := some op, opElapsed := 0 }

/-- The engine returns to IDLE (R116). -/
def State.engineIdle (s : State) : State := s.modMemory fun m => { m with op := none, opElapsed := 0 }

/-- The MEMORY_DONE event of a completed operation (R126). -/
def State.writeMemoryDone (s : State) (p : Port) (tag : Byte) (operation : Nat) (page : PageIx) (outcome : Cause) :
    State :=
  s.write { kind := .memoryDone, port := some p, tag := some tag, value1 := some operation,
            value2 := some page.val, cause := some outcome }

/-- A page becomes BLANK: its image is removed (R112). -/
def State.blankPage (s : State) (pg : PageIx) : State := s.modPage pg fun x => { x with state := .blank, image := none }

/-! ### The memory requests -/

/-- PAGE STORE (R118): the source selector is checked first (R176). -/
def onPageStore (p : Port) (r : Request) (s : State) : State × Reply :=
  if 1 < u8At r.body 1 then (s, refuse .badArgument)
  else match s.authorityRefusal p with
    | some a => (s, a)
    | none =>
      match indexOf (u8At r.body 0) with
      | none => (s, refuse .badArgument)
      | some pg =>
        if s.memory.op.isSome then (s, s.busyMemory)
        else
          let snapshot := if u8At r.body 1 = 0 then (s.drafts.get p).plan else s.ctl.active
          ((s.startOp (.store pg .erase snapshot p r.tag)).blankPage pg,
            ⟨.ok, byteOf pg.val :: be32 s.memory.pages[pg].storeCount⟩)

/-- PAGE LOAD (R120). -/
def onPageLoad (p : Port) (r : Request) (s : State) : State × Reply :=
  match indexOf (u8At r.body 0) with
  | none => (s, refuse .badArgument)
  | some pg =>
    if s.memory.op.isSome then (s, s.busyMemory)
    else match s.memory.pages[pg].state with
      | .blank => (s, ⟨.pageBlank, [byteOf pg.val]⟩)
      | .corrupt => (s, ⟨.pageCorrupt, [byteOf pg.val]⟩)
      | .valid => ((s.startOp (.load pg p r.tag)).modDraft p fun d => { d with loading := some pg }, ⟨.ok, []⟩)

/-- PAGE ERASE (R121). -/
def onPageErase (p : Port) (r : Request) (s : State) : State × Reply :=
  match s.authorityRefusal p with
  | some a => (s, a)
  | none =>
    match indexOf (u8At r.body 0) with
    | none => (s, refuse .badArgument)
    | some pg =>
      if s.memory.op.isSome then (s, s.busyMemory)
      else ((s.startOp (.erase pg p r.tag)).blankPage pg, ⟨.ok, []⟩)

/-- The label a PAGE INFO reports: the record's, when the page is VALID (R122). -/
def Page.label (x : Page) : Label := if x.state = .valid then x.image.bind fun m => m.record.header.label else none

/-- The boot role code of a page (R122, R178). -/
def Memory.bootRole (m : Memory) (pg : PageIx) : Nat :=
  match readBoot m.boot with
  | none => 0
  | some (pr, fb) => if pr = pg then 1 else if fb = some pg then 2 else 0

/-- A page is worn above 100,000 stores (R113). -/
def Page.worn (x : Page) : Bool := 100000 < x.storeCount

/-- The body of a PAGE INFO response (R122, R178). -/
def State.infoBody (s : State) (pg : PageIx) : List Byte :=
  let m := s.memory
  let x := m.pages[pg]
  [byteOf pg.val, byteOf x.state.code] ++ be32 x.storeCount ++ [flagByte x.worn, byteOf (m.bootRole pg)]
    ++ (if s.operatingOn pg then [byteOf m.engineCode, byteOf m.phaseCode] else [0, 0])
    ++ [flagByte x.label.isSome] ++ labelBytes x.label

/-- PAGE INFO (R122). -/
def onPageInfo (_ : Port) (r : Request) (s : State) : State × Reply :=
  match indexOf (u8At r.body 0) with
  | none => (s, refuse .badArgument)
  | some pg => (s, ⟨.ok, s.infoBody pg⟩)

/-- The fallback of a BOOT SET: absent in a body of one byte (R176). -/
def bootFallback (b : List Byte) : Option Nat := if b.length = 2 then some (u8At b 1) else none

/-- The pages a BOOT SET names, `none` when an argument is out of range or the two are one (R123). -/
def bootPages (b : List Byte) : Option (PageIx × Option PageIx) :=
  match indexOf (u8At b 0), bootFallback b with
  | none, _ => none
  | some pr, none => some (pr, none)
  | some pr, some n =>
    match indexOf n with
    | none => none
    | some fb => if fb = pr then none else some (pr, some fb)

/-- The first named page that is not VALID, the primary first (R123). -/
def Memory.notValid (m : Memory) (pr : PageIx) (fb : Option PageIx) : Option PageIx :=
  if m.pages[pr].state ≠ .valid then some pr
  else fb.bind fun f => if m.pages[f].state ≠ .valid then some f else none

/-- BOOT SET (R123). -/
def onBootSet (p : Port) (r : Request) (s : State) : State × Reply :=
  match s.authorityRefusal p with
  | some a => (s, a)
  | none =>
    match bootPages r.body with
    | none => (s, refuse .badArgument)
    | some (pr, fb) =>
      if s.memory.op.isSome then (s, s.busyMemory)
      else match s.memory.notValid pr fb with
        | some pg => (s, ⟨.pageNotValid, [byteOf pg.val, byteOf s.memory.pages[pg].state.code]⟩)
        | none => ((s.startOp (.bootWrite pr fb p r.tag)).modMemory fun m => { m with boot := none }, ⟨.ok, []⟩)

/-- The last boot outcome as it is written; absent fields are markers (R175, R178; log entry 14), and its presence is
written as `flagByte` is (log entry 27). -/
def outcomeBytes (o : Option BootOutcome) : List Byte :=
  match o with
  | none => 0 :: List.replicate 13 0xFF
  | some x =>
    [1, byteOf x.origin.code, flagByte x.record.isSome, optByte (x.record.map fun r => r.1.val),
      optByte ((x.record.bind fun r => r.2).map Fin.val), byteOf x.primary.code, byteOf x.fallback.code]
      ++ reportBytes x.primaryReport ++ reportBytes x.fallbackReport ++ [optByte (x.used.map Fin.val)]

/-- The body of a BOOT READ response (R124, R178). -/
def Memory.bootBody (m : Memory) : List Byte :=
  let rec? := readBoot m.boot
  let pr := rec?.map fun r => r.1
  let fb := rec?.bind fun r => r.2
  [flagByte rec?.isSome, optByte (pr.map Fin.val), optByte (fb.map Fin.val),
    optByte (pr.map fun g => m.pages[g].state.code), optByte (fb.map fun g => m.pages[g].state.code),
    flagByte (m.engineCode = 4)] ++ outcomeBytes m.lastOutcome

/-- BOOT READ (R124). -/
def onBootRead (_ : Port) (_ : Request) (s : State) : State × Reply := (s, ⟨.ok, s.memory.bootBody⟩)

/-- RELOAD (R129). -/
def onReload (p : Port) (r : Request) (s : State) : State × Reply :=
  match s.authorityRefusal p with
  | some a => (s, a)
  | none =>
    if s.ctl.state ≠ .ready then (s, ⟨.busyPlan, s.planBody⟩)
    else if s.memory.op.isSome then (s, s.busyMemory)
    else
      ((s.modCtl fun c => { c with state := .loading, change := some (.reload p r.tag) }).holdAlloc.startOp
        (.reloadRead .record p r.tag), ⟨.ok, be16 s.ctl.generation⟩)

/-! ### Completions (R119 to R123) -/

/-- The erase phase of a store ends and the PROGRAM phase begins (R113, R119). -/
def State.storeErased (s : State) : State :=
  match s.memory.op with
  | some (.store pg .erase snap p tag) =>
    (s.startOp (.store pg .program snap p tag)).modPage pg fun x =>
      { x with state := .corrupt, image := some snap.image, storeCount := min 16777215 (x.storeCount + 1) }
  | _ => s

/-- The PROGRAM phase of a store ends and the VERIFY phase begins (R119). -/
def State.storeProgrammed (s : State) : State :=
  match s.memory.op with
  | some (.store pg .program snap p tag) => s.startOp (.store pg .verify snap p tag)
  | _ => s

/-- The programmed image read back equals the snapshot, and its stored check its record (R119); `intact` says whether
the cells read back as they were programmed. -/
def Page.verifies (x : Page) (snap : Plan) (intact : Bool) : Bool :=
  intact && x.image.any fun m => m.record = snap && m.matching

/-- The verify of a store ends (R119, R126). -/
def State.storeVerified (s : State) (intact : Bool) : State :=
  match s.memory.op with
  | some (.store pg .verify snap p tag) =>
    if s.memory.pages[pg].verifies snap intact then
      ((s.modPage pg fun x => { x with state := .valid }).engineIdle).writeMemoryDone p tag 0 pg .ok
    else
      ((s.modPage pg fun x => { x with state := .corrupt }).engineIdle).writeMemoryDone p tag 0 pg .storeFailed
  | _ => s

/-- A PAGE ERASE ends (R121, R126). -/
def State.pageErased (s : State) : State :=
  match s.memory.op with
  | some (.erase pg p tag) => s.engineIdle.writeMemoryDone p tag 2 pg .ok
  | _ => s

/-- A page load's read ends (R120, R126). -/
def State.pageLoaded (s : State) (intact : Bool) : State :=
  match s.memory.op with
  | some (.load pg p tag) =>
    match s.memory.pages[pg].readRecord intact with
    | some pl => (((s.modDraft p fun _ => ⟨pl, none⟩)).engineIdle).writeMemoryDone p tag 1 pg .ok
    | none =>
      ((((s.modDraft p fun d => { d with loading := none })).modPage pg fun x =>
        { x with state := .corrupt }).engineIdle).writeMemoryDone p tag 1 pg .pageCorrupt
  | _ => s

/-- A boot write ends (R123, R126). -/
def State.bootWritten (s : State) (intact : Bool) : State :=
  match s.memory.op with
  | some (.bootWrite pr fb p tag) =>
    if intact then
      ((s.modMemory fun m => { m with boot := some (bootImage pr fb) }).engineIdle).writeMemoryDone p tag 3 pr .ok
    else (s.engineIdle).writeMemoryDone p tag 3 pr .bootFailed
  | _ => s

/-! ### Reading the boot pages (R125) -/

/-- The whole read: the outcome to be kept (R115) and the record it yields. R115 gives the fallback both NOT_NAMED, when
none is named, and NOT_TRIED, when the primary was used; where both apply the model keeps NOT_NAMED (DESIGN CHOICE,
unsafe: log entry 25). -/
def Memory.readBootPages (m : Memory) (origin : BootOrigin) (primaryIntact fallbackIntact : Bool) :
    BootOutcome × Option Plan :=
  match readBoot m.boot with
  | none => (⟨origin, none, .notNamed, .notNamed, none, none, none⟩, none)
  | some (pr, fb) =>
    let t := m.pages[pr].try primaryIntact
    match t.record with
    | some pl =>
      (⟨origin, some (pr, fb), .used, if fb.isSome then .notTried else .notNamed, none, none, some pr⟩, some pl)
    | none =>
      match fb with
      | none => (⟨origin, some (pr, none), t.result, .notNamed, t.report, none, none⟩, none)
      | some f =>
        let t' := m.pages[f].try fallbackIntact
        (⟨origin, some (pr, some f), t.result, t'.result, t.report, t'.report, t'.record.map fun _ => f⟩, t'.record)

/-- Whether the primary reads back as it was programmed, as the end of a read takes it: once the read has come to the
fallback the primary has been read, and a check that failed has left it CORRUPT (R112); before that the operand says. -/
def ReadItem.primaryIntact (item : ReadItem) (operand : Bool) : Bool :=
  match item with
  | .record | .primary => operand
  | .fallback _ => true

/-- The end of a read of the boot pages: corrupt pages marked, the outcome kept, the engine IDLE (R112, R125). -/
def State.endRead (s : State) (o : BootOutcome) : State :=
  s.modMemory fun m =>
    { (m.markCorrupt (o.record.map fun r => r.1) o.primary).markCorrupt (o.record.bind fun r => r.2) o.fallback with
      lastOutcome := some o, op := none, opElapsed := 0 }

/-- The slot of the report of the first page set aside as INVALID (R128, R130). -/
def BootOutcome.reportSlot (o : BootOutcome) : Option SlotIx :=
  match o.primaryReport with
  | some r => some r.slot
  | none => o.fallbackReport.map fun r => r.slot

/-- The cause of the STARTED event (R128). -/
def BootOutcome.startCause (o : BootOutcome) : Cause :=
  if o.primary = .used then .primary else if o.fallback = .used then .fallback else .none

/-- The STARTED event (R128). -/
def State.writeStarted (s : State) (o : BootOutcome) : State :=
  s.write { kind := .started, slot := o.reportSlot, value1 := o.used.map fun g => (g.val : Int),
            value2 := some (resetCode s.resetCause), cause := some o.startCause }

/-- The start-up installation of a usable page (R127, steps 1 to 5). -/
def State.startUpInstall (s : State) (pl : Plan) : State :=
  let s1 := s.modCtl fun c => { c with active := pl, generation := 1, change := some .startUp }
  ((allSlots.foldl State.raiseOrder s1).releaseWithRaise).endChange

/-- The end of the start-up read (R127, R128). -/
def State.startUpEnd (s : State) (primaryIntact fallbackIntact : Bool) : State :=
  match s.memory.op with
  | some (.startUpRead item) =>
    let out := s.memory.readBootPages .startUp (item.primaryIntact primaryIntact) fallbackIntact
    let s1 := s.endRead out.1
    (match out.2 with
      | some pl => s1.startUpInstall pl
      | none => s1.releaseWithoutRaise.endChange).writeStarted out.1
  | _ => s

/-- The RELOAD_FAILED event (R130). -/
def State.writeReloadFailed (s : State) (p : Port) (tag : Byte) (o : BootOutcome) : State :=
  s.write { kind := .reloadFailed, slot := o.reportSlot, port := some p, tag := some tag,
            value1 := some o.primary.code, value2 := some o.fallback.code,
            cause := some (if o.record.isNone then .noRecord else .noUsablePage) }

/-- The end of the RELOAD read (R111, R130). -/
def State.reloadEnd (s : State) (primaryIntact fallbackIntact : Bool) : State :=
  match s.memory.op with
  | some (.reloadRead item p tag) =>
    let out := s.memory.readBootPages .reload (item.primaryIntact primaryIntact) fallbackIntact
    let s1 := s.endRead out.1
    match out.2 with
    | some pl => s1.install pl (.reload p tag)
    | none => s1.endChange.releaseWithoutRaise.writeReloadFailed p tag out.1
  | _ => s

/-! ### The commands -/

/-- PAGE STORE (R118). -/
def execPageStore (p : Port) (s : State) : Host.Outcome State Fault Refusal := s.take p .pageStore onPageStore

/-- PAGE LOAD (R120). -/
def execPageLoad (p : Port) (s : State) : Host.Outcome State Fault Refusal := s.take p .pageLoad onPageLoad

/-- PAGE ERASE (R121). -/
def execPageErase (p : Port) (s : State) : Host.Outcome State Fault Refusal := s.take p .pageErase onPageErase

/-- PAGE INFO (R122). -/
def execPageInfo (p : Port) (s : State) : Host.Outcome State Fault Refusal := s.take p .pageInfo onPageInfo

/-- BOOT SET (R123). -/
def execBootSet (p : Port) (s : State) : Host.Outcome State Fault Refusal := s.take p .bootSet onBootSet

/-- BOOT READ (R124). -/
def execBootRead (p : Port) (s : State) : Host.Outcome State Fault Refusal := s.take p .bootRead onBootRead

/-- RELOAD (R129). -/
def execReload (p : Port) (s : State) : Host.Outcome State Fault Refusal := s.take p .reload onReload

/-- STORE_ERASE_DONE (R119). -/
def execStoreEraseDone (s : State) : Host.Outcome State Fault Refusal := s.running State.storeErased

/-- STORE_PROGRAM_DONE (R119). -/
def execStoreProgramDone (s : State) : Host.Outcome State Fault Refusal := s.running State.storeProgrammed

/-- STORE_VERIFY_DONE (R119). -/
def execStoreVerifyDone (intact : Bool) (s : State) : Host.Outcome State Fault Refusal :=
  s.running fun s => s.storeVerified intact

/-- PAGE_ERASE_DONE (R121). -/
def execPageEraseDone (s : State) : Host.Outcome State Fault Refusal := s.running State.pageErased

/-- PAGE_LOAD_READ_DONE (R120). -/
def execPageLoadReadDone (intact : Bool) (s : State) : Host.Outcome State Fault Refusal :=
  s.running fun s => s.pageLoaded intact

/-- BOOT_WRITE_DONE (R123). -/
def execBootWriteDone (intact : Bool) (s : State) : Host.Outcome State Fault Refusal :=
  s.running fun s => s.bootWritten intact

/-- START_UP_READ_END (R127). -/
def execStartUpReadEnd (primaryIntact fallbackIntact : Bool) (s : State) : Host.Outcome State Fault Refusal :=
  s.running fun s => s.startUpEnd primaryIntact fallbackIntact

/-- RELOAD_READ_END (R130). -/
def execReloadReadEnd (primaryIntact fallbackIntact : Bool) (s : State) : Host.Outcome State Fault Refusal :=
  s.running fun s => s.reloadEnd primaryIntact fallbackIntact

end Sys2Proof.Machine
end

