-- ==== Sys2Proof/Machine/PlanRequests.lean ====
section
/-! DEFINITION. PLAN READ, TRIM LEVEL and TRIM FREQUENCY (R32 to R39), SLOT READ (R65), REVIVE (R63) and BUDGET READ
(R89). -/

namespace Sys2Proof.Machine

/-! ### PLAN READ -/

/-- PLAN READ (R32): the form selector is checked first (R176). R32 gives every PLAN READ response the generation and the
Plan Controller's state and R176 gives BAD_ARGUMENT an empty body; the model answers a refusal with the empty body (DESIGN
CHOICE, unsafe: log entry 26). -/
def onPlanRead (_ : Port) (r : Request) (s : State) : State × Reply :=
  let form := u8At r.body 0
  let start := u8At r.body 1
  let count := u8At r.body 2
  let lead := be16 s.ctl.generation ++ [byteOf s.ctl.state.code]
  if 1 < form then (s, refuse .badArgument)
  else if form = 0 then (s, ⟨.ok, lead ++ s.ctl.active.header.bytes⟩)
  else if runInRange start count then (s, ⟨.ok, lead ++ s.ctl.active.entryRun start count⟩)
  else (s, refuse .badArgument)

/-! ### Trims -/

/-- The first two checks of a trim: authority, then a READY Plan Controller (R33). -/
def State.trimRefusal (s : State) (p : Port) : Option Reply :=
  match s.authorityRefusal p with
  | some a => some a
  | none => if s.ctl.state = .ready then none else some ⟨.busyPlan, s.planBody⟩

/-- One entry of the active plan changes and the generation rises by 1 (R28, R35, R36). -/
def State.trimEntry (s : State) (i : SlotIx) (f : Entry → Entry) : State :=
  s.modCtl fun c =>
    { c with active := { c.active with entries := c.active.entries.set i (f c.active.entries[i]) },
             generation := nextGeneration c.generation }

/-- The share a TRIM LEVEL leaves (R35). -/
def trimmedShare (share : Nat) (delta : Int) : Nat := (clampInt 0 1024 ((share : Int) + delta)).toNat

/-- An accepted TRIM LEVEL (R35, R39). -/
def State.trimLevel (s : State) (p : Port) (tag : Byte) (i : SlotIx) (delta : Int) : State :=
  let new := trimmedShare (s.share i) delta
  ((s.trimEntry i fun e => { e with share := new }).write
    { kind := .trim, slot := some i, port := some p, tag := some tag, value1 := some new, value2 := some delta,
      cause := some .level }).startRun

/-- TRIM LEVEL (R33, R35). -/
def onTrimLevel (p : Port) (r : Request) (s : State) : State × Reply :=
  match s.trimRefusal p with
  | some a => (s, a)
  | none =>
    let delta := s16At r.body 1
    match indexOf (u8At r.body 0) with
    | none => (s, refuse .badArgument)
    | some i =>
      if delta < -1024 || 1024 < delta then (s, refuse .badArgument)
      else
        let s1 := s.trimLevel p r.tag i delta
        let exact := (s.share i : Int) + delta
        (s1, ⟨if exact < 0 || 1024 < exact then .okClamped else .ok,
              be16 (nextGeneration s.ctl.generation) ++ be16 (trimmedShare (s.share i) delta)⟩)

/-- The first enabled entry, in ascending index, that a new transmit frequency of slot i stands too close to (R34). -/
def trimConflict (pl : Plan) (i : SlotIx) (tx : Int) : Option SlotIx :=
  allSlots.find? fun j => j ≠ i && pl.entries[j].enabled &&
    !spacingTest tx pl.entries[j].txKhz (widthKhz pl.entries[i].bwClass) (widthKhz pl.entries[j].bwClass) pl.header.guardKhz

/-- The result check of a TRIM FREQUENCY on an enabled entry (R34). -/
def trimReport (pl : Plan) (i : SlotIx) (tx : Int) : Option Report :=
  if !bandTest tx pl.header.txCentre (widthKhz pl.entries[i].bwClass) then some ⟨.txBand, i, none⟩
  else (trimConflict pl i tx).map fun j => ⟨.txSpacing, i, some j⟩

/-- A placement takes a trimmed offset and its word, keeping its phase (R16). -/
def Placement.shift (x : Placement) (d : Int) : Placement :=
  if x.tuned then { x with offset := x.offset + d, word := tuningWord (x.offset + d) } else x

/-- An accepted TRIM FREQUENCY (R16, R36, R39). -/
def State.trimFrequency (s : State) (p : Port) (tag : Byte) (i : SlotIx) (delta : Int) : State :=
  let tx := ((s.ctl.active.entries[i].txKhz : Int) + delta).toNat
  (((s.trimEntry i fun e => { e with txKhz := tx }).modSlot i fun x =>
      { x with inUse := { x.inUse with txKhz := ((x.inUse.txKhz : Int) + delta).toNat } }).modPlacement i
    fun x => x.shift delta).write
    { kind := .trim, slot := some i, port := some p, tag := some tag, value1 := some tx, value2 := some delta,
      cause := some .frequency }

/-- TRIM FREQUENCY (R33, R34, R36). -/
def onTrimFrequency (p : Port) (r : Request) (s : State) : State × Reply :=
  match s.trimRefusal p with
  | some a => (s, a)
  | none =>
    let delta := s8At r.body 1
    match indexOf (u8At r.body 0) with
    | none => (s, refuse .badArgument)
    | some i =>
      let tx := (s.ctl.active.entries[i].txKhz : Int) + delta
      let done := (s.trimFrequency p r.tag i delta,
        (⟨.ok, be16 (nextGeneration s.ctl.generation) ++ be32 tx.toNat⟩ : Reply))
      if delta < -100 || 100 < delta then (s, refuse .badArgument)
      else if s.ctl.active.entries[i].enabled then
        match trimReport s.ctl.active i tx with
        | some rep => (s, ⟨.invalidPlan, be16 s.ctl.generation ++ rep.bytes⟩)
        | none => done
      else if tx < 0 || 6000000 < tx then (s, refuse .badArgument)
      else done

/-! ### SLOT READ -/

/-- The direction code of a ramp (R178). -/
def rampCode (x : Option Ramp) : Nat :=
  match x with
  | none => 0
  | some r => match r.dir with
    | .rising => 1
    | .falling => 2

/-- The end gain field: present while a rising ramp runs (R178). -/
def Slot.endGainField (x : Slot) : Option Int :=
  match x.ramp with
  | none => none
  | some r => match r.dir with
    | .rising => some x.endGain
    | .falling => none

/-- The fall destination code (R178). -/
def fallCode : Option FallDest → Nat
  | none => 0
  | some .off => 1
  | some .deferred => 2

/-- The difference flag: an in-use field differs from the active entry (R65). R65 also says that it is set while a slot
waits to be raised in a plan change; a slot drained for a change of centre alone (R101) waits with no field that differs,
and its flag is clear here (DESIGN CHOICE, unsafe: log entry 28). -/
def State.differs (s : State) (i : SlotIx) : Bool := s.slots[i].inUse ≠ s.ctl.active.entries[i].inUse

/-- The body of a SLOT READ response (R65, R178). -/
def State.slotBody (s : State) (i : SlotIx) : List Byte :=
  let x := s.slots[i]
  let e := s.extractions[i]
  let g := s.alloc.table[i]
  [byteOf i.val, byteOf x.state.code] ++ x.inUse.bytes ++ [flagByte (s.differs i), byteOf e.source.code]
    ++ signed16 e.lastLevel ++ signed16 x.gain ++ signed16 (e.lastLevel + x.gain)
    ++ be16 g.grant ++ optSigned16 g.target
    ++ [byteOf (rampCode x.ramp)] ++ opt16 (x.ramp.map fun r => reportMs r.elapsed)
    ++ opt16 (x.ramp.map fun r => reportMs r.duration) ++ optSigned16 x.endGainField
    ++ timer16 x.hold ++ timer16 x.reacquire ++ [byteOf x.attempts, byteOf (fallCode x.fallDest)]
    ++ be16 s.ctl.generation

/-- SLOT READ (R65). -/
def onSlotRead (_ : Port) (r : Request) (s : State) : State × Reply :=
  match indexOf (u8At r.body 0) with
  | none => (s, refuse .badArgument)
  | some i => (s, ⟨.ok, s.slotBody i⟩)

/-! ### REVIVE -/

/-- REVIVE (R63): the response of an accepted one carries MUTED. -/
def onRevive (p : Port) (r : Request) (s : State) : State × Reply :=
  match s.authorityRefusal p with
  | some a => (s, a)
  | none =>
    match indexOf (u8At r.body 0) with
    | none => (s, refuse .badArgument)
    | some i =>
      if s.slots[i].state = .failed then
        (s.reviveSlot i (some p) (some r.tag) .request, ⟨.ok, [byteOf SlotState.muted.code]⟩)
      else (s, ⟨.badState, [byteOf s.slots[i].state.code]⟩)

/-! ### BUDGET READ -/

/-- The sum of the sixteen grants (R66). -/
def Allocator.grantSum (a : Allocator) : Nat := (allSlots.map fun i => a.table[i].grant).sum

/-- One slot's record in a BUDGET READ response (R178). -/
def State.budgetRecord (s : State) (i : SlotIx) : List Byte :=
  [flagByte (s.claimant i), byteOf s.ctl.active.entries[i].priority.val] ++ be16 s.alloc.table[i].share
    ++ be16 s.alloc.table[i].grant ++ optSigned16 s.alloc.table[i].target

/-- The resuming ramp, present while RESUMING (R89). -/
def Combiner.resume (c : Combiner) : Option ResumeRamp := if c.state = .resuming then c.ramp else none

/-- The body of a BUDGET READ response (R89, R178). -/
def State.budgetBody (s : State) : List Byte :=
  be16 s.alloc.pool ++ [flagByte s.alloc.held, flagByte s.alloc.pendingRun, byteOf s.alloc.overloadRun]
    ++ be16 s.alloc.grantSum ++ be16 (s.alloc.pool - s.alloc.grantSum)
    ++ [byteOf s.combiner.state.code]
    ++ opt16 (s.combiner.resume.map fun r => reportMs r.elapsed)
    ++ opt16 (s.combiner.resume.map fun r => reportMs r.duration)
    ++ signed16 s.combiner.lastLevel ++ signed8 s.ctl.active.header.ceiling
    ++ allSlots.flatMap s.budgetRecord ++ be16 s.ctl.generation

/-- BUDGET READ (R89). -/
def onBudgetRead (_ : Port) (_ : Request) (s : State) : State × Reply := (s, ⟨.ok, s.budgetBody⟩)

/-! ### The commands -/

/-- PLAN READ (R32). -/
def execPlanRead (p : Port) (s : State) : Host.Outcome State Fault Refusal := s.take p .planRead onPlanRead

/-- TRIM LEVEL (R35). -/
def execTrimLevel (p : Port) (s : State) : Host.Outcome State Fault Refusal := s.take p .trimLevel onTrimLevel

/-- TRIM FREQUENCY (R36). -/
def execTrimFrequency (p : Port) (s : State) : Host.Outcome State Fault Refusal :=
  s.take p .trimFrequency onTrimFrequency

/-- SLOT READ (R65). -/
def execSlotRead (p : Port) (s : State) : Host.Outcome State Fault Refusal := s.take p .slotRead onSlotRead

/-- REVIVE (R63). -/
def execRevive (p : Port) (s : State) : Host.Outcome State Fault Refusal := s.take p .revive onRevive

/-- BUDGET READ (R89). -/
def execBudgetRead (p : Port) (s : State) : Host.Outcome State Fault Refusal := s.take p .budgetRead onBudgetRead

end Sys2Proof.Machine
end

