-- ==== Sys2Proof/Machine/Transfers.lean ====
section
/-! DEFINITION. The commands of a transfer: its begin and end, the start byte, the request frame, the length that
discards a frame, and the end of a response (R133 to R138). -/

namespace Sys2Proof.Machine

/-- A bad frame is discarded: the counter counts, and a BAD_FRAME response is queued if there is room (R137). -/
def PortState.discardBad (x : PortState) : PortState :=
  { x with badFrames := wrap16 x.badFrames,
           responses := if x.responses.length < 8 then x.responses ++ [⟨255, 0, .badFrame, []⟩] else x.responses }

/-- A good frame is offered to the request queue (R138). -/
def PortState.offer (x : PortState) (f : Frame) : PortState :=
  if x.requests.length < 4 then { x with requests := x.requests ++ [⟨f.tag, f.code, f.flags, f.body⟩] }
  else { x with overruns := wrap16 x.overruns }

/-- Select is asserted: a transfer begins, in HUNTING, and the head response is its frame (R133 to R135). -/
def PortState.begin (x : PortState) : PortState :=
  { x with select := true, inTransfer := true, receive := .hunting, frame := x.responses.head?,
           frameAtHead := !x.responses.isEmpty }

/-- Select is deasserted: the transfer ends, and a frame still being received is discarded as bad (R133 to R135, R137). -/
def PortState.finish (x : PortState) : PortState :=
  let x1 := if x.inTransfer && x.receive = .receiving then x.discardBad else x
  { x1 with select := false, inTransfer := false, receive := .hunting, frame := none, frameAtHead := false }

/-- A request frame completes its CRC-16 bytes and is checked (R136); a body above 256 bytes is R137's first case. -/
def PortState.complete (x : PortState) (f : Frame) : PortState :=
  if x.inTransfer && x.receive = .receiving then
    let x1 := { x with receive := .ignoring }
    if f.body.length ≤ 256 && frameGood f then x1.offer f else x1.discardBad
  else x

/-- A body length above 256 discards the frame at once (R137). -/
def PortState.tooLong (x : PortState) (length : Nat) : PortState :=
  if x.inTransfer && x.receive = .receiving && 256 < length then { x.discardBad with receive := .ignoring } else x

/-- The last byte of the frame of the transfer is shifted out; a frame still at the head leaves the queue (R134). -/
def PortState.shiftedOut (x : PortState) : PortState :=
  if x.inTransfer && x.frame.isSome && x.frameAtHead then { x with responses := x.responses.tail, frameAtHead := false }
  else x

/-- A start byte moves a hunting port to RECEIVING (R135). -/
def PortState.start (x : PortState) : PortState :=
  if x.inTransfer && x.receive = .hunting then { x with receive := .receiving } else x

/-- TRANSFER_BEGIN. Select cannot be asserted twice; in reset it is disregarded, and only its level is kept (R132). -/
def execTransferBegin (p : Port) (s : State) : Host.Outcome State Fault Refusal :=
  .next (s.modPort p fun x =>
    if x.select then x else if s.inReset then { x with select := true } else x.begin)

/-- TRANSFER_END. -/
def execTransferEnd (p : Port) (s : State) : Host.Outcome State Fault Refusal :=
  .next (s.modPort p fun x =>
    if !x.select then x else if s.inReset then { x with select := false } else x.finish)

/-- REQUEST_FRAME. -/
def execRequestFrame (p : Port) (f : Frame) (s : State) : Host.Outcome State Fault Refusal :=
  s.running fun s => s.modPort p fun x => x.complete f

/-- BODY_LENGTH_ABOVE_256. -/
def execBodyLengthAbove256 (p : Port) (length : Nat) (s : State) : Host.Outcome State Fault Refusal :=
  s.running fun s => s.modPort p fun x => x.tooLong length

/-- RESPONSE_SHIFTED_OUT. -/
def execResponseShiftedOut (p : Port) (s : State) : Host.Outcome State Fault Refusal :=
  s.running fun s => s.modPort p fun x => x.shiftedOut

/-- START_BYTE. -/
def execStartByte (p : Port) (s : State) : Host.Outcome State Fault Refusal :=
  s.running fun s => s.modPort p fun x => x.start

end Sys2Proof.Machine
end

