-- ==== Sys2Proof/Machine/Dispatch.lean ====
section
/-! DEFINITION. One arm for each row of spec/opcode_table.json. -/

namespace Sys2Proof.Machine

def exec (i : Instr) (s : State) : Host.Outcome State Fault Refusal :=
  match i with
  | .deviceReset cause => Sys2Proof.Machine.execDeviceReset cause s
  | .resetEnd => Sys2Proof.Machine.execResetEnd s
  | .interlockAsserted => Sys2Proof.Machine.execInterlockAsserted s
  | .interlockReleased => Sys2Proof.Machine.execInterlockReleased s
  | .transferBegin p => Sys2Proof.Machine.execTransferBegin p s
  | .transferEnd p => Sys2Proof.Machine.execTransferEnd p s
  | .requestFrame p f => Sys2Proof.Machine.execRequestFrame p f s
  | .bodyLengthAbove256 p length => Sys2Proof.Machine.execBodyLengthAbove256 p length s
  | .responseShiftedOut p => Sys2Proof.Machine.execResponseShiftedOut p s
  | .identify p => Sys2Proof.Machine.execIdentify p s
  | .statusRead p => Sys2Proof.Machine.execStatusRead p s
  | .nop p => Sys2Proof.Machine.execNop p s
  | .portClear p => Sys2Proof.Machine.execPortClear p s
  | .claimNormal p => Sys2Proof.Machine.execClaimNormal p s
  | .claimForce p => Sys2Proof.Machine.execClaimForce p s
  | .release p => Sys2Proof.Machine.execRelease p s
  | .flagsWrite p => Sys2Proof.Machine.execFlagsWrite p s
  | .planRead p => Sys2Proof.Machine.execPlanRead p s
  | .trimLevel p => Sys2Proof.Machine.execTrimLevel p s
  | .trimFrequency p => Sys2Proof.Machine.execTrimFrequency p s
  | .slotRead p => Sys2Proof.Machine.execSlotRead p s
  | .revive p => Sys2Proof.Machine.execRevive p s
  | .budgetRead p => Sys2Proof.Machine.execBudgetRead p s
  | .draftCopy p => Sys2Proof.Machine.execDraftCopy p s
  | .draftPutEntry p => Sys2Proof.Machine.execDraftPutEntry p s
  | .draftPutHeader p => Sys2Proof.Machine.execDraftPutHeader p s
  | .draftClear p => Sys2Proof.Machine.execDraftClear p s
  | .draftGet p => Sys2Proof.Machine.execDraftGet p s
  | .commit p => Sys2Proof.Machine.execCommit p s
  | .pageStore p => Sys2Proof.Machine.execPageStore p s
  | .pageLoad p => Sys2Proof.Machine.execPageLoad p s
  | .pageErase p => Sys2Proof.Machine.execPageErase p s
  | .pageInfo p => Sys2Proof.Machine.execPageInfo p s
  | .bootSet p => Sys2Proof.Machine.execBootSet p s
  | .bootRead p => Sys2Proof.Machine.execBootRead p s
  | .reload p => Sys2Proof.Machine.execReload p s
  | .counterControl p => Sys2Proof.Machine.execCounterControl p s
  | .counterRead p => Sys2Proof.Machine.execCounterRead p s
  | .eventRead p => Sys2Proof.Machine.execEventRead p s
  | .unknownRequest p => Sys2Proof.Machine.execUnknownRequest p s
  | .levelIntervalExpiry order => Sys2Proof.Machine.execLevelIntervalExpiry order s
  | .settlingComplete n => Sys2Proof.Machine.execSettlingComplete n s
  | .holdTimerExpiry n => Sys2Proof.Machine.execHoldTimerExpiry n s
  | .reacquireTimerExpiry n => Sys2Proof.Machine.execReacquireTimerExpiry n s
  | .riseCompletion n => Sys2Proof.Machine.execRiseCompletion n s
  | .fallCompletion n => Sys2Proof.Machine.execFallCompletion n s
  | .resumingRampCompletion => Sys2Proof.Machine.execResumingRampCompletion s
  | .leaseExpiry => Sys2Proof.Machine.execLeaseExpiry s
  | .contestTimerExpiry => Sys2Proof.Machine.execContestTimerExpiry s
  | .forceWindowExpiry => Sys2Proof.Machine.execForceWindowExpiry s
  | .storeEraseDone => Sys2Proof.Machine.execStoreEraseDone s
  | .storeProgramDone => Sys2Proof.Machine.execStoreProgramDone s
  | .storeVerifyDone intact => Sys2Proof.Machine.execStoreVerifyDone intact s
  | .pageEraseDone => Sys2Proof.Machine.execPageEraseDone s
  | .pageLoadReadDone intact => Sys2Proof.Machine.execPageLoadReadDone intact s
  | .bootWriteDone intact => Sys2Proof.Machine.execBootWriteDone intact s
  | .startUpReadEnd primaryIntact fallbackIntact => Sys2Proof.Machine.execStartUpReadEnd primaryIntact fallbackIntact s
  | .reloadReadEnd primaryIntact fallbackIntact => Sys2Proof.Machine.execReloadReadEnd primaryIntact fallbackIntact s
  | .startByte p => Sys2Proof.Machine.execStartByte p s

end Sys2Proof.Machine
end

