-- ==== Sys2Proof/Machine/Signal.lean ====
section
/-! DEFINITION. The signal path, sample by sample: the unit complex numbers and factors, the extraction with its channel
filter (R12), the gain stage (R14, R41), the placement (R15), and the composite (R78 to R80). -/

namespace Sys2Proof.Machine

/-! ### Unit complex numbers and factors -/

/-- The greatest number below 2^n above a at which `p` holds, found bit by bit from the top; `p` holds up to some number
and not beyond. -/
def greatest (p : Nat → Bool) : Nat → Nat → Nat
  | 0, a => a
  | n + 1, a => if p (a + 2 ^ n) then greatest p n (a + 2 ^ n) else greatest p n a

/-- The integer part of a square root of a number below 2^280. -/
def rootOf (n : Nat) : Nat := greatest (fun a => a * a ≤ n) 140 0

/-- A unit complex number in fixed point, in units of 2^-128. -/
structure Phasor where
  c : Int
  s : Int
  deriving DecidableEq, Repr

/-- The product of two of them. -/
def Phasor.mul (x y : Phasor) : Phasor :=
  ⟨(x.c * y.c - x.s * y.s) / 2 ^ 128, (x.c * y.s + x.s * y.c) / 2 ^ 128⟩

/-- The one of half the angle, for an angle up to a quarter turn: cos(x/2) = √((1 + cos x)/2) and
sin(x/2) = sin x / (2 cos(x/2)). -/
def Phasor.half (x : Phasor) : Phasor :=
  let c := rootOf ((2 ^ 128 + x.c).toNat * 2 ^ 127)
  ⟨c, x.s * 2 ^ 127 / c⟩

/-- The product of the turns that the low n bits of a stand for, `top` being the turn of bit n − 1 and each lower bit
half of the one above it. -/
def Phasor.ofBits : Nat → Phasor → Nat → Phasor
  | 0, _, _ => ⟨2 ^ 128, 0⟩
  | n + 1, top, a => if a.testBit n then top.mul (ofBits n top.half a) else ofBits n top.half a

/-- "Clamp into a range" (R1), on rational numbers. -/
def clampRat (lo hi x : Rat) : Rat := max lo (min hi x)

/-- How far the model lets the part's value of an irrational factor lie from the computed one (log entry 7). -/
def tolerance : Rat := 1 / 10 ^ 24

/-- A computed unit complex number as a sample, with a rest of at most the tolerance in each component (log entry 7). -/
def Phasor.sample (z : Phasor) (rest : Sample) : Sample :=
  ⟨(z.c : Rat) / 2 ^ 128 + tolerance * clampRat (-1) 1 rest.i,
    (z.s : Rat) / 2 ^ 128 + tolerance * clampRat (-1) 1 rest.q⟩

/-- An eighth of a turn, half of the quarter turn ⟨0, 2^128⟩. -/
def Phasor.eighth : Phasor := Phasor.half ⟨0, 2 ^ 128⟩

/-- The unit complex number of angle 2π × a / 2^32 within the first quarter turn: 1 at a = 0, else its value within the
tolerance; bit 29 of a is an eighth of a turn (log entry 7). -/
def quarterUnit (a : Nat) (rest : Sample) : Sample :=
  if a = 0 then ⟨1, 0⟩ else (Phasor.ofBits 30 Phasor.eighth a).sample rest

/-- A quarter turn, k times. -/
def quarterTurns (k : Nat) (x : Sample) : Sample :=
  match k with
  | 0 => x
  | 1 => ⟨-x.q, x.i⟩
  | 2 => ⟨-x.i, -x.q⟩
  | _ => ⟨x.q, -x.i⟩

/-- The unit complex number of angle 2π × acc / 2^32 (R12, R15): exact at the quarter turns, within the tolerance
elsewhere (log entry 7). -/
def unitComplex (acc : Word) : Sample :=
  quarterTurns (acc.toNat / 2 ^ 30) (quarterUnit (acc.toNat % 2 ^ 30) (Config.angleRest acc))

/-- The product of two samples as complex numbers. -/
def complexMul (x y : Sample) : Sample := ⟨x.i * y.i - x.q * y.q, x.i * y.q + x.q * y.i⟩

/-- A sample times the unit complex number of angle 2π × acc / 2^32 (R12, R15). -/
def rotate (x : Sample) (acc : Word) : Sample := complexMul x (unitComplex acc)

/-- A power of ten. -/
def powerOfTen (n : Int) : Rat := if 0 ≤ n then (10 : Rat) ^ n.toNat else 1 / (10 : Rat) ^ (-n).toNat

/-- 10^(r/40) for r in 0 to 39: 1 at r = 0, else its first 24 decimal places and a free rest within the 24th (log
entry 7). -/
def fortiethRoot (r : Nat) : Rat :=
  if r = 0 then 1
  else (greatest (fun a => a ^ 40 ≤ 10 ^ (960 + r)) 84 0 : Nat) * tolerance + tolerance * clampRat 0 1 (Config.gainRest r)

/-- The linear amplitude factor 10^(gain/40) (R14): exact at the multiples of 40 steps, within the tolerance of its first
24 significant places elsewhere (log entry 7). -/
def gainFactor (g : Int) : Rat := powerOfTen (g / 40) * fortiethRoot (g % 40).toNat

/-! ### The channel filter (R12) -/

/-- A power of a unit complex number, by squaring; n bits of the exponent are read. -/
def Phasor.pow : Nat → Phasor → Nat → Phasor
  | 0, _, _ => ⟨2 ^ 128, 0⟩
  | n + 1, z, k => if k % 2 = 1 then z.mul (pow n (z.mul z) (k / 2)) else pow n (z.mul z) (k / 2)

/-- The unit complex number of a 16,000th of a turn, a 4,000th of a quarter turn, from 100 bits of the fraction. -/
def Phasor.step : Phasor := Phasor.ofBits 100 Phasor.eighth (2 ^ 100 / 4000)

/-- The unit complex number of k 16,000ths of a turn: exact at the quarter turns, within the tolerance elsewhere, and the
same up to quarter turns in each quarter (log entry 7). -/
def turnUnit (k : Nat) : Sample :=
  quarterTurns (k % 16000 / 4000)
    (if k % 4000 = 0 then ⟨1, 0⟩ else (Phasor.pow 12 Phasor.step (k % 4000)).sample (Config.turnRest (k % 4000)))

/-- What the samples of a filter, newest first, hold of the frequency m × 10 kHz: their mean, each turned to the newest
one. A window of 16,000 samples tells frequencies 10 kHz apart (log entry 7). -/
def binOf (h : List Sample) (m : Int) : Sample :=
  Sample.scale (1 / 16000)
    ((h.mapIdx fun k x => complexMul x (turnUnit ((m * k) % 16000).toNat)).foldl Sample.add .zero)

/-- The first multiple of 10 kHz at or above the edge W/2 of the passband of a class (R3, R12), in units of 10 kHz. -/
def edgeBin (c : Fin 4) : Nat := (widthKhz c / 2 + 9) / 10

/-- How much the filter passes of the frequencies ± m × 10 kHz: all up to the edge of the passband, nothing from 40 kHz
above it on (R12). The three values between make it flat and tight for the frequencies that are no multiple of 10 kHz,
as log entry 7 says. -/
def filterShape (c : Fin 4) (m : Nat) : Rat :=
  match m - edgeBin c with
  | 0 => 1
  | 1 => 9 / 10
  | 2 => 1 / 2
  | 3 => 1 / 10
  | _ => 0

/-- How far the part's gain at a frequency that the filter does not reject may lie from its shape (log entry 7). -/
def filterRipple : Rat := 1 / 10000

/-- The filter's gain at the frequency m × 10 kHz: its shape with a free rest within the ripple, and the sign of a delay
of 8,000 samples, half of what the filter holds (log entry 7). -/
def filterGain (c : Fin 4) (m : Int) : Rat :=
  (if m % 2 = 0 then 1 else -1) * (filterShape c m.natAbs + filterRipple * clampRat (-1) 1 (Config.filterRest c m))

/-- The frequencies, in units of 10 kHz, that the filter of a class does not reject. -/
def filterBins (c : Fin 4) : List Int :=
  (List.range (2 * (edgeBin c + 3) + 1)).map fun k => (k : Int) - (edgeBin c + 3 : Nat)

/-- The filter's output sample for the samples it holds, newest first: its occupied width about zero offset passes, what
lies beyond is rejected, and the whole is turned by an angle that the manual leaves open (R12; log entry 7). -/
def channelFilter (c : Fin 4) (h : List Sample) : Sample :=
  complexMul (unitComplex (Config.filterPhase c))
    (((filterBins c).map fun m => (binOf h m).scale (filterGain c m)).foldl Sample.add .zero)

/-- The samples the channel filter holds once it has taken a receive sample, moved to zero offset by the accumulator,
newest first; it is filled by the 16,000 samples of a settling period (R12, R13). -/
def Extraction.filtered (x : Extraction) (rx : Sample) : List Sample :=
  (rotate rx (-x.phase) :: x.history).take Config.settlingSamples

/-- The extracted channel's sample that a receive sample gives; an idle extraction gives silence (R12). -/
def Extraction.output (x : Extraction) (rx : Sample) : Sample :=
  if x.tuned then channelFilter x.bwClass (x.filtered rx) else .zero

/-- The next receive sample, as the receive sample bus carries it (log entry 6). -/
def State.rx (s : State) : Sample := Config.rxSample s.rxTaken

/-! ### Gain stage, placement and composite -/

/-- The output condition of a slot's gain stage: silence, or a gain and a ramp factor (R14, R41). -/
def Slot.condition (x : Slot) : Option (Int × Rat) :=
  match x.state with
  | .on | .hold => some (x.gain, 1)
  | .rising => some (x.endGain, (x.ramp.map Ramp.factor).getD 0)
  | .falling => some (x.gain, (x.ramp.map Ramp.factor).getD 0)
  | .off | .deferred | .muted | .failed => none

/-- A slot's output sample (R14, R41). -/
def Slot.output (x : Slot) (extracted : Sample) : Sample :=
  match x.condition with
  | some (g, f) => extracted.scale (gainFactor g * f)
  | none => .zero

/-- A placed sample; an idle placement contributes zero (R15). -/
def Placement.place (x : Placement) (out : Sample) : Sample := if x.tuned then rotate out x.phase else .zero

/-- The sum of the sixteen placed samples of a sample period (R78). -/
def State.compositeSum (s : State) : Sample :=
  (allSlots.map fun i => s.placements[i].place (s.slots[i].output (s.extractions[i].output s.rx))).foldl Sample.add .zero

/-- Saturation of one component at full scale (R79). -/
def saturate (x : Rat) : Rat := max (-1) (min 1 x)

/-- Saturation of a composite sample, component by component (R79). -/
def Sample.saturate (x : Sample) : Sample := ⟨Machine.saturate x.i, Machine.saturate x.q⟩

/-- What reaches the transmit sample bus (R80). -/
def Combiner.gate (c : Combiner) (x : Sample) : Sample :=
  match c.state with
  | .live => x
  | .interlocked => .zero
  | .resuming => x.scale ((c.ramp.map fun r => (r.elapsed : Rat) / (r.duration : Rat)).getD 0)

end Sys2Proof.Machine
end

