-- ==== Sys2Proof/Machine/Time.lean ====
section
/-! DEFINITION. What the part does by itself while no command waits: the events that are due, and one sample period of
its signal path and its timers (R12 to R15, R17, R42, R78 to R80, R116, R139). An idle step runs this (log entry 4). -/

namespace Sys2Proof.Machine

/-! ### One sample period of the signal path -/

/-- An extraction over one sample period: phase, filter, settling and accumulation (R12, R13, R18). -/
def Extraction.sample (x : Extraction) (rx : Sample) : Extraction :=
  if x.tuned then
    { x with phase := x.phase + x.word, history := x.filtered rx, settling := x.settling.map fun n => n - 1,
             accum := if x.settling.isNone then accumJoin x.accum ⟨(x.output rx).power, 1⟩ else x.accum }
  else x

/-- A tuned placement's accumulator advances whether or not its slot is silent (R15). -/
def Placement.sample (x : Placement) : Placement := if x.tuned then { x with phase := x.phase + x.word } else x

/-- The combiner over one sample period: saturation, clip record, accumulation, gate and resuming ramp (R20, R78 to
R80). -/
def Combiner.sample (c : Combiner) (sum : Sample) : Combiner :=
  let x := Sample.saturate sum
  { c with accum := accumJoin c.accum ⟨x.power, 1⟩, clip := c.clip || x ≠ sum, bus := c.gate x,
           ramp := c.ramp.map fun r => { r with elapsed := r.elapsed + 1 } }

/-! ### Timers -/

/-- A running timer counts down, to 0 at its running out. -/
def tickTimer (t : Option Nat) : Option Nat := t.map fun n => n - 1

/-- A slot's timers and ramp over one sample period (R40, R42). -/
def Slot.tick (x : Slot) : Slot :=
  { x with hold := tickTimer x.hold, reacquire := tickTimer x.reacquire,
           ramp := x.ramp.map fun r => { r with elapsed := r.elapsed + 1 } }

/-- The Arbiter's timers over one sample period (R150). -/
def Arbiter.tick (a : Arbiter) : Arbiter :=
  { a with lease := tickTimer a.lease, forceWindow := tickTimer a.forceWindow, contest := tickTimer a.contest }

/-! ### The memory engine -/

/-- The items a read has read by the end of one. -/
def ReadItem.count : ReadItem → Nat
  | .record => 1
  | .primary => 2
  | .fallback primaryRead => if primaryRead then 3 else 2

/-- The longest time, in ms, of the operation or phase in progress; of a read of the boot pages, the longest until the
item it has come to ends: 5 ms for each item read (R116). -/
def EngineOp.limitMs : EngineOp → Nat
  | .store _ .erase _ _ _ => 200
  | .store _ .program _ _ _ => 150
  | .store _ .verify _ _ _ => 20
  | .erase _ _ _ => 200
  | .load _ _ _ => 5
  | .bootWrite _ _ _ _ => 60
  | .startUpRead item => 5 * item.count
  | .reloadRead item _ _ => 5 * item.count

/-- Whether the item with this number reads back as programmed in the operation or phase in progress, if it ends by
itself; the sample clock less the time it has run is the moment it began (log entry 18). -/
def State.readsIntact (s : State) (item : Nat) : Bool := Config.cellsIntact (s.sampleClock - s.memory.opElapsed) item

/-- The fallback as the next item, if one is named and it is VALID: a page that is not VALID is not read (R125). -/
def Memory.fallbackItem (m : Memory) (fb : Option PageIx) (primaryRead : Bool) : Option ReadItem :=
  match fb with
  | none => none
  | some f => if m.pages[f].state = .valid then some (.fallback primaryRead) else none

/-- The item a read of the boot pages comes to after one, `none` after the last, whose end is the end of the read
(R125); `intact` says whether the primary's cells read back as programmed. -/
def Memory.nextItem (m : Memory) (intact : Bool) (item : ReadItem) : Option ReadItem :=
  match readBoot m.boot with
  | none => none
  | some (pr, fb) =>
    match item with
    | .record => if m.pages[pr].state = .valid then some .primary else m.fallbackItem fb false
    | .primary => if (m.pages[pr].try intact).record.isSome then none else m.fallbackItem fb true
    | .fallback _ => none

/-- The operation with its read at another item. -/
def EngineOp.atItem (op : EngineOp) (item : ReadItem) : EngineOp :=
  match op with
  | .startUpRead _ => .startUpRead item
  | .reloadRead _ p tag => .reloadRead item p tag
  | .store _ _ _ _ _ | .erase _ _ _ | .load _ _ _ | .bootWrite _ _ _ _ => op

/-- A read of the boot pages goes on to its next item; a primary whose check it has found not matching becomes CORRUPT
at once (R112, R125). -/
def Memory.readOn (m : Memory) (intact : Bool) (op : EngineOp) (next : ReadItem) : Memory :=
  let m1 := { m with op := some (op.atItem next) }
  match next, readBoot m.boot with
  | .fallback true, some (pr, _) => m1.markCorrupt (some pr) (m.pages[pr].try intact).result
  | _, _ => m1

/-- The item in progress ends in this sample period: at its limit, or earlier by a free choice (R116; log entry 17). -/
def State.itemEnds (s : State) (op : EngineOp) : Bool :=
  samplesOfMs op.limitMs ≤ s.memory.opElapsed + 1 || Config.itemEnds s.sampleClock

/-- Plan Memory over one sample period. -/
def State.memoryPeriod (s : State) : Memory :=
  let m := match s.memory.op with
    | none => s.memory
    | some op =>
      match op.readItem.bind (s.memory.nextItem (s.readsIntact 0)) with
      | some next => if s.itemEnds op then s.memory.readOn (s.readsIntact 0) op next else s.memory
      | none => s.memory
  { m with opElapsed := s.memory.opElapsed + 1 }

/-- One sample period of the running part. -/
def State.samplePeriod (s : State) : State :=
  { s with
    rxTaken := s.rxTaken + 1
    intervalElapsed := s.intervalElapsed + 1
    extractions := Vector.ofFn fun i => s.extractions[i].sample s.rx
    placements := Vector.ofFn fun i => s.placements[i].sample
    combiner := s.combiner.sample s.compositeSum
    slots := Vector.ofFn fun i => s.slots[i].tick
    memory := s.memoryPeriod
    arbiter := s.arbiter.tick }

/-! ### The events that are due -/

/-- The command that takes a port's oldest request. -/
def takeCommand (p : Port) : RequestRow → Instr
  | .identify => .identify p
  | .statusRead => .statusRead p
  | .nop => .nop p
  | .portClear => .portClear p
  | .claimNormal => .claimNormal p
  | .claimForce => .claimForce p
  | .release => .release p
  | .flagsWrite => .flagsWrite p
  | .planRead => .planRead p
  | .trimLevel => .trimLevel p
  | .trimFrequency => .trimFrequency p
  | .slotRead => .slotRead p
  | .revive => .revive p
  | .budgetRead => .budgetRead p
  | .draftCopy => .draftCopy p
  | .draftPutEntry => .draftPutEntry p
  | .draftPutHeader => .draftPutHeader p
  | .draftClear => .draftClear p
  | .draftGet => .draftGet p
  | .commit => .commit p
  | .pageStore => .pageStore p
  | .pageLoad => .pageLoad p
  | .pageErase => .pageErase p
  | .pageInfo => .pageInfo p
  | .bootSet => .bootSet p
  | .bootRead => .bootRead p
  | .reload => .reload p
  | .counterControl => .counterControl p
  | .counterRead => .counterRead p
  | .eventRead => .eventRead p
  | .unknown => .unknownRequest p

/-- A port whose queue is not empty takes its oldest request while its response queue has a free place (R139). -/
def State.dueRequest (s : State) (p : Port) : List Instr :=
  match (s.ports.get p).requests with
  | [] => []
  | r :: _ => if (s.ports.get p).responses.length < 8 then [takeCommand p (requestRow r)] else []

/-- A timer that has run out. -/
def timedOut (t : Option Nat) : Bool := t = some 0

/-- A ramp that has reached its duration (R42). -/
def Ramp.complete (r : Ramp) : Bool := r.duration ≤ r.elapsed

/-- The events due at one slot: settling, timers and ramps. -/
def State.dueSlot (s : State) (i : SlotIx) : List Instr :=
  (if timedOut s.extractions[i].settling then [.settlingComplete i] else [])
    ++ (if s.slots[i].state = .hold && timedOut s.slots[i].hold then [.holdTimerExpiry i] else [])
    ++ (if s.slots[i].state = .muted && timedOut s.slots[i].reacquire then [.reacquireTimerExpiry i] else [])
    ++ (if s.slots[i].state = .rising && s.slots[i].ramp.any Ramp.complete then [.riseCompletion i] else [])
    ++ (if s.slots[i].state = .falling && s.slots[i].ramp.any Ramp.complete then [.fallCompletion i] else [])

/-- The events due at the Arbiter. -/
def Arbiter.due (a : Arbiter) : List Instr :=
  (if a.authority.holder.isSome && timedOut a.lease then [.leaseExpiry] else [])
    ++ (if a.authority = .contested && timedOut a.contest then [.contestTimerExpiry] else [])
    ++ (if timedOut a.forceWindow then [.forceWindowExpiry] else [])

/-- The completion of the operation in progress; whether the cells read back intact is open (log entry 18). -/
def State.completion (s : State) : List Instr :=
  match s.memory.op with
  | none => []
  | some (.store _ .erase _ _ _) => [.storeEraseDone]
  | some (.store _ .program _ _ _) => [.storeProgramDone]
  | some (.store _ .verify _ _ _) => [.storeVerifyDone (s.readsIntact 0)]
  | some (.erase _ _ _) => [.pageEraseDone]
  | some (.load _ _ _) => [.pageLoadReadDone (s.readsIntact 0)]
  | some (.bootWrite _ _ _ _) => [.bootWriteDone (s.readsIntact 0)]
  | some (.startUpRead _) => [.startUpReadEnd (s.readsIntact 0) (s.readsIntact 1)]
  | some (.reloadRead _ _ _) => [.reloadReadEnd (s.readsIntact 0) (s.readsIntact 1)]

/-- The completion due at the memory engine, at the latest moment R116 allows. -/
def State.dueMemory (s : State) : List Instr :=
  if s.memory.op.any fun op => samplesOfMs op.limitMs ≤ s.memory.opElapsed then s.completion else []

/-- The level interval ends at its start plus the active plan's level_ms (R17); the idle step takes its actions in the
model's own order (log entry 8). -/
def State.dueInterval (s : State) : List Instr :=
  if samplesOfMs s.ctl.active.header.levelMs ≤ s.intervalElapsed then [.levelIntervalExpiry []] else []

/-- The events the part owes at this moment, in the order the model takes them when left alone (log entry 4). -/
def State.due (s : State) : List Instr :=
  s.dueRequest .a ++ s.dueRequest .b ++ allSlots.flatMap s.dueSlot
    ++ (if s.combiner.state = .resuming && s.combiner.ramp.any fun r => r.duration ≤ r.elapsed then
      [.resumingRampCompletion] else [])
    ++ s.arbiter.due ++ s.dueMemory ++ s.dueInterval

/-- The part left alone: in reset it stays at its reset values; else it owes the first event that is due, and where none
is due a sample period passes. What is due is found anew at each idle step, so that an event which another one has put
off is not taken at its old time (R13, R17, R42, R156; log entry 4). -/
def State.idle (s : State) : State :=
  if s.inReset then { s with sampleClock := s.sampleClock + 1 }
  else match s.due with
    | c :: _ => { s with pending := [c] }
    | [] => { s.samplePeriod with sampleClock := s.sampleClock + 1 }

end Sys2Proof.Machine
end

