-- ==== Sys2Proof/Safety.lean ====
section
/-! DEFINITION. The terms the statements use: when a port takes a request, and the invariants of the part. Each
invariant is a property of one state. -/

namespace Sys2Proof.Machine

/-! ### Taking a request (R139, R141) -/

/-- No reset is in force, `r` is the port's oldest request, and its response queue has a free place (R139). -/
abbrev State.mayTake (s : State) (p : Port) (r : Request) : Prop :=
  s.inReset = false ∧ (s.ports.get p).requests.head? = some r ∧ (s.ports.get p).responses.length < 8

/-- The port may take `r`, which is of the row and passes the three checks on its form (R141). -/
abbrev State.takes (s : State) (p : Port) (row : RequestRow) (r : Request) : Prop :=
  s.mayTake p r ∧ requestRow r = row ∧ formCheck r = none

/-- The port holds authority (R150). -/
abbrev State.holder (s : State) (p : Port) : Prop := s.arbiter.authority.holder = some p

/-- The requests that answer and change nothing else (R32, R65, R89, R96, R122, R124, R146, R147, R148). -/
def RequestRow.reading : RequestRow → Bool
  | .identify | .statusRead | .nop | .planRead | .slotRead | .budgetRead | .draftGet | .pageInfo | .bootRead => true
  | .portClear | .claimNormal | .claimForce | .release | .flagsWrite | .trimLevel | .trimFrequency | .revive
  | .draftCopy | .draftPutEntry | .draftPutHeader | .draftClear | .commit | .pageStore | .pageLoad | .pageErase
  | .bootSet | .reload | .counterControl | .counterRead | .eventRead | .unknown => false

/-! ### Invariants -/

/-- A port's queues and counters stay in their sizes (R132, R144). -/
abbrev PortState.Bounded (x : PortState) : Prop :=
  x.requests.length ≤ 4 ∧ x.responses.length ≤ 8 ∧ x.badFrames ≤ 65535 ∧ x.overruns ≤ 65535

/-- A slot's gain and ramp end gain stay in −80 to +120 steps (R40). -/
abbrev Slot.Bounded (x : Slot) : Prop :=
  (-80 ≤ x.gain ∧ x.gain ≤ 120) ∧ (-80 ≤ x.endGain ∧ x.endGain ≤ 120)

/-- A slot's six counters are 16-bit (R164). -/
abbrev SlotCounters.Bounded (x : SlotCounters) : Prop :=
  x.dips ≤ 65535 ∧ x.losses ≤ 65535 ∧ x.switches ≤ 65535 ∧ x.attempts ≤ 65535 ∧ x.shortfall ≤ 65535
    ∧ x.rampAborts ≤ 65535

/-- A measured level lies in −200 to 0 steps (R18, R20). -/
abbrev LevelBounded (l : Int) : Prop := -200 ≤ l ∧ l ≤ 0

/-- Every counted or measured item stays in the range that its table gives it (R9, R18, R20, R28, R40, R66, R112, R132,
R144, R164). -/
abbrev State.Bounded (s : State) : Prop :=
  (s.ports.a.Bounded ∧ s.ports.b.Bounded) ∧ (∀ i : SlotIx, s.slots[i].Bounded)
    ∧ (∀ i : SlotIx, LevelBounded s.extractions[i].lastLevel) ∧ LevelBounded s.combiner.lastLevel
    ∧ s.ctl.generation ≤ 65535 ∧ s.alloc.overloadRun ≤ 2
    ∧ (∀ i : PageIx, s.memory.pages[i].storeCount ≤ 16777215)
    ∧ (∀ i : SlotIx, s.counters.slots[i].Bounded) ∧ s.counters.overload ≤ 65535 ∧ s.counters.clip ≤ 65535

/-- One entry's number follows another's (R169). -/
def Event.Follows (x y : Event) : Prop := y.sequence = nextSequence x.sequence

/-- The ring holds at most 64 entries, numbered consecutively up to the sequence counter; a port's unread count is
within the entries held, and its lost count within 255 (R169). -/
def Ring.WellFormed (r : Ring) : Prop :=
  r.entries.length ≤ 64 ∧ r.entries.IsChain Event.Follows
    ∧ (∀ e ∈ r.entries.getLast?, e.sequence = r.sequence) ∧ r.sequence ≤ 4294967295
    ∧ r.unread.a ≤ r.entries.length ∧ r.unread.b ≤ r.entries.length ∧ r.lost.a ≤ 255 ∧ r.lost.b ≤ 255

/-- The grants add up to at most E, and E lies in 512 to 1,024 (R66). -/
abbrev Allocator.WithinPool (a : Allocator) : Prop := a.grantSum ≤ a.pool ∧ 512 ≤ a.pool ∧ a.pool ≤ 1024

/-- A slot that is OFF, DEFERRED, FALLING or FAILED has a grant of 0; one that is RISING, ON or HOLD has a grant above 0
(R41, R66). -/
def SlotState.grantFits (st : SlotState) (grant : Nat) : Bool :=
  match st with
  | .off | .deferred | .falling | .failed => grant = 0
  | .rising | .on | .hold => 0 < grant
  | .muted => true

/-- Every slot's grant fits its state, is at most its share in force, and has a target exactly when it is above 0
(R41, R66). -/
abbrev State.GrantsFit (s : State) : Prop :=
  ∀ i : SlotIx, s.slots[i].state.grantFits s.alloc.table[i].grant = true
    ∧ s.alloc.table[i].grant ≤ s.alloc.table[i].share
    ∧ (s.alloc.table[i].target.isSome = true ↔ 0 < s.alloc.table[i].grant)

/-- The Allocator is held exactly while the Controller is not READY; in READY no change is in progress, and the awaiting
set lies within the drain set (R73, R74, R97). -/
abbrev State.ControllerFits (s : State) : Prop :=
  (s.ctl.state = .ready ↔ s.alloc.held = false)
    ∧ (s.ctl.state = .ready →
        s.ctl.change = none ∧ s.ctl.incoming = none ∧ s.ctl.drainSet = noSlots ∧ s.ctl.awaiting = noSlots)
    ∧ (∀ i : SlotIx, s.ctl.awaiting[i] = true → s.ctl.drainSet[i] = true)

/-- The Arbiter's timers run only where R150 lets them. -/
def Arbiter.TimersFit (a : Arbiter) : Prop :=
  match a.authority with
  | .open => a.lease = none ∧ a.forceWindow = none ∧ a.contest = none
  | .held _ .claim => a.forceWindow = none ∧ a.contest = none
  | .held _ .force => a.contest = none
  | .contested => a.lease = none ∧ a.forceWindow = none ∧ a.contest.isSome = true

/-- The hold timer runs in HOLD alone and the reacquire timer in MUTED alone (R46, R49). -/
abbrev State.SlotTimersFit (s : State) : Prop :=
  ∀ i : SlotIx, (s.slots[i].hold.isSome = true → s.slots[i].state = .hold)
    ∧ (s.slots[i].reacquire.isSome = true → s.slots[i].state = .muted)

/-- The engine is idle in a reset, and a draft is LOADING only while the engine reads its page for it (R116, R120). -/
def State.DraftsFit (s : State) : Prop :=
  (s.inReset = true → s.memory.op = none)
    ∧ ∀ p : Port, ∀ pg : PageIx, (s.drafts.get p).loading = some pg → ∃ tag : Byte, s.memory.op = some (.load pg p tag)

/-- The active plan is valid (R27, R30). -/
abbrev State.PlanValid (s : State) : Prop := s.ctl.active.valid = true

/-- The snapshot of a store in progress (R118). -/
def Memory.snapshot (m : Memory) : Option Plan :=
  match m.op with
  | some (.store _ _ snap _ _) => some snap
  | _ => none

/-- The engine reads the boot pages for a start-up (R125). -/
def Memory.startingUp (m : Memory) : Bool :=
  match m.op with
  | some (.startUpRead _) => true
  | _ => false

/-- The engine reads the boot pages for a RELOAD (R129). -/
def Memory.reloading (m : Memory) : Bool :=
  match m.op with
  | some (.reloadRead _ _ _) => true
  | _ => false

/-- Every plan record the part holds lies in its ranges: the active plan, which is valid as well, the incoming plan, both
drafts, the pages' images and the snapshot of a store (R22). -/
abbrev State.RecordsInRange (s : State) : Prop :=
  s.PlanValid ∧ (∀ pl ∈ s.ctl.incoming, pl.inRange = true)
    ∧ (s.drafts.a.plan.inRange = true ∧ s.drafts.b.plan.inRange = true)
    ∧ (∀ i : PageIx, ∀ m ∈ s.memory.pages[i].image, m.record.inRange = true)
    ∧ ∀ pl ∈ s.memory.snapshot, pl.inRange = true

/-- A read of the boot pages runs in its controller state, and a reset leaves STARTING (R97, R125, R129). -/
abbrev State.ReadsFit (s : State) : Prop :=
  (s.inReset = true → s.ctl.state = .starting)
    ∧ (s.memory.startingUp = true → s.ctl.state = .starting)
    ∧ (s.memory.reloading = true → s.ctl.state = .loading)

/-- Two slots' in-use placements keep the spacing bound of the active plan's guard (R103). -/
abbrev State.Spaced (s : State) (i j : SlotIx) : Prop := s.inUseSpacing s.ctl.active.header.guardKhz i j = true

/-- In DRAINING a drained slot is OFF, or falls towards OFF and is awaited; it then keeps the bound of the active guard
to every slot that stays enabled and to every other drained slot that still falls (R103, R104). -/
abbrev State.DrainsFit (s : State) : Prop :=
  s.ctl.state = .draining → ∀ i : SlotIx, s.ctl.drainSet[i] = true →
    s.slots[i].state = .off
    ∨ (s.slots[i].state = .falling ∧ s.slots[i].fallDest = some .off ∧ s.ctl.awaiting[i] = true
      ∧ ∀ j : SlotIx, j ≠ i →
        (if s.ctl.drainSet[j] = true then s.slots[j].state.onAir = true else s.slots[j].inUse.enabled = true) →
        s.Spaced i j)

/-- A slot holds its active entry's fields unless DRAINING drains it, and only an enabled copy leaves OFF; in STARTING
every slot is OFF (R27, R62, R101, R107). -/
abbrev State.CopiesFit (s : State) : Prop :=
  ∀ i : SlotIx,
    (s.ctl.state = .draining ∧ s.ctl.drainSet[i] = true ∨ s.slots[i].inUse = s.ctl.active.entries[i].inUse)
    ∧ (s.slots[i].state = .off ∨ s.slots[i].inUse.enabled = true)
    ∧ (s.ctl.state = .starting → s.slots[i].state = .off)

/-- A slot's attempt count is 0 outside MUTED and FAILED; under a limit above 0 it is below the limit in MUTED; in FAILED
it is the limit, which is above 0 (R50, R51). -/
abbrev State.AttemptsFit (s : State) : Prop :=
  ∀ i : SlotIx,
    (s.slots[i].state ≠ .muted → s.slots[i].state ≠ .failed → s.slots[i].attempts = 0)
    ∧ (s.slots[i].state = .muted → 0 < s.ctl.active.entries[i].reacquireLimit →
        s.slots[i].attempts < s.ctl.active.entries[i].reacquireLimit)
    ∧ (s.slots[i].state = .failed →
        s.slots[i].attempts = s.ctl.active.entries[i].reacquireLimit ∧ 0 < s.slots[i].attempts)

/-- The share in force of a slot is its active entry's, but in a change that has installed a plan (R66). -/
abbrev State.SharesFit (s : State) : Prop :=
  s.ctl.state = .draining ∨ s.ctl.state = .raising
    ∨ ∀ i : SlotIx, s.alloc.table[i].share = s.ctl.active.entries[i].share

/-- The slots and the grant table follow the active plan. -/
structure State.FollowsPlan (s : State) : Prop where
  planValid : s.PlanValid
  controller : s.ControllerFits
  reads : s.ReadsFit
  drains : s.DrainsFit
  copies : s.CopiesFit
  attempts : s.AttemptsFit
  shares : s.SharesFit

/-! ### Adoption and delivery in the words of their rules -/

/-- What an adoption of an entry under a header makes of an extraction: idle, kept or retuned (R10). -/
abbrev Extraction.Adopts (x y : Extraction) (h : Header) (e : Entry) : Prop :=
  let offset : Int := (e.rxKhz : Int) - h.rxCentre
  let kept : Prop := x.tuned = true ∧ x.source = .primary ∧ x.offset = offset ∧ x.bwClass = e.bwClass
  if e.enabled = false then
    y.tuned = false ∧ y.offset = 0 ∧ y.word = 0 ∧ y.bwClass = 0 ∧ y.source = .primary ∧ y.phase = 0
      ∧ y.accum = .empty ∧ y.lastLevel = -200
  else
    y.tuned = true ∧ y.source = .primary ∧ y.offset = offset ∧ y.bwClass = e.bwClass ∧ y.centre = h.rxCentre
      ∧ (kept → y = { x with centre := h.rxCentre })
      ∧ (¬ kept → y.word = tuningWord offset ∧ y.phase = 0 ∧ y.accum = .empty ∧ y.settling = some 16000
        ∧ y.lastLevel = -200 ∧ y.history = [])

/-- What an adoption makes of a placement (R10). -/
abbrev Placement.Adopts (y : Placement) (h : Header) (e : Entry) : Prop :=
  y = if e.enabled then ⟨true, (e.txKhz : Int) - h.txCentre, tuningWord ((e.txKhz : Int) - h.txCentre), 0⟩
    else ⟨false, 0, 0, 0⟩

/-- A slot's record as it rises with a gain over a ramp (R53). -/
abbrev Slot.risen (x : Slot) (gain : Int) (ramp : Nat) : Slot :=
  { x with state := .rising, gain := gain, endGain := gain, ramp := some ⟨.rising, 0, ramp, 0⟩, reacquire := none
           attempts := 0 }

/-- A slot's record after a run that gives it a grant, for a slot that is not waiting for a raise: `fall` is the fall of
its target, `rise` the gain a rise ends at, `ramp` the ramp duration (R54 to R58, R76). -/
def Slot.given (x : Slot) (grant : Nat) (fall rise : Int) (ramp : Nat) : Slot :=
  match x.state with
  | .deferred => if 0 < grant then x.risen rise ramp else x
  | .rising =>
    if grant = 0 then
      { x with state := .falling, hold := none, fallDest := some .deferred
               ramp := some ⟨.falling, 0, ramp, (x.ramp.map Ramp.factor).getD 1⟩ }
    else if 0 < fall then
      { x with gain := max (-80) (min 120 (x.endGain - fall)), endGain := max (-80) (min 120 (x.endGain - fall)) }
    else x
  | .on | .hold =>
    if grant = 0 then
      { x with state := .falling, hold := none, fallDest := some .deferred, ramp := some ⟨.falling, 0, ramp, 1⟩ }
    else if 0 < fall then { x with gain := max (-80) (min 120 (x.gain - fall)) }
    else x
  | .muted => if grant = 0 then { x with state := .deferred, reacquire := none, ramp := none, attempts := 0 } else x
  | .off | .falling | .failed => x

/-- A slot whose carrier is lost for a cause: MUTED with its ramp and hold timer gone, losses counted, SLOT_LOST written, the
source of a slot with an alternate flipped with its counter and its event of cause LOSS, and the reacquire timer started
(R46, R47, R64). -/
abbrev State.lost (s : State) (i : SlotIx) (cause : Cause) : State :=
  let x := s.slots[i]
  let src := s.extractions[i].source.flipped
  let s1 := (({ s with
      slots := s.slots.set i { x with state := .muted, ramp := none, hold := none } } : State).count .losses i).write
    { kind := .slotLost, slot := some i, value1 := some s.extractions[i].lastLevel
      value2 := some x.inUse.threshold, cause := some cause }
  let s2 := if x.inUse.altRxKhz = none then s1 else
    ((s1.count .switches i).write
      { kind := .sourceSwitched, slot := some i, value1 := some src.code, value2 := some x.attempts
        cause := some .loss }).selectSource i src
  s2.modSlot i fun y => { y with reacquire := some (s.ctl.active.header.reacquireMs * 160000) }

/-! ### The signal path in the words of its rules -/

/-- What a gain stage makes of its channel's sample: silence in the silent states, the gain in ON and HOLD, and the ramp
factor in RISING and FALLING (R14, R41, R42). -/
abbrev Slot.Outputs (x : Slot) (channel out : Sample) : Prop :=
  (x.state ∈ [SlotState.off, .deferred, .muted, .failed] → out = .zero)
    ∧ (x.state ∈ [SlotState.on, .hold] → out = channel.scale (gainFactor x.gain))
    ∧ (∀ r, x.state = .rising → x.ramp = some r → r.dir = .rising →
      out = channel.scale (gainFactor x.endGain * ((r.elapsed : Rat) / r.duration)))
    ∧ (∀ r, x.state = .falling → x.ramp = some r → r.dir = .falling →
      out = channel.scale (gainFactor x.gain * (r.start * (1 - (r.elapsed : Rat) / r.duration))))

/-- The sum of the placed samples of a sample period: each tuned extraction's filter output through its gain stage, placed
by its tuned placement (R12, R14, R15, R78). -/
abbrev State.Composes (s : State) (sum : Sample) : Prop :=
  ∃ out : SlotIx → Sample,
    (∀ i : SlotIx, let x := s.extractions[i]
      s.slots[i].Outputs (if x.tuned then channelFilter x.bwClass
        ((rotate (Config.rxSample s.rxTaken) (-x.phase) :: x.history).take 16000) else .zero) (out i))
    ∧ sum = (allSlots.map fun i => let y := s.placements[i]
      if y.tuned then rotate (out i) y.phase else .zero).foldl Sample.add .zero

/-- What the combiner sends of a saturated sum: all of it in LIVE, zero in INTERLOCKED, scaled by the ramp in RESUMING
(R80). -/
abbrev Combiner.Sends (c : Combiner) (x bus : Sample) : Prop :=
  (c.state = .live → bus = x) ∧ (c.state = .interlocked → bus = .zero)
    ∧ ∀ r, c.state = .resuming → c.ramp = some r → bus = x.scale ((r.elapsed : Rat) / r.duration)

/-! ### The placement tests in the words of their rules -/

/-- A channel of a class at a frequency lies in the usable band about a centre (R4). -/
abbrev inBand (f centre : Int) (c : Fin 4) : Prop := (f - centre).natAbs + widthKhz c / 2 ≤ 76000

/-- Two transmit frequencies of two classes keep the guard (R6). -/
abbrev apart (guard : Nat) (f : Int) (c : Fin 4) (f' : Int) (c' : Fin 4) : Prop :=
  (widthKhz c + widthKhz c') / 2 + guard ≤ (f - f').natAbs

/-- An entry's receive frequency lies in its band (R4). -/
abbrev Plan.RxOk (pl : Plan) (i : SlotIx) : Prop := inBand pl.entries[i].rxKhz pl.header.rxCentre pl.entries[i].bwClass

/-- An entry's transmit frequency lies in its band (R4). -/
abbrev Plan.TxOk (pl : Plan) (i : SlotIx) : Prop := inBand pl.entries[i].txKhz pl.header.txCentre pl.entries[i].bwClass

/-- An entry's alternate, if it has one, lies in the receive band (R5). -/
abbrev Plan.AltBandOk (pl : Plan) (i : SlotIx) : Prop :=
  ∀ f ∈ pl.entries[i].altRxKhz, inBand f pl.header.rxCentre pl.entries[i].bwClass

/-- An entry's alternate, if it has one, differs from its primary (R5). -/
abbrev Plan.AltDiffers (pl : Plan) (i : SlotIx) : Prop := ∀ f ∈ pl.entries[i].altRxKhz, f ≠ pl.entries[i].rxKhz

/-- Two entries of a plan keep its guard (R6). -/
abbrev Plan.Apart (pl : Plan) (i j : SlotIx) : Prop :=
  apart pl.header.guardKhz pl.entries[i].txKhz pl.entries[i].bwClass pl.entries[j].txKhz pl.entries[j].bwClass

/-- An entry passes the tests of R31 that are made under its index. -/
abbrev Plan.Passes (pl : Plan) (i : SlotIx) : Prop :=
  pl.RxOk i ∧ pl.TxOk i ∧ pl.AltBandOk i ∧ pl.AltDiffers i
    ∧ ∀ j : SlotIx, i < j → pl.entries[j].enabled = true → pl.Apart i j

/-- A report names the first test that its entry fails, in the order of R31, and for TX_SPACING the least later enabled
entry that it stands too close to. -/
def Plan.Reports (pl : Plan) (rep : Report) : Prop :=
  let i := rep.slot
  match rep.kind with
  | .rxBand => ¬ pl.RxOk i ∧ rep.second = none
  | .txBand => pl.RxOk i ∧ ¬ pl.TxOk i ∧ rep.second = none
  | .altBand => pl.RxOk i ∧ pl.TxOk i ∧ ¬ pl.AltBandOk i ∧ rep.second = none
  | .altSame => pl.RxOk i ∧ pl.TxOk i ∧ pl.AltBandOk i ∧ ¬ pl.AltDiffers i ∧ rep.second = none
  | .txSpacing => pl.RxOk i ∧ pl.TxOk i ∧ pl.AltBandOk i ∧ pl.AltDiffers i ∧ ∃ j : SlotIx, rep.second = some j
      ∧ i < j ∧ pl.entries[j].enabled = true ∧ ¬ pl.Apart i j
      ∧ ∀ k : SlotIx, i < k → k < j → pl.entries[k].enabled = true → pl.Apart i k

/-! ### The choice of a boot page in the words of its rule -/

/-- What trying a page comes to: its result, the report of an invalid record, and the record of a usable one (R125). -/
abbrev Page.Tried (x : Page) (intact : Bool) (result : TryResult) (report : Option Report) (record : Option Plan) : Prop :=
  let unusable (why : TryResult) : Prop := result = why ∧ report = none ∧ record = none
  (x.state = .blank → unusable .blank)
    ∧ (x.state = .corrupt → unusable .corrupt)
    ∧ (x.state = .valid → x.image = none → unusable .corrupt)
    ∧ ∀ m, x.state = .valid → x.image = some m →
      (intact = false ∨ m.crc ≠ crc32 m.record.imageBytes → unusable .corrupt)
      ∧ (intact = true → m.crc = crc32 m.record.imageBytes →
        (m.record.valid = true → result = .used ∧ report = none ∧ record = some m.record)
        ∧ (m.record.valid = false → result = .invalid ∧ report = m.record.report ∧ record = none))

/-- What a read of the boot pages chooses: the boot record, the primary, and the fallback if the primary is set aside;
`x` and `y` say whether the cells of the two read back as programmed (R115, R125). -/
abbrev Memory.Chooses (m : Memory) (origin : BootOrigin) (x y : Bool) (o : BootOutcome) (record : Option Plan) : Prop :=
  o.origin = origin ∧ o.record = readBoot m.boot
    ∧ (readBoot m.boot = none → o.primary = .notNamed ∧ o.fallback = .notNamed ∧ o.primaryReport = none
      ∧ o.fallbackReport = none ∧ o.used = none ∧ record = none)
    ∧ ∀ pr fb, readBoot m.boot = some (pr, fb) → ∃ first : Option Plan,
      m.pages[pr].Tried x o.primary o.primaryReport first
      ∧ (∀ pl, first = some pl → record = some pl ∧ o.used = some pr ∧ o.fallbackReport = none
        ∧ o.fallback = if fb = none then .notNamed else .notTried)
      ∧ (first = none → fb = none →
        record = none ∧ o.used = none ∧ o.fallbackReport = none ∧ o.fallback = .notNamed)
      ∧ (∀ f, first = none → fb = some f → m.pages[f].Tried y o.fallback o.fallbackReport record
        ∧ o.used = if record = none then none else some f)

/-- What a read of the boot pages leaves of Plan Memory: a page that it found with a check not matching is CORRUPT, every
other page and the boot record are as before, the outcome is kept and the engine is IDLE (R112, R115, R125). -/
abbrev Memory.ReadEnds (m m' : Memory) (o : BootOutcome) : Prop :=
  m' = { m with pages := m'.pages, lastOutcome := some o, op := none, opElapsed := 0 }
    ∧ ∀ pg : PageIx, m'.pages[pg] =
      if ∃ pr fb, readBoot m.boot = some (pr, fb)
        ∧ (pg = pr ∧ o.primary = .corrupt ∨ fb = some pg ∧ o.fallback = .corrupt)
      then { m.pages[pg] with state := .corrupt } else m.pages[pg]

/-- Plan Memory over one sample period. A read of the boot pages whose item ends goes on to the next page that it must
read: the primary if it is VALID, the fallback if it is VALID and the primary is set aside; a primary whose check does not
match is CORRUPT from then on. An item ends at its limit or by a free choice (R112, R116, R125; log entry 17), and the end
of the last one is the end of the read. -/
abbrev State.MemoryRunsOn (s : State) (m : Memory) : Prop :=
  let stays : Memory := { s.memory with opElapsed := s.memory.opElapsed + 1 }
  let item := s.memory.op.bind EngineOp.readItem
  let ends (n : Nat) : Prop := 5 * n * 160000 ≤ s.memory.opElapsed + 1 ∨ Config.itemEnds s.sampleClock = true
  let next (j : ReadItem) : Memory := { stays with op := s.memory.op.map fun op => op.atItem j }
  (item = none → m = stays) ∧ (readBoot s.memory.boot = none → m = stays) ∧ (∀ b, item = some (.fallback b) → m = stays)
    ∧ ∀ pr fb, readBoot s.memory.boot = some (pr, fb) →
      let readable : Prop := ∃ f, fb = some f ∧ s.memory.pages[f].state = .valid
      (item = some .record →
        (¬ ends 1 → m = stays)
        ∧ (ends 1 → s.memory.pages[pr].state = .valid → m = next .primary)
        ∧ (ends 1 → s.memory.pages[pr].state ≠ .valid →
          (readable → m = next (.fallback false)) ∧ (¬ readable → m = stays)))
      ∧ (item = some .primary → (¬ ends 2 → m = stays)
        ∧ ∀ result report record, s.memory.pages[pr].Tried
            (Config.cellsIntact (s.sampleClock - s.memory.opElapsed) 0) result report record →
          (record ≠ none ∨ ¬ readable → m = stays)
          ∧ (ends 2 → record = none → readable → m = { next (.fallback true) with
              pages := if result = .corrupt then
                s.memory.pages.set pr { s.memory.pages[pr] with state := .corrupt } else s.memory.pages }))

/-! ### What a run writes -/

/-- The event that a slot writes as it acts on the grant a run gives it (R56, R58, R61, R64). -/
def State.grantNotice (s t : State) (raise : Bool) (i : SlotIx) : Option Notice :=
  let grant := t.alloc.table[i].grant
  let level := t.extractions[i].lastLevel
  let deferred (cause : Cause) : Notice :=
    { kind := .slotDeferred, slot := some i, value1 := some level, cause := some cause }
  match s.slots[i].state with
  | .off => if raise = true ∧ s.ctl.active.entries[i].enabled = true ∧ grant = 0 then some (deferred .raise) else none
  | .deferred =>
    if 0 < grant then
      some { kind := .slotRecovered, slot := some i, value1 := some level, value2 := some grant, cause := some .grant }
    else none
  | .muted => if grant = 0 then some (deferred .grant) else none
  | .rising | .on | .hold | .falling | .failed => none

/-- A ring after some events of one generation. -/
abbrev Ring.after (r : Ring) (generation : Nat) (ns : List Notice) : Ring := ns.foldl (fun r n => r.write generation n) r

/-- What a raise makes of a slot that stood in OFF: its entry adopted, its record in the grant table that of the raise
run, and the slot RISING on a grant above 0, DEFERRED on 0, or OFF if its entry is disabled (R10, R53, R61, R70). -/
abbrev State.RaisesSlot (s t : State) (i : SlotIx) : Prop :=
  let e := s.ctl.active.entries[i]
  let h := s.ctl.active.header
  let g := s.runGrant true i
  let target := targetOf h.ceiling g
  let rise : Int := max (-80) (min 120 (target.getD 0 - t.extractions[i].lastLevel))
  let x : Slot := { s.slots[i] with inUse := e.inUse, attempts := 0, hold := none, reacquire := none }
  t.alloc.table[i] = ⟨g, target, e.share⟩
    ∧ s.extractions[i].Adopts t.extractions[i] h e ∧ t.placements[i].Adopts h e
    ∧ t.slots[i] = if e.enabled then
        (if 0 < g then x.risen rise (h.rampMs * 160000) else { x with state := .deferred, ramp := none }) else x

/-- The events that close a change: COMMIT_DONE or RELOAD_DONE, with the drained slots that rose and that were deferred, and
none for a start-up (R107, R108, R111). -/
def State.closing (s t : State) : List Notice :=
  let done (kind : EventKind) (p : Port) (tag : Byte) : Notice :=
    { kind := kind, port := some p, tag := some tag, value1 := some (t.countIn s.ctl.drainSet .rising)
      value2 := some (t.countIn s.ctl.drainSet .deferred) }
  match s.ctl.change with
  | some (.commit p tag) => [done .commitDone p tag]
  | some (.reload p tag) => [done .reloadDone p tag]
  | some .startUp | none => []

/-- What RAISING makes of a state whose drained slots stand in OFF: each drained slot is raised, the raise run gives every
record of the grant table, the slots that stayed act on their grants, the events of the grants and the closing one are
written, and the Controller is READY with the Allocator free and nothing pending (R53 to R58, R61, R62, R70, R74, R76,
R107). -/
abbrev State.Raises (s t : State) : Prop :=
  let h := s.ctl.active.header
  t = { s with
      slots := t.slots, extractions := t.extractions, placements := t.placements, ring := t.ring
      alloc := { s.alloc with held := false, pendingRun := false, table := t.alloc.table }
      ctl := { s.ctl with state := .ready, drainSet := Vector.replicate 16 false, awaiting := Vector.replicate 16 false
                          incoming := none, change := none } }
    ∧ (∀ i : SlotIx,
      let e := s.ctl.active.entries[i]
      let g := s.runGrant true i
      let target := targetOf h.ceiling g
      let rise : Int := max (-80) (min 120 (target.getD 0 - s.extractions[i].lastLevel))
      let fall : Int := match s.alloc.table[i].target, target with
        | some old, some new => old - new
        | _, _ => 0
      t.alloc.table[i] = ⟨g, target, e.share⟩
      ∧ (s.ctl.drainSet[i] = true → s.RaisesSlot t i)
      ∧ (s.ctl.drainSet[i] = false →
        t.extractions[i] = s.extractions[i] ∧ t.placements[i] = s.placements[i]
        ∧ (s.slots[i].state ≠ .off ∨ e.enabled = false →
          t.slots[i] = s.slots[i].given g fall rise (h.rampMs * 160000))))
    ∧ t.ring = s.ring.after s.ctl.generation (allSlots.filterMap (s.grantNotice t true) ++ s.closing t)

/-! ### Installing a plan in the words of its rules -/

/-- A slot is drained: its copy and the new entry differ in enabled, rx, tx, class or alt, or a centre changes under an
enabled copy (R101). -/
abbrev State.Drained (s : State) (pl : Plan) (i : SlotIx) : Prop :=
  let u := s.slots[i].inUse
  let n := pl.entries[i]
  u.enabled ≠ n.enabled ∨ u.rxKhz ≠ n.rxKhz ∨ u.txKhz ≠ n.txKhz ∨ u.bwClass ≠ n.bwClass ∨ u.altRxKhz ≠ n.altRxKhz
    ∨ (u.enabled = true ∧ (s.ctl.active.header.rxCentre ≠ pl.header.rxCentre
      ∨ s.ctl.active.header.txCentre ≠ pl.header.txCentre))

/-- A slot is on the air (R41). -/
abbrev State.OnAir (s : State) (i : SlotIx) : Prop := s.slots[i].state ∈ [SlotState.rising, .on, .hold, .falling]

/-- A drained slot on the air is cut: the new guard sets it too close to a slot that stays enabled or to another drained
slot on the air (R103). -/
abbrev State.Cut (s : State) (pl : Plan) (i : SlotIx) : Prop :=
  s.Drained pl i ∧ s.OnAir i ∧ ∃ j, j ≠ i
    ∧ ¬ apart pl.header.guardKhz s.slots[i].inUse.txKhz s.slots[i].inUse.bwClass s.slots[j].inUse.txKhz
      s.slots[j].inUse.bwClass
    ∧ (s.Drained pl j ∧ s.OnAir j ∨ ¬ s.Drained pl j ∧ s.slots[j].inUse.enabled = true)

/-- A drained slot must fall, so that the Controller waits (R104). -/
abbrev State.MustFall (s : State) (pl : Plan) : Prop := ∃ i : SlotIx,
  (s.drainSetFor pl)[i] = true ∧ (s.cutSetFor pl)[i] = false ∧ s.slots[i].state.onAir = true

/-- A FAILED slot whose limit becomes 0 is revived (R50). -/
abbrev State.LimitRevives (s : State) (pl : Plan) (i : SlotIx) : Prop :=
  s.slots[i].state = .failed ∧ pl.entries[i].reacquireLimit = 0 ∧ s.ctl.active.entries[i].reacquireLimit ≠ 0

/-- The events of the FAILED slots that an installation's limits of 0 revive, in ascending index (R50, R64, R100). -/
def State.limitNotices (s : State) (pl : Plan) : List Notice :=
  allSlots.filterMap fun i =>
    if s.LimitRevives pl i ∧ ¬ s.Drained pl i then
      some { kind := .slotRevived, slot := some i, value1 := some (if s.extractions[i].source = .primary then 0 else 1)
             cause := some .limit }
    else none

/-- A slot's record as it enters OFF (R59). -/
abbrev Slot.turnedOff (x : Slot) : Slot :=
  { x with state := .off, hold := none, reacquire := none, ramp := none, fallDest := none, attempts := 0 }

/-- A record of the grant table that holds no grant (R57, R66). -/
abbrev GrantRec.freed (g : GrantRec) : GrantRec := { g with grant := 0, target := none }

/-- What the orders of an installation make of the slots: cut ones are OFF, a drained RISING, ON or HOLD slot falls from
where it stands, a FALLING one falls on, MUTED, DEFERRED and FAILED ones are OFF; the others take their new threshold and
adjust their attempts to a changed limit, a FAILED one that a limit of 0 revives being MUTED on its primary source (R50,
R60, R62, R63, R102 to R104). -/
abbrev State.Ordered (s t : State) (pl : Plan) : Prop :=
  t.placements = s.placements
    ∧ ∀ i : SlotIx, let x := s.slots[i]
      t.extractions[i] = (if ¬ s.Drained pl i ∧ s.LimitRevives pl i then s.extractions[i].select x.inUse .primary
        else s.extractions[i])
      ∧ (s.Cut pl i → t.slots[i] = x.turnedOff ∧ t.alloc.table[i] = s.alloc.table[i].freed)
      ∧ (s.Drained pl i → ¬ s.Cut pl i →
        (x.state ∈ [SlotState.rising, .on, .hold] → t.alloc.table[i] = s.alloc.table[i].freed
          ∧ t.slots[i] = { x with
            state := .falling, hold := none, fallDest := some .off
            ramp := some ⟨.falling, 0, pl.header.rampMs * 160000,
              if x.state = .rising then (x.ramp.map Ramp.factor).getD 1 else 1⟩ })
        ∧ (x.state = .falling → t.slots[i] = { x with fallDest := some .off } ∧ t.alloc.table[i] = s.alloc.table[i])
        ∧ (x.state ∈ [SlotState.muted, .deferred, .failed] →
          t.slots[i] = x.turnedOff ∧ t.alloc.table[i] = s.alloc.table[i].freed)
        ∧ (x.state = .off → t.slots[i] = x ∧ t.alloc.table[i] = s.alloc.table[i]))
      ∧ (¬ s.Drained pl i →
        (s.LimitRevives pl i → t.alloc.table[i] = s.alloc.table[i].freed ∧ t.slots[i] = { x with
            inUse := { x.inUse with threshold := pl.entries[i].threshold }
            state := .muted, attempts := 0, reacquire := some (pl.header.reacquireMs * 160000) })
        ∧ (¬ s.LimitRevives pl i → t.alloc.table[i] = s.alloc.table[i] ∧ t.slots[i] = { x with
            inUse := { x.inUse with threshold := pl.entries[i].threshold }
            attempts := if pl.entries[i].reacquireLimit = s.ctl.active.entries[i].reacquireLimit then x.attempts
              else if x.state = .failed then pl.entries[i].reacquireLimit
              else if 0 < pl.entries[i].reacquireLimit ∧ pl.entries[i].reacquireLimit ≤ x.attempts then
                pl.entries[i].reacquireLimit - 1
              else x.attempts }))

/-- The state in which the drained slots have their orders: the plan is active with the next generation, the Controller in
DRAINING awaits the drained slots that fall, the Allocator is held with E as it was, and the events so far are `begun` and
those of the FAILED slots that a limit of 0 revives (R100 to R104, R111). -/
abbrev State.Drains (s t : State) (pl : Plan) (change : Change) (begun : List Notice) : Prop :=
  s.Ordered t pl
    ∧ t.ctl = ⟨.draining, pl, if s.ctl.generation = 65535 then 1 else s.ctl.generation + 1, some pl, some change,
      s.drainSetFor pl, t.ctl.awaiting⟩
    ∧ (∀ i : SlotIx, t.ctl.awaiting[i] = true ↔ s.Drained pl i ∧ ¬ s.Cut pl i ∧ s.OnAir i)
    ∧ t.alloc = ⟨s.alloc.pool, t.alloc.table, s.alloc.overloadRun, true, t.alloc.pendingRun⟩
    ∧ (t.alloc.pendingRun = true ↔ s.alloc.pendingRun = true ∨ ∃ i, ¬ s.Drained pl i ∧ s.LimitRevives pl i)
    ∧ t.ring = s.ring.after t.ctl.generation (begun ++ s.limitNotices pl)

/-- What an installation makes of a state: it drains, and where no drained slot must fall the raise is made in the same
action (R100 to R107, R111). -/
abbrev State.Installs (s t : State) (pl : Plan) (change : Change) (begun : List Notice) : Prop :=
  (∀ i, (s.drainSetFor pl)[i] = true ↔ s.Drained pl i) ∧ (∀ i, (s.cutSetFor pl)[i] = true ↔ s.Cut pl i)
    ∧ (s.MustFall pl → s.Drains t pl change begun)
    ∧ (¬ s.MustFall pl → ∃ u : State, s.Drains u pl change begun ∧ u.Raises t)
    ∧ (∀ i : SlotIx, ¬ s.Drained pl i →
      t.slots[i].inUse = { s.slots[i].inUse with threshold := pl.entries[i].threshold })
    ∧ t.drafts = s.drafts ∧ t.arbiter = s.arbiter ∧ t.combiner = s.combiner ∧ t.interlock = s.interlock
    ∧ t.counters = s.counters ∧ t.intervalElapsed = s.intervalElapsed

/-! ### Codes in the words of their tables -/

/-- The event kinds with their causes, in the order of the table of R170. -/
def eventTable : List (EventKind × List Cause) :=
  [(.started, [.primary, .fallback, .none]), (.commitBegun, []), (.commitDone, []), (.reloadDone, []),
    (.reloadFailed, [.noRecord, .noUsablePage]), (.trim, [.level, .frequency]),
    (.slotLost, [.absent, .holdExpiry, .rampAbort]), (.sourceSwitched, [.loss, .expiry]),
    (.slotRecovered, [.carrier, .grant]), (.slotFailed, []), (.slotDeferred, [.grant, .raise]),
    (.slotRevived, [.request, .limit]), (.memoryDone, [.ok, .storeFailed, .pageCorrupt, .bootFailed]),
    (.authority, [.claim, .force, .release, .lapse, .contest, .contestEnd, .clear]), (.flags, [.write, .clear]),
    (.counterHigh, []), (.poolChanged, [.overload, .recovered]), (.interlock, [.asserted, .released, .resumed])]

/-- The requests with their codes and the body lengths they admit, in the order of the table of R176; both rows of CLAIM
have its code. -/
def requestTable : List (Nat × RequestRow × List Nat) :=
  [(0x01, .identify, [0]), (0x02, .statusRead, [0]), (0x03, .nop, List.range 257), (0x04, .portClear, [0]),
    (0x10, .claimNormal, [1]), (0x10, .claimForce, [1]), (0x11, .release, [0]), (0x12, .flagsWrite, [1]),
    (0x20, .planRead, [3]), (0x21, .trimLevel, [3]), (0x22, .trimFrequency, [2]), (0x30, .slotRead, [1]),
    (0x31, .revive, [1]), (0x32, .budgetRead, [0]), (0x40, .draftCopy, [0]), (0x41, .draftPutEntry, [34]),
    (0x42, .draftPutHeader, [35]), (0x43, .draftClear, [0]), (0x44, .draftGet, [4]), (0x45, .commit, [0, 2]),
    (0x50, .pageStore, [2]), (0x51, .pageLoad, [1]), (0x52, .pageErase, [1]), (0x53, .pageInfo, [1]),
    (0x54, .bootSet, [1, 2]), (0x55, .bootRead, [0]), (0x56, .reload, [0]), (0x60, .counterControl, [2]),
    (0x61, .counterRead, [2]), (0x62, .eventRead, [1])]

/-- The statuses with their codes (R176). -/
def statusTable : List (Nat × Status) :=
  [(0x00, .ok), (0x01, .okClamped), (0x10, .badFrame), (0x11, .unknownRequest), (0x12, .badLength), (0x13, .badArgument),
    (0x14, .badState), (0x20, .notAuthority), (0x21, .heldByOther), (0x22, .contested), (0x30, .notReady),
    (0x31, .busyPlan), (0x32, .busyMemory), (0x33, .draftBusy), (0x34, .stale), (0x35, .invalidPlan), (0x40, .pageBlank),
    (0x41, .pageCorrupt), (0x42, .pageNotValid)]

end Sys2Proof.Machine
end

