-- ==== Sys2Proof/Certificates/Slice0/Obligations.lean ====
section
/-! DEFINITION. The statements for the provers. The rules they formalise are named in OBLIGATIONS.json. -/

open Sys2Proof Sys2Proof.Machine

/-! ### The step -/

/-- A step with a command at the front of the queue is that command's meaning on the state with the queue's rest. -/
def Obligations.StepRunsTheFrontCommand : Prop :=
  ∀ (c : Instr) (rest : List Instr) (s : State),
    step { s with pending := c :: rest } = exec c { s with pending := rest }

/-- The model's choice (log entry 4): on an empty queue, a part in reset only counts the sample clock, a part that
owes events puts the first that is due into the queue, and otherwise one sample period passes. In that sample period
(log entry 4) a tuned extraction and a tuned placement advance their accumulators by their words, an idle one keeps
its record, a tuned extraction's filter takes the sample moved to zero offset, a settled one adds its channel's power
to its accumulation, running timers fall by one, and every ramp's elapsed time, the combiner's too, and the level
interval's time rise by one. A gain stage gives silence in the silent states, the ramp factor in RISING and FALLING,
and its gain in ON and HOLD; an idle placement or a silent slot adds nothing. The sum is saturated, its power joins
the accumulation, a saturation sets the clip record; the bus carries it in LIVE, zero in INTERLOCKED, and scaled by
the ramp in RESUMING. The factor 10^(gain/40) is met within 10^-20 (log entry 7) and exactly at its table's gains. A
rotation is the product with the accumulator's unit complex number: exact at quarter turns, elsewhere (log entry 7)
of power 1 within 10^-20, one word further turned by the small positive angle of word 1. A read of the boot pages
whose item ends goes on to the next page it must read, and a primary whose check does not match is CORRUPT at once;
when an item ends within its limit is open (log entry 17). Plans, drafts, all other pages, ports, grants, ring and
counters stay. -/
def Obligations.EmptyQueueStepAndSamplePeriod : Prop :=
  (∀ s : State, s.pending = [] →
     (s.inReset = true → step s = .next { s with sampleClock := s.sampleClock + 1 })
     ∧ (∀ c rest, s.inReset = false → s.due = c :: rest → step s = .next { s with pending := [c] })
     ∧ (s.inReset = false → s.due = [] →
         step s = .next { s.samplePeriod with sampleClock := s.sampleClock + 1 }))
  ∧ ((∀ s : State, s.pending = [] → s.inReset = false → s.due = [] → ∃ t : State, step s = .next t
       ∧ (∀ i : SlotIx,
           (s.extractions[i].tuned = true → t.extractions[i].phase = s.extractions[i].phase + s.extractions[i].word
             ∧ t.extractions[i].history =
               (rotate (Config.rxSample s.rxTaken) (-s.extractions[i].phase) :: s.extractions[i].history).take 16000
             ∧ t.extractions[i].settling = s.extractions[i].settling.map (· - 1)
             ∧ t.extractions[i].lastLevel = s.extractions[i].lastLevel
             ∧ (s.extractions[i].settling ≠ none → t.extractions[i].accum = s.extractions[i].accum)
             ∧ (s.extractions[i].settling = none →
               let y := channelFilter s.extractions[i].bwClass t.extractions[i].history
               t.extractions[i].accum =
                 ⟨s.extractions[i].accum.sum + (y.i * y.i + y.q * y.q), s.extractions[i].accum.count + 1⟩))
           ∧ (s.extractions[i].tuned = false → t.extractions[i] = s.extractions[i])
           ∧ (s.placements[i].tuned = true →
               t.placements[i] = { s.placements[i] with phase := s.placements[i].phase + s.placements[i].word })
           ∧ (s.placements[i].tuned = false → t.placements[i] = s.placements[i])
           ∧ t.slots[i] = { s.slots[i] with
               hold := s.slots[i].hold.map (· - 1)
               reacquire := s.slots[i].reacquire.map (· - 1)
               ramp := s.slots[i].ramp.map fun r => { r with elapsed := r.elapsed + 1 } })
       ∧ t.arbiter = { s.arbiter with
           lease := s.arbiter.lease.map (· - 1)
           forceWindow := s.arbiter.forceWindow.map (· - 1)
           contest := s.arbiter.contest.map (· - 1) }
       ∧ (∃ sum : Sample, s.Composes sum
         ∧ (let x : Sample := ⟨max (-1) (min 1 sum.i), max (-1) (min 1 sum.q)⟩
           t.combiner.accum = ⟨s.combiner.accum.sum + (x.i * x.i + x.q * x.q), s.combiner.accum.count + 1⟩
           ∧ (t.combiner.clip = true ↔ s.combiner.clip = true ∨ x ≠ sum)
           ∧ s.combiner.Sends x t.combiner.bus))
       ∧ t.combiner.state = s.combiner.state ∧ t.combiner.lastLevel = s.combiner.lastLevel
       ∧ t.combiner.ramp = s.combiner.ramp.map (fun r => { r with elapsed := r.elapsed + 1 })
       ∧ t.intervalElapsed = s.intervalElapsed + 1 ∧ t.sampleClock = s.sampleClock + 1 ∧ t.rxTaken = s.rxTaken + 1
       ∧ s.MemoryRunsOn t.memory
       ∧ t.alloc = s.alloc ∧ t.ctl = s.ctl ∧ t.drafts = s.drafts ∧ t.ports = s.ports ∧ t.ring = s.ring
       ∧ t.counters = s.counters ∧ t.interlock = s.interlock ∧ t.pending = [])
     ∧ (∀ (x : Sample) (acc : Word), rotate .zero acc = .zero ∧ rotate x 0 = x
       ∧ rotate x 0x40000000 = ⟨-x.q, x.i⟩ ∧ rotate x 0x80000000 = ⟨-x.i, -x.q⟩ ∧ rotate x 0xC0000000 = ⟨x.q, -x.i⟩)
     ∧ (let near (x y : Sample) : Prop := |x.i - y.i| ≤ 1 / 10 ^ 20 ∧ |x.q - y.q| ≤ 1 / 10 ^ 20
       unitComplex 0 = ⟨1, 0⟩ ∧ 0 < (unitComplex 1).q ∧ (unitComplex 1).q < 2 / 10 ^ 9
       ∧ ∀ (acc : Word), (∀ x : Sample, rotate x acc = ⟨x.i * (unitComplex acc).i - x.q * (unitComplex acc).q,
             x.i * (unitComplex acc).q + x.q * (unitComplex acc).i⟩)
         ∧ |(unitComplex acc).i ^ 2 + (unitComplex acc).q ^ 2 - 1| ≤ 1 / 10 ^ 20
         ∧ near (unitComplex (acc + 1)) (rotate (unitComplex acc) 1))
     ∧ (gainFactor (-80) = 1 / 100 ∧ gainFactor 0 = 1 ∧ gainFactor 120 = 1000)
     ∧ ∀ g : Int, -80 ≤ g → g ≤ 120 → 0 < gainFactor g
       ∧ (gainFactor g - 1 / 10 ^ 20) ^ 40 * 10 ^ 80 ≤ 10 ^ (g + 80).toNat
       ∧ 10 ^ (g + 80).toNat ≤ (gainFactor g + 1 / 10 ^ 20) ^ 40 * 10 ^ 80)

/-- What a running part owes at a moment, and so what an idle step takes (log entry 4): a port's oldest request while
its response queue has a free place; the end of settling; the expiry of a hold timer in HOLD, of a reacquire timer in
MUTED, of the lease of a holder, of the contest timer in CONTESTED and of the force window, when its time left is 0;
the completion of a rise, a fall or a resuming ramp whose time has reached its duration; the completion of an
operation of the memory engine at the longest time that R116 gives it (the model's choice, log entry 4), a read's
being that of the items read; and the level interval expiry when level_ms, as it now stands, has passed. -/
def Obligations.EventsDue : Prop :=
  ∀ (s : State) (c : Instr), c ∈ s.due ↔
    (∃ p r rest, (s.ports.get p).requests = r :: rest ∧ (s.ports.get p).responses.length < 8
      ∧ c = takeCommand p (requestRow r))
    ∨ (∃ i : SlotIx,
      (s.extractions[i].settling = some 0 ∧ c = .settlingComplete i)
      ∨ (s.slots[i].state = .hold ∧ s.slots[i].hold = some 0 ∧ c = .holdTimerExpiry i)
      ∨ (s.slots[i].state = .muted ∧ s.slots[i].reacquire = some 0 ∧ c = .reacquireTimerExpiry i)
      ∨ ∃ x, s.slots[i].ramp = some x ∧ x.duration ≤ x.elapsed
        ∧ (s.slots[i].state = .rising ∧ c = .riseCompletion i ∨ s.slots[i].state = .falling ∧ c = .fallCompletion i))
    ∨ (∃ x, s.combiner.state = .resuming ∧ s.combiner.ramp = some x ∧ x.duration ≤ x.elapsed
      ∧ c = .resumingRampCompletion)
    ∨ ((∃ p, s.holder p) ∧ s.arbiter.lease = some 0 ∧ c = .leaseExpiry)
    ∨ (s.arbiter.authority = .contested ∧ s.arbiter.contest = some 0 ∧ c = .contestTimerExpiry)
    ∨ (s.arbiter.forceWindow = some 0 ∧ c = .forceWindowExpiry)
    ∨ (let ran (ms : Nat) : Prop := ms * 160000 ≤ s.memory.opElapsed
      let intact : Nat → Bool := Config.cellsIntact (s.sampleClock - s.memory.opElapsed)
      let read : ReadItem → Prop := fun
        | .record => ran 5
        | .primary => ran 10
        | .fallback true => ran 15
        | .fallback false => ran 10
      match s.memory.op with
      | none => False
      | some (.store _ .erase _ _ _) => ran 200 ∧ c = .storeEraseDone
      | some (.store _ .program _ _ _) => ran 150 ∧ c = .storeProgramDone
      | some (.store _ .verify _ _ _) => ran 20 ∧ c = .storeVerifyDone (intact 0)
      | some (.erase _ _ _) => ran 200 ∧ c = .pageEraseDone
      | some (.load _ _ _) => ran 5 ∧ c = .pageLoadReadDone (intact 0)
      | some (.bootWrite _ _ _ _) => ran 60 ∧ c = .bootWriteDone (intact 0)
      | some (.startUpRead item) => read item ∧ c = .startUpReadEnd (intact 0) (intact 1)
      | some (.reloadRead item _ _) => read item ∧ c = .reloadReadEnd (intact 0) (intact 1))
    ∨ (s.ctl.active.header.levelMs * 160000 ≤ s.intervalElapsed
      ∧ c = .levelIntervalExpiry [])

/-- The channel filter (R12; its arithmetic is the model's, log entry 7): it holds the last 16,000 samples at most,
each moved to zero offset by the accumulator that the samples before it left; nothing of a time before a retune. Its
output is the sum over the frequencies 10 kHz apart of what the samples hold of each, by the filter's gain there,
turned as a whole by an open angle: the gain is 1 to within 10^-4 at every one of them in −W/2 to +W/2, with the sign
of a delay of 8,000 samples, and beyond W/2 it falls to nothing within 40 kHz; two filters that hold the same below
there give the same. So a steady sample passes turned by the open angle, exactly for the two narrower classes, and
samples that turn by quarters are rejected, exactly for the narrowest class, 0. An idle extraction is silent, and a
retune empties the filter. -/
def Obligations.ChannelFilterPassband : Prop :=
  (∀ (x : Extraction) (rx : Sample),
    (x.tuned = false → x.output rx = .zero)
    ∧ (x.tuned = true → x.output rx = channelFilter x.bwClass ((rotate rx (-x.phase) :: x.history).take 16000)))
  ∧ (∀ (x : Extraction) (rx : List Sample), x.tuned = true →
    (x.history.length ≤ 16000 → (rx.foldl Extraction.sample x).history =
      ((rx.mapIdx fun k y => rotate y (-(x.phase + x.word * BitVec.ofNat 32 k))).reverse ++ x.history).take 16000)
    ∧ ∀ offset, (rx.foldl Extraction.sample (x.retune offset)).history =
      (rx.mapIdx fun k y => rotate y (-(tuningWord offset * BitVec.ofNat 32 k))).reverse.take 16000)
  ∧ (∀ (c : Fin 4) (h : List Sample),
    channelFilter c h = complexMul (unitComplex (Config.filterPhase c))
      (((filterBins c).map fun m => Sample.scale (filterGain c m) (binOf h m)).foldl Sample.add .zero))
  ∧ (∀ (c : Fin 4) (m : Int),
    (m ∈ filterBins c ↔ 10 * m.natAbs < widthKhz c / 2 + 40)
    ∧ (10 * m.natAbs ≤ widthKhz c / 2 → filterShape c m.natAbs = 1)
    ∧ (widthKhz c / 2 + 40 ≤ 10 * m.natAbs → filterShape c m.natAbs = 0)
    ∧ filterShape c (m.natAbs + 1) ≤ filterShape c m.natAbs
    ∧ |filterGain c m - (-1) ^ m.natAbs * filterShape c m.natAbs| ≤ 1 / 10000)
  ∧ (∀ (c : Fin 4) (h k : List Sample),
    (∀ m : Int, 10 * m.natAbs < widthKhz c / 2 + 40 → binOf h m = binOf k m) → channelFilter c h = channelFilter c k)
  ∧ (∀ (c : Fin 4) (n : Nat), channelFilter c (List.replicate n .zero) = .zero)
  ∧ (∀ (h : List Sample) (x : Sample) (m : Int), h.length < 16000 →
    binOf (h ++ [x]) m = Sample.add (binOf h m)
      (Sample.scale (1 / 16000) (complexMul x (turnUnit ((m * h.length) % 16000).toNat))))
  ∧ (∀ (c : Fin 4) (x : Sample), widthKhz c ≤ 2000 →
    channelFilter c (List.replicate 16000 x) =
      complexMul (unitComplex (Config.filterPhase c)) (Sample.scale (filterGain c 0) x))
  ∧ (∀ (x : Sample) (j : Nat), 1 ≤ j → j ≤ 3 →
    channelFilter 0 ((List.range 16000).map fun k => quarterTurns (j * k % 4) x) = .zero)
  ∧ (let near (x y : Sample) : Prop := |x.i - y.i| ≤ 1 / 10 ^ 20 ∧ |x.q - y.q| ≤ 1 / 10 ^ 20
    turnUnit 0 = ⟨1, 0⟩ ∧ 0 < (turnUnit 1).q ∧ (turnUnit 1).q < 1 / 1000
    ∧ ∀ k : Nat, turnUnit (k + 4000) = ⟨-(turnUnit k).q, (turnUnit k).i⟩
      ∧ |(turnUnit k).power - 1| ≤ 1 / 10 ^ 20
      ∧ near (turnUnit (k + 1)) (complexMul (turnUnit k) (turnUnit 1)))

/-! ### Invariants that every step keeps -/

/-- The state after reset meets every invariant that the statements below say a step keeps. -/
def Obligations.ResetMeetsTheInvariants : Prop :=
  State.reset.Bounded ∧ State.reset.ring.WellFormed ∧ State.reset.alloc.WithinPool ∧ State.reset.GrantsFit
    ∧ State.reset.ControllerFits ∧ State.reset.arbiter.TimersFit ∧ State.reset.SlotTimersFit ∧ State.reset.DraftsFit
    ∧ State.reset.PlanValid ∧ State.reset.RecordsInRange ∧ State.reset.FollowsPlan

/-- Every step keeps the queue lengths, counters, levels, gains, generation, overload run count and store counts in
the ranges that their tables give. -/
def Obligations.StepKeepsRanges : Prop :=
  ∀ s t : State, s.Bounded → step s = .next t → t.Bounded

/-- Every step keeps the grants' sum within E and E within 512 to 1,024. -/
def Obligations.StepKeepsGrantsWithinPool : Prop :=
  ∀ s t : State, s.alloc.WithinPool → step s = .next t → t.alloc.WithinPool

/-- Every step keeps each slot's grant in agreement with its state, at most its share in force, and its target
present exactly when the grant is above 0. -/
def Obligations.StepKeepsGrantsFit : Prop :=
  ∀ s t : State, s.GrantsFit → step s = .next t → t.GrantsFit

/-- Every step keeps the active plan valid: commits, reloads, start-up installations and trims included. -/
def Obligations.StepKeepsActivePlanValid : Prop :=
  ∀ s t : State, s.PlanValid → step s = .next t → t.PlanValid

/-- Every step keeps the ring well formed: at most 64 entries, consecutive numbers, unread counts within the entries
held, lost counts within 255. -/
def Obligations.StepKeepsRingWellFormed : Prop :=
  ∀ s t : State, s.ring.WellFormed → step s = .next t → t.ring.WellFormed

/-- Every step keeps the Allocator held exactly outside READY, and READY free of a change in progress. Every step
keeps a draft LOADING only while the engine reads its page for it. Every step keeps the Arbiter's timers to the
authority states they run in. Every step keeps hold timers to HOLD and reacquire timers to MUTED. -/
def Obligations.StepKeepsControllerDraftsAndTimers : Prop :=
  (∀ s t : State, s.ControllerFits → step s = .next t → t.ControllerFits)
  ∧ (∀ s t : State, s.DraftsFit → step s = .next t → t.DraftsFit)
  ∧ (∀ s t : State, s.arbiter.TimersFit → step s = .next t → t.arbiter.TimersFit)
  ∧ (∀ s t : State, s.SlotTimersFit → step s = .next t → t.SlotTimersFit)

/-! ### Rules over every command -/

/-- The generation changes only by a commit, an end of a RELOAD read or a trim, each adding 1 with 65,535 going to 1,
by the end of the start-up read, which sets it to 1, and by device reset, which sets it to 0. A page's store count
rises, by 1 and up to 16,777,215, only at the end of a store's erase phase, on the page being stored; no command
changes another. E changes only at a level interval expiry and at a device reset, which sets it to 1,024; the expiry
moves it by one step down or one step up, or leaves it. -/
def Obligations.GenerationStoreCountAndPoolChange : Prop :=
  (∀ (c : Instr) (s t : State), exec c s = .next t →
     t.ctl.generation = s.ctl.generation
     ∨ (t.ctl.generation = (if s.ctl.generation = 65535 then 1 else s.ctl.generation + 1)
         ∧ ((∃ p, c = .commit p ∨ c = .trimLevel p ∨ c = .trimFrequency p) ∨ ∃ x y, c = .reloadReadEnd x y))
     ∨ (t.ctl.generation = 1 ∧ ∃ x y, c = .startUpReadEnd x y)
     ∨ (t.ctl.generation = 0 ∧ ∃ cause, c = .deviceReset cause))
  ∧ (∀ (c : Instr) (s t : State) (pg : PageIx), exec c s = .next t →
       t.memory.pages[pg].storeCount = s.memory.pages[pg].storeCount
       ∨ (c = .storeEraseDone ∧ (∃ snap p tag, s.memory.op = some (.store pg .erase snap p tag))
           ∧ t.memory.pages[pg].storeCount = min 16777215 (s.memory.pages[pg].storeCount + 1)))
  ∧ (∀ (c : Instr) (s t : State), s.alloc.WithinPool → exec c s = .next t →
       t.alloc.pool = s.alloc.pool
       ∨ ((∃ x, c = .levelIntervalExpiry x)
           ∧ (t.alloc.pool = min (s.alloc.pool + 16) 1024
             ∨ (t.alloc.pool < s.alloc.pool ∧ max (s.alloc.pool - 64) 512 ≤ t.alloc.pool
               ∧ (s.alloc.held = false → t.alloc.pool = max (s.alloc.pool - 64) 512))))
       ∨ (t.alloc.pool = 1024 ∧ ∃ cause, c = .deviceReset cause))

/-- A request taken on one port leaves the other port's queues, transfer, counters, draft and cross flags as they
were, and, on a well-formed ring, lowers neither its unread count nor its lost count. -/
def Obligations.RequestsLeaveTheOtherPort : Prop :=
  ∀ (p : Port) (row : RequestRow) (s t : State), exec (takeCommand p row) s = .next t →
    t.ports.get p.other = s.ports.get p.other ∧ t.drafts.get p.other = s.drafts.get p.other
    ∧ t.arbiter.flags.get p.other = s.arbiter.flags.get p.other
    ∧ (s.ring.WellFormed → s.ring.lost.get p.other ≤ t.ring.lost.get p.other
      ∧ s.ring.unread.get p.other ≤ t.ring.unread.get p.other)

/-- A reading request changes its port's queues and, through a success of the holder, the lease, and nothing else. -/
def Obligations.ReadingRequestsChangeNothingElse : Prop :=
  ∀ (p : Port) (row : RequestRow) (s t : State), row.reading = true → exec (takeCommand p row) s = .next t →
    t = { s with
      ports := s.ports.set p { s.ports.get p with
        requests := (t.ports.get p).requests, responses := (t.ports.get p).responses }
      arbiter := { s.arbiter with lease := t.arbiter.lease } }

/-! ### Taking and answering -/

/-- A request command in reset, on an empty queue, with a full response queue, or of another row than the oldest
request's changes nothing. The oldest request of its own row that fails a check on its form leaves the queue and is
answered with that check's status, the code first, then the flags, then the length; its body is empty, but that a
COMMIT carries the active generation; that it is empty for a CLAIM, RELEASE, PLAN READ, DRAFT GET and FLAGS WRITE is
the model's choice (log entry 26). That a command whose row does not match the oldest request changes nothing is the
model's choice (log entry 3). -/
def Obligations.RequestTaking : Prop :=
  ∀ (p : Port) (row : RequestRow) (s : State),
    (s.inReset = true → exec (takeCommand p row) s = .next s)
    ∧ ((s.ports.get p).requests = [] → exec (takeCommand p row) s = .next s)
    ∧ (8 ≤ (s.ports.get p).responses.length → exec (takeCommand p row) s = .next s)
    ∧ (∀ r : Request, s.mayTake p r → requestRow r ≠ row → exec (takeCommand p row) s = .next s)
    ∧ (∀ r : Request, s.mayTake p r → requestRow r = row → ∀ st : Status,
        (requestRow r = .unknown ∧ st = .unknownRequest
          ∨ requestRow r ≠ .unknown ∧ 1 < r.flags.toNat ∧ st = .badArgument
          ∨ requestRow r ≠ .unknown ∧ r.flags.toNat ≤ 1 ∧ row.lengthOk r.body.length = false ∧ st = .badLength) →
        exec (takeCommand p row) s = .next (s.modPort p fun x =>
          { x with requests := x.requests.tail, responses := x.responses ++
            [⟨r.tag, r.code, st, if row = .commit then be16 s.ctl.generation else []⟩] }))

/-- An answer joins the tail of the port's response queue with the request's tag and code; a quiet request that
succeeds has none. The lease is renewed exactly when the request succeeds and its port holds authority. A taken
request whose code names no request of the part is refused with UNKNOWN_REQUEST, its code echoed and its body empty,
whatever its flags and length; nothing else changes. -/
def Obligations.AnswersAndUnknownRequests : Prop :=
  (∀ (s : State) (p : Port) (r : Request) (a : Reply),
     ((s.respond p r a).ports.get p).responses
         = (s.ports.get p).responses
           ++ (if r.flags = 1 ∧ (a.status = .ok ∨ a.status = .okClamped) then []
             else [⟨r.tag, r.code, a.status, a.body⟩])
     ∧ ((s.respond p r a).ports.get p).requests = (s.ports.get p).requests
     ∧ (s.respond p r a).ports.get p.other = s.ports.get p.other
     ∧ (s.respond p r a).arbiter
         = (if (a.status = .ok ∨ a.status = .okClamped) ∧ s.holder p then
             { s.arbiter with
               lease := (if s.ctl.active.header.leaseMs = 0 then none
                 else some (s.ctl.active.header.leaseMs * 160000)) }
           else s.arbiter)
     ∧ (s.respond p r a).ring = s.ring ∧ (s.respond p r a).ctl = s.ctl ∧ (s.respond p r a).slots = s.slots)
  ∧ (∀ (s : State) (p : Port) (r : Request), s.mayTake p r → requestRow r = .unknown →
       exec (.unknownRequest p) s = .next (s.modPort p fun x =>
         { x with requests := x.requests.tail, responses := x.responses ++ [⟨r.tag, r.code, .unknownRequest, []⟩] }))

/-! ### Reading requests -/

/-- IDENTIFY answers OK with vendor code 0x0B37, part code 4216, the revision, and "Pelfram" behind its length.
STATUS READ answers OK with 35 bytes: authority, holder, both ports' flags, generation, controller state, engine
state, phase and page, sixteen slot states, composite state, E, and the own port's counters, unread and lost counts. -/
def Obligations.IdentifyAndStatusRead : Prop :=
  (∀ (s : State) (p : Port) (r : Request), s.takes p .identify r →
     exec (.identify p) s = .next ((s.dequeue p).respond p r
       ⟨.ok, [0x0B, 0x37, 0x10, 0x78, Config.revision, 7, 0x50, 0x65, 0x6C, 0x66, 0x72, 0x61, 0x6D]⟩))
  ∧ (∀ (s : State) (p : Port) (r : Request), s.takes p .statusRead r → ∃ b : List Byte,
       exec (.statusRead p) s = .next ((s.dequeue p).respond p r ⟨.ok, b⟩) ∧ b.length = 35
       ∧ b.take 4 = [byteOf s.arbiter.authority.code, optByte (s.arbiter.authority.holder.map portCode),
           (s.arbiter.flags.get .a).setWidth 8, (s.arbiter.flags.get .b).setWidth 8]
       ∧ (b.drop 4).take 2 = be16 s.ctl.generation
       ∧ (b.drop 6).take 4 = [byteOf s.ctl.state.code, byteOf s.memory.engineCode, byteOf s.memory.phaseCode,
           optByte (s.enginePage.map Fin.val)]
       ∧ (∀ i : SlotIx, b[10 + i.val]? = some (byteOf s.slots[i].state.code))
       ∧ b[26]? = some (byteOf s.combiner.state.code)
       ∧ (b.drop 27).take 2 = be16 s.alloc.pool
       ∧ (b.drop 29).take 2 = be16 (s.ports.get p).badFrames ∧ (b.drop 31).take 2 = be16 (s.ports.get p).overruns
       ∧ b.drop 33 = [byteOf (s.ring.unread.get p), byteOf (s.ring.lost.get p)])

/-- NOP answers OK with its own body, of any length from 0 to 256; nothing but the queues and the holder's lease
changes. -/
def Obligations.NopEchoes : Prop :=
  ∀ (s : State) (p : Port) (r : Request), s.mayTake p r → requestRow r = .nop → r.flags.toNat ≤ 1 →
    r.body.length ≤ 256 → exec (.nop p) s = .next ((s.dequeue p).respond p r ⟨.ok, r.body⟩)

/-- PLAN READ answers generation, controller state, and the header, or `count` entries of 33 bytes from `start` on,
past entry 15 to entry 0; start above 15, or a count of 0 or above 16, is BAD_ARGUMENT, its body empty by the model's
choice (log entry 26). The header form ignores both. DRAFT GET reads the own or the other draft: its state, the page
being loaded, and its header or `count` entries from `start` on; a LOADING draft is read as well. A draft or form
selector above 1, and in the entries form a start above 15 or a count of 0 or above 16, is BAD_ARGUMENT, its body
empty by the model's choice (log entry 26). -/
def Obligations.PlanReadAndDraftGet : Prop :=
  (∀ (s : State) (p : Port) (r : Request), s.takes p .planRead r →
     (u8At r.body 0 = 0 → exec (.planRead p) s = .next ((s.dequeue p).respond p r
       ⟨.ok, be16 s.ctl.generation ++ [byteOf s.ctl.state.code] ++ s.ctl.active.header.bytes⟩))
     ∧ (u8At r.body 0 = 1 → u8At r.body 1 ≤ 15 → 1 ≤ u8At r.body 2 → u8At r.body 2 ≤ 16 → ∃ b : List Byte,
         exec (.planRead p) s = .next ((s.dequeue p).respond p r ⟨.ok, b⟩)
         ∧ b.length = 3 + 33 * u8At r.body 2
         ∧ b.take 3 = be16 s.ctl.generation ++ [byteOf s.ctl.state.code]
         ∧ ∀ k < u8At r.body 2, ∀ i : SlotIx, i.val = (u8At r.body 1 + k) % 16 →
             (b.drop (3 + 33 * k)).take 33 = s.ctl.active.entries[i].bytes)
     ∧ (1 < u8At r.body 0 ∨ (u8At r.body 0 = 1 ∧ (15 < u8At r.body 1 ∨ u8At r.body 2 = 0 ∨ 16 < u8At r.body 2)) →
         exec (.planRead p) s = .next ((s.dequeue p).respond p r ⟨.badArgument, []⟩)))
  ∧ ((∀ (s : State) (p : Port) (r : Request), s.takes p .draftGet r →
       (1 < u8At r.body 0 ∨ 1 < u8At r.body 1
         ∨ (u8At r.body 1 = 1 ∧ (15 < u8At r.body 2 ∨ u8At r.body 3 = 0 ∨ 16 < u8At r.body 3))) →
       exec (.draftGet p) s = .next ((s.dequeue p).respond p r ⟨.badArgument, []⟩))
     ∧ ∀ (s : State) (p : Port) (r : Request) (q : Port), s.takes p .draftGet r →
       (u8At r.body 0 = 0 ∧ q = p ∨ u8At r.body 0 = 1 ∧ q = p.other) →
       (u8At r.body 1 = 0 → exec (.draftGet p) s = .next ((s.dequeue p).respond p r
         ⟨.ok, [if (s.drafts.get q).loading.isSome then 1 else 0, optByte ((s.drafts.get q).loading.map Fin.val)]
           ++ (s.drafts.get q).plan.header.bytes⟩))
       ∧ (u8At r.body 1 = 1 → u8At r.body 2 ≤ 15 → 1 ≤ u8At r.body 3 → u8At r.body 3 ≤ 16 → ∃ b : List Byte,
           exec (.draftGet p) s = .next ((s.dequeue p).respond p r ⟨.ok, b⟩)
           ∧ b.length = 2 + 33 * u8At r.body 3
           ∧ b.take 2 = [if (s.drafts.get q).loading.isSome then 1 else 0, optByte ((s.drafts.get q).loading.map Fin.val)]
           ∧ ∀ k < u8At r.body 3, ∀ i : SlotIx, i.val = (u8At r.body 2 + k) % 16 →
               (b.drop (2 + 33 * k)).take 33 = (s.drafts.get q).plan.entries[i].bytes))

/-- SLOT READ answers the 45 bytes of the slot's record (the label bit of its presence byte clear: log entry 14), and
a slot above 15 is BAD_ARGUMENT. BUDGET READ answers 147 bytes: E, held, pending run, run count, grant sum and what
is left, the composite state, the resuming ramp (absent outside RESUMING), the last composite level, the ceiling,
sixteen slot records and the generation. PAGE INFO answers 24 bytes in every engine state: the label only of a VALID
page, and the engine's state and phase while it operates on the page (that a boot write operates on no page, so that
PAGE INFO reports none on those it names, is the model's reading, log entry 14); a page above 15 is BAD_ARGUMENT.
Times that are no whole number of milliseconds are reported rounded down or up (log entry 15). BOOT READ answers 20
bytes: the boot record with its pages' states, the busy mark of a boot write, and the whole last boot outcome. The
encodings of what is absent are the model's reading (log entry 14), and that a yes is written as 1 and a no as 0
where R178 gives no code (log entry 27). The difference flag compares the six in-use fields; that it is so clear for
a slot drained for a change of centre alone is the model's choice (log entry 28). -/
def Obligations.SlotBudgetPageAndBootReads : Prop :=
  (∀ (s : State) (p : Port) (r : Request), s.takes p .slotRead r →
     (15 < u8At r.body 0 → exec (.slotRead p) s = .next ((s.dequeue p).respond p r ⟨.badArgument, []⟩))
     ∧ ∀ i : SlotIx, u8At r.body 0 = i.val → ∃ b : List Byte,
       exec (.slotRead p) s = .next ((s.dequeue p).respond p r ⟨.ok, b⟩) ∧ b.length = 45
       ∧ b.take 2 = [byteOf i.val, byteOf s.slots[i].state.code]
       ∧ (b.drop 2).take 16 = s.slots[i].inUse.bytes
       ∧ (b.drop 18).take 2 = [if s.slots[i].inUse = s.ctl.active.entries[i].inUse then 0 else 1,
           byteOf s.extractions[i].source.code]
       ∧ (b.drop 20).take 10 = signed16 s.extractions[i].lastLevel ++ signed16 s.slots[i].gain
           ++ signed16 (s.extractions[i].lastLevel + s.slots[i].gain) ++ be16 s.alloc.table[i].grant
           ++ optSigned16 s.alloc.table[i].target
       ∧ (s.slots[i].ramp = none → (b.drop 30).take 7 = 0 :: [0xFF, 0xFF, 0xFF, 0xFF, 0x80, 0x00])
       ∧ (∀ x, s.slots[i].ramp = some x → (b.drop 30).take 7 =
           [if x.dir = .rising then 1 else 2] ++ be16 (reportMs x.elapsed) ++ be16 (reportMs x.duration)
             ++ (if x.dir = .rising then signed16 s.slots[i].endGain else [0x80, 0x00]))
       ∧ (b.drop 37).take 5 = timer16 s.slots[i].hold ++ timer16 s.slots[i].reacquire ++ [byteOf s.slots[i].attempts]
       ∧ b[42]? = some (match s.slots[i].fallDest with
           | none => 0
           | some .off => 1
           | some .deferred => 2 : Byte)
       ∧ b.drop 43 = be16 s.ctl.generation)
  ∧ (∀ (s : State) (p : Port) (r : Request), s.takes p .budgetRead r → ∃ b : List Byte,
       exec (.budgetRead p) s = .next ((s.dequeue p).respond p r ⟨.ok, b⟩) ∧ b.length = 147
       ∧ b.take 10 = be16 s.alloc.pool ++ [flagByte s.alloc.held, flagByte s.alloc.pendingRun, byteOf s.alloc.overloadRun]
           ++ be16 s.alloc.grantSum ++ be16 (s.alloc.pool - s.alloc.grantSum) ++ [byteOf s.combiner.state.code]
       ∧ (s.combiner.state ≠ .resuming → (b.drop 10).take 4 = [0xFF, 0xFF, 0xFF, 0xFF])
       ∧ (∀ x, s.combiner.state = .resuming → s.combiner.ramp = some x →
         (b.drop 10).take 4 = be16 (reportMs x.elapsed) ++ be16 (reportMs x.duration))
       ∧ (b.drop 14).take 3 = signed16 s.combiner.lastLevel ++ signed8 s.ctl.active.header.ceiling
       ∧ (∀ i : SlotIx, (b.drop (17 + 8 * i.val)).take 8 =
           [flagByte (s.ctl.active.entries[i].enabled && s.slots[i].state ≠ .failed),
             byteOf s.ctl.active.entries[i].priority.val]
           ++ be16 s.alloc.table[i].share ++ be16 s.alloc.table[i].grant ++ optSigned16 s.alloc.table[i].target)
       ∧ b.drop 145 = be16 s.ctl.generation)
  ∧ (∀ (s : State) (p : Port) (r : Request), s.takes p .pageInfo r →
      (15 < u8At r.body 0 → exec (.pageInfo p) s = .next ((s.dequeue p).respond p r ⟨.badArgument, []⟩))
      ∧ ∀ pg : PageIx, u8At r.body 0 = pg.val → ∃ b : List Byte,
        exec (.pageInfo p) s = .next ((s.dequeue p).respond p r ⟨.ok, b⟩) ∧ b.length = 24
        ∧ b.take 6 = [byteOf pg.val, byteOf s.memory.pages[pg].state.code] ++ be32 s.memory.pages[pg].storeCount
        ∧ b[6]? = some (if 100000 < s.memory.pages[pg].storeCount then 1 else 0)
        ∧ (s.memory.pages[pg].state ≠ .valid → b.drop 10 = List.replicate 14 0)
        ∧ (∀ m, s.memory.pages[pg].state = .valid → s.memory.pages[pg].image = some m →
          b.drop 10 = (if m.record.header.label.isSome then 1 else 0) :: labelBytes m.record.header.label)
        ∧ (∀ pr fb, readBoot s.memory.boot = some (pr, fb) →
          b[7]? = some (if pg = pr then 1 else if fb = some pg then 2 else 0))
        ∧ (readBoot s.memory.boot = none → b[7]? = some 0)
        ∧ (b.drop 8).take 2 = (match s.memory.op with
          | none => [0, 0]
          | some (.store q ph _ _ _) => if q = pg then
              [1, match ph with
                | .erase => 1
                | .program => 2
                | .verify => 3] else [0, 0]
          | some (.erase q _ _) => if q = pg then [2, 0] else [0, 0]
          | some (.load q _ _) => if q = pg then [3, 0] else [0, 0]
          | some (.bootWrite _ _ _ _) => [0, 0]
          | some (.startUpRead item) => if s.memory.pageOfItem item = some pg then [3, 0] else [0, 0]
          | some (.reloadRead item _ _) => if s.memory.pageOfItem item = some pg then [3, 0] else [0, 0]))
    ∧ ∀ (s : State) (p : Port) (r : Request), s.takes p .bootRead r → ∃ b : List Byte,
        exec (.bootRead p) s = .next ((s.dequeue p).respond p r ⟨.ok, b⟩) ∧ b.length = 20
        ∧ (∀ pr fb, readBoot s.memory.boot = some (pr, fb) →
            b.take 5 = [1, byteOf pr.val, optByte (fb.map Fin.val), byteOf s.memory.pages[pr].state.code,
              optByte (fb.map fun f => s.memory.pages[f].state.code)])
        ∧ (readBoot s.memory.boot = none → b.take 5 = [0, 0xFF, 0xFF, 0xFF, 0xFF])
        ∧ b[5]? = some (match s.memory.op with
          | some (.bootWrite _ _ _ _) => 1
          | _ => 0 : Byte)
        ∧ (s.memory.lastOutcome = none → b.drop 6 = 0 :: List.replicate 13 0xFF)
        ∧ ∀ o, s.memory.lastOutcome = some o → b.drop 6 =
            [1, if o.origin = .startUp then 0 else 1, if o.record.isSome then 1 else 0,
              optByte (o.record.map fun x => x.1.val), optByte (o.record.bind fun x => x.2.map Fin.val),
              byteOf o.primary.code, byteOf o.fallback.code]
            ++ reportBytes o.primaryReport ++ reportBytes o.fallbackReport ++ [optByte (o.used.map Fin.val)]

/-! ### Formats -/

/-- The layouts of the records that the bodies above name. An in-range entry, put as its own 33 bytes behind its
index, and an in-range header, put as its own 35, are stored unchanged and answered with the same bytes. In each
record the fields stand at their offsets, most significant byte first, signed ones in two's complement: the entry,
the header, the in-use copy (16 bytes; that the label bit of its presence byte is clear is the model's reading, log
entry 14), the event record (20 bytes; absent fields are 0, told by the presence byte, the kind and the cause are
positions in the table of R170), the authority view (11 bytes; a time that is no whole number of milliseconds is
reported rounded down or up, log entry 15) and the validation report (3 bytes). -/
def Obligations.RecordLayouts : Prop :=
  let label (l : Label) : List Byte := match l with
    | none => List.replicate 13 0
    | some cs => byteOf cs.length :: cs ++ List.replicate (12 - cs.length) 0
  let bit (b : Bool) (n : Nat) : Nat := if b then 2 ^ n else 0
  (∀ (s : State) (p : Port) (r : Request) (i : SlotIx) (e : Entry), s.takes p .draftPutEntry r →
    (s.drafts.get p).loading = none → e.inRange = true → r.body = byteOf i.val :: e.bytes →
    let d := s.drafts.get p
    exec (.draftPutEntry p) s = .next (({ s.dequeue p with
      drafts := s.drafts.set p ⟨{ d.plan with entries := d.plan.entries.set i e }, none⟩ } : State).respond p r
      ⟨.ok, e.bytes⟩))
  ∧ (∀ (s : State) (p : Port) (r : Request) (h : Header), s.takes p .draftPutHeader r →
    (s.drafts.get p).loading = none → h.inRange = true → r.body = h.bytes →
    let d := s.drafts.get p
    exec (.draftPutHeader p) s = .next (({ s.dequeue p with
      drafts := s.drafts.set p ⟨{ d.plan with header := h }, none⟩ } : State).respond p r ⟨.ok, h.bytes⟩))
  ∧ (∀ e : Entry, e.inRange = true → let b := e.bytes
    b.length = 33 ∧ u8At b 0 = bit e.enabled 0 + bit e.altRxKhz.isSome 1 + bit e.label.isSome 2
    ∧ u32At b 1 = e.rxKhz ∧ u32At b 5 = e.txKhz ∧ u32At b 9 = e.altRxKhz.getD 0 ∧ u8At b 13 = e.bwClass.val
    ∧ u8At b 14 = e.priority.val ∧ u16At b 15 = e.share ∧ s16At b 17 = e.threshold ∧ u8At b 19 = e.reacquireLimit
    ∧ b.drop 20 = label e.label)
  ∧ (∀ h : Header, h.inRange = true → let b := h.bytes
    b.length = 35 ∧ u8At b 0 = bit h.label.isSome 0 ∧ u32At b 1 = h.rxCentre ∧ u32At b 5 = h.txCentre
    ∧ u16At b 9 = h.guardKhz ∧ s8At b 11 = h.ceiling ∧ u16At b 12 = h.rampMs ∧ u16At b 14 = h.holdMs
    ∧ u16At b 16 = h.reacquireMs ∧ u16At b 18 = h.levelMs ∧ u16At b 20 = h.leaseMs ∧ b.drop 22 = label h.label)
  ∧ (∀ e : Entry, e.inRange = true → let u := e.inUse
    let b := u.bytes
    b.length = 16 ∧ u8At b 0 = bit e.enabled 0 + bit e.altRxKhz.isSome 1 ∧ u32At b 1 = e.rxKhz ∧ u32At b 5 = e.txKhz
    ∧ u32At b 9 = e.altRxKhz.getD 0 ∧ u8At b 13 = e.bwClass.val ∧ s16At b 14 = e.threshold)
  ∧ (∀ e : Event, e.sequence ≤ 4294967295 → e.generation ≤ 65535 → let n := e.notice
    let b := e.bytes
    b.length = 20 ∧ u32At b 0 = e.sequence ∧ (1 ≤ u8At b 4 ∧ ∃ cs, eventTable[u8At b 4 - 1]? = some (n.kind, cs)
      ∧ (n.cause = none → u8At b 19 = 0) ∧ ∀ c ∈ cs, n.cause = some c → 1 ≤ u8At b 19 ∧ cs[u8At b 19 - 1]? = some c)
    ∧ u16At b 5 = e.generation
    ∧ u8At b 7 = bit n.slot.isSome 0 + bit n.port.isSome 1 + bit n.tag.isSome 2 + bit n.value1.isSome 3
      + bit n.value2.isSome 4 + bit n.cause.isSome 5
    ∧ u8At b 8 = ((n.slot.map Fin.val).getD 0) ∧ u8At b 9 = (if n.port = some .b then 1 else 0)
    ∧ b[10]? = some (n.tag.getD 0)
    ∧ (-2147483648 ≤ n.value1.getD 0 → n.value1.getD 0 ≤ 2147483647 → signedOf 32 (u32At b 11) = n.value1.getD 0)
    ∧ (-2147483648 ≤ n.value2.getD 0 → n.value2.getD 0 ≤ 2147483647 → signedOf 32 (u32At b 15) = n.value2.getD 0))
  ∧ (∀ s : State, let b := s.authorityView
    let ms (n k : Nat) : Prop := k * 160000 = n ∨ n % 160000 ≠ 0 ∧ (k = n / 160000 ∨ k = n / 160000 + 1)
    b.length = 11
    ∧ (s.arbiter.authority = .open → u8At b 0 = 0 ∧ u8At b 1 = 0xFF ∧ u8At b 2 = 0xFF)
    ∧ (∀ q m, s.arbiter.authority = .held q m → u8At b 0 = 1 ∧ u8At b 1 = (if q = .a then 0 else 1)
      ∧ u8At b 2 = (if m = .claim then 0 else 1))
    ∧ (s.arbiter.authority = .contested → u8At b 0 = 2 ∧ u8At b 1 = 0xFF ∧ u8At b 2 = 0xFF)
    ∧ (s.arbiter.lease = none → u32At b 3 = 0xFFFFFFFF)
    ∧ (∀ n, s.arbiter.lease = some n → n ≤ 60000 * 160000 → ms n (u32At b 3))
    ∧ (s.arbiter.forceWindow = none → u16At b 7 = 0xFFFF)
    ∧ (∀ n, s.arbiter.forceWindow = some n → n ≤ 10000 * 160000 → ms n (u16At b 7))
    ∧ (s.arbiter.contest = none → u16At b 9 = 0xFFFF)
    ∧ ∀ n, s.arbiter.contest = some n → n ≤ 10000 * 160000 → ms n (u16At b 9))
  ∧ ∀ rep : Report, rep.bytes.length = 3
    ∧ [FailKind.rxBand, .txBand, .altBand, .altSame, .txSpacing][u8At rep.bytes 0 - 1]? = some rep.kind
    ∧ 1 ≤ u8At rep.bytes 0 ∧ u8At rep.bytes 1 = rep.slot.val
    ∧ u8At rep.bytes 2 = (rep.second.map Fin.val).getD 0xFF

/-- A request's code names its row by the table of R176, CLAIM's by its mode, and its length is checked against that
row's; a code outside the table names none (which CLAIM command takes a CLAIM whose body is not one mode byte of 0 or
1 is the model's choice, log entry 11). The page that STATUS READ names is that of the operation or of the item being
read. The statuses and the small codes are those of R175 and R176. A response frame is the start byte 0x3C, tag,
code, status, length, body, and the CRC-16 of what stands between. The CRC-16 and the CRC-32 take the bits of each
byte from its most significant one into a register of all ones: it moves up by one bit, and is met with the
polynomial 0x1021 or 0x04C11DB7 when the bit that leaves and the bit that enters differ; the CRC-32 alone is inverted
at the end. A page's image is the 35 bytes of its header and the 33 of each entry in index order, 563 in all, and its
CRC-32; the boot record is its two page bytes, 0xFF for no fallback, and their CRC-16; a check matches when it is
that of the bytes held. A yes is 1 and a no is 0 in one byte, also where no code is given (the model's reading, log
entry 27). -/
def Obligations.CodesAndFrames : Prop :=
  (∀ r : Request,
    (∀ x ∈ requestTable, x.1 = r.code.toNat → r.code ≠ 0x10 → requestRow r = x.2.1)
    ∧ (r.code = 0x10 → requestRow r = if r.body = [1] then .claimForce else .claimNormal)
    ∧ ((∀ x ∈ requestTable, x.1 ≠ r.code.toNat) → requestRow r = .unknown))
  ∧ (∀ x ∈ requestTable, ∀ n : Nat, x.2.1.lengthOk n = true ↔ n ∈ x.2.2)
  ∧ (∀ st : Status, (st.code, st) ∈ statusTable) ∧ statusTable.Nodup ∧ (statusTable.map Prod.fst).Nodup
  ∧ [portCode .a, portCode .b] = [0, 1] ∧ [Source.primary, .alternate].map Source.code = [0, 1]
  ∧ [SlotState.off, .deferred, .rising, .on, .hold, .muted, .falling, .failed].map SlotState.code = List.range 8
  ∧ [CtlState.starting, .ready, .loading, .draining, .raising].map CtlState.code = List.range 5
  ∧ [PageState.blank, .valid, .corrupt].map PageState.code = List.range 3
  ∧ [CompositeState.live, .interlocked, .resuming].map CompositeState.code = List.range 3
  ∧ (∀ q m, [Authority.open, .held q m, .contested].map Authority.code = List.range 3)
  ∧ [TryResult.used, .blank, .corrupt, .invalid, .notNamed, .notTried].map TryResult.code = List.range 6
  ∧ (∀ m : Memory, (m.engineCode, m.phaseCode) = match m.op with
    | none => (0, 0)
    | some (.store _ .erase _ _ _) => (1, 1)
    | some (.store _ .program _ _ _) => (1, 2)
    | some (.store _ .verify _ _ _) => (1, 3)
    | some (.erase _ _ _) => (2, 0)
    | some (.load _ _ _) => (3, 0)
    | some (.startUpRead _) => (3, 0)
    | some (.reloadRead _ _ _) => (3, 0)
    | some (.bootWrite _ _ _ _) => (4, 0))
  ∧ (∀ (m : Memory) (item : ReadItem), m.pageOfItem item = match item, readBoot m.boot with
    | .primary, some (pr, _) => some pr
    | .fallback _, some (_, fb) => fb
    | _, _ => none)
  ∧ (∀ s : State, s.enginePage = match s.memory.op with
    | none => none
    | some (.store pg _ _ _ _) => some pg
    | some (.erase pg _ _) => some pg
    | some (.load pg _ _) => some pg
    | some (.bootWrite pr _ _ _) => some pr
    | some (.startUpRead item) => s.memory.pageOfItem item
    | some (.reloadRead item _ _) => s.memory.pageOfItem item)
  ∧ (∀ r : Response, let mid := r.tag :: r.code :: byteOf r.status.code :: be16 r.body.length ++ r.body
    r.frameBytes = 0x3C :: mid ++ be16 (crc16 mid).toNat)
  ∧ (∀ bs : List Byte, let bits : List Bool := bs.flatMap fun b => (List.range 8).map b.getMsbD
    crc16 bs = bits.foldl (fun (c : BitVec 16) x => (c <<< 1) ^^^ (if c.msb = x then 0 else 0x1021)) 0xFFFF
    ∧ crc32 bs =
      ~~~(bits.foldl (fun (c : BitVec 32) x => (c <<< 1) ^^^ (if c.msb = x then 0 else 0x04C11DB7)) 0xFFFFFFFF))
  ∧ (∀ pl : Plan, pl.image = ⟨pl, crc32 pl.imageBytes⟩
    ∧ pl.imageBytes = pl.header.bytes ++ (List.finRange 16).flatMap (fun i => pl.entries[i].bytes)
    ∧ pl.imageBytes.length = 563 ∧ pl.header.bytes.length = 35
    ∧ (∀ i : SlotIx, (pl.imageBytes.drop (35 + 33 * i.val)).take 33 = pl.entries[i].bytes))
  ∧ (∀ m : Image, m.matching = true ↔ m.crc = crc32 m.record.imageBytes)
  ∧ (∀ (pr : PageIx) (fb : Option PageIx), let two := [byteOf pr.val, byteOf ((fb.map Fin.val).getD 0xFF)]
    bootImage pr fb = ⟨pr, fb, crc16 two⟩
    ∧ ∀ c, readBoot none = none ∧ readBoot (some ⟨pr, fb, c⟩) = if c = crc16 two then some (pr, fb) else none)
  ∧ flagByte true = 1 ∧ flagByte false = 0

/-! ### The plan records and what follows the plan -/

/-- Every step keeps every plan record that the part holds within its ranges, and keeps the slots and the grant table
with the active plan: each slot holds its active entry's fields unless DRAINING drains it, its attempt count stays
below a limit above 0 and is at it in FAILED, its share in force is its active share but in a change that has
installed a plan. No two slots on the air come closer than the active guard. -/
def Obligations.StepKeepsRecordsAndSlotsOnPlan : Prop :=
  (∀ s t : State, s.RecordsInRange → step s = .next t → t.RecordsInRange)
  ∧ (∀ s t : State, s.FollowsPlan → step s = .next t → t.FollowsPlan)
  ∧ ∀ s : State, s.FollowsPlan → ∀ i j : SlotIx, i ≠ j → s.slots[i].state.onAir = true →
    s.slots[j].state.onAir = true →
    (widthKhz s.slots[i].inUse.bwClass + widthKhz s.slots[j].inUse.bwClass) / 2 + s.ctl.active.header.guardKhz
      ≤ ((s.slots[i].inUse.txKhz : Int) - (s.slots[j].inUse.txKhz : Int)).natAbs

/-! ### Ports: PORT CLEAR -/

/-- PORT CLEAR empties both own queues, clears the own flags and port counters, moves the own read position to the
write position, releases authority the own port holds or ends a contest, then writes AUTHORITY and FLAGS where they
are due, and answers OK. -/
def Obligations.PortClearClears : Prop :=
  ∀ (s : State) (p : Port) (r : Request), s.takes p .portClear r →
    let gives : Prop := s.holder p ∨ s.arbiter.authority = .contested
    let s1 : State := { s with
      ports := s.ports.set p { s.ports.get p with
        requests := [], responses := [], frameAtHead := false, badFrames := 0, overruns := 0 }
      ring := { s.ring with unread := s.ring.unread.set p 0, lost := s.ring.lost.set p 0 }
      arbiter := if gives then ⟨.open, none, none, none, s.arbiter.flags.set p 0⟩
        else { s.arbiter with flags := s.arbiter.flags.set p 0 } }
    let s2 := if gives then s1.write { kind := .authority, port := some p, value1 := some 0, cause := some .clear } else s1
    let s3 := if s.arbiter.flags.get p = 0 then s2 else s2.write
      { kind := .flags, port := some p, value1 := some 0, value2 := some (s.arbiter.flags.get p).toNat,
        cause := some .clear }
    exec (.portClear p) s = .next (s3.respond p r ⟨.ok, []⟩)

/-! ### Authority -/

/-- CLAIM NORMAL takes authority that is OPEN, renews the lease of the holder, and changes nothing where the other
port holds or authority is contested; every answer carries the view after it. (A mode that names no value is refused
before this, as SelectorsThenAuthorityAreChecked says; log entry 26.) -/
def Obligations.ClaimNormal : Prop :=
  ∀ (s : State) (p : Port) (r : Request), s.takes p .claimNormal r → u8At r.body 0 = 0 →
    (s.arbiter.authority = .open →
      let t := ({ s.dequeue p with
          arbiter := ⟨.held p .claim, none, s.freshLease, none, s.arbiter.flags⟩ } : State).write
        { kind := .authority, port := some p, tag := some r.tag, value1 := some 1, value2 := some (portCode p),
          cause := some .claim }
      exec (.claimNormal p) s = .next (t.respond p r ⟨.ok, t.authorityView⟩))
    ∧ (s.holder p →
      let t : State := { s.dequeue p with arbiter := { s.arbiter with lease := s.freshLease } }
      exec (.claimNormal p) s = .next (t.respond p r ⟨.ok, t.authorityView⟩))
    ∧ (s.holder p.other →
      exec (.claimNormal p) s = .next ((s.dequeue p).respond p r ⟨.heldByOther, s.authorityView⟩))
    ∧ (s.arbiter.authority = .contested →
      exec (.claimNormal p) s = .next ((s.dequeue p).respond p r ⟨.contested, s.authorityView⟩))

/-- CLAIM FORCE acts as NORMAL does in OPEN, for the holder and in CONTESTED. It takes authority from the other port
with a force window of 10 s and a fresh lease, unless the other port's own force window runs: then authority is
CONTESTED for 10 s. -/
def Obligations.ClaimForce : Prop :=
  ∀ (s : State) (p : Port) (r : Request), s.takes p .claimForce r →
    (s.arbiter.authority = .open →
      let t := ({ s.dequeue p with
          arbiter := ⟨.held p .claim, none, s.freshLease, none, s.arbiter.flags⟩ } : State).write
        { kind := .authority, port := some p, tag := some r.tag, value1 := some 1, value2 := some (portCode p),
          cause := some .claim }
      exec (.claimForce p) s = .next (t.respond p r ⟨.ok, t.authorityView⟩))
    ∧ (s.holder p →
      let t : State := { s.dequeue p with arbiter := { s.arbiter with lease := s.freshLease } }
      exec (.claimForce p) s = .next (t.respond p r ⟨.ok, t.authorityView⟩))
    ∧ (s.arbiter.authority = .contested →
      exec (.claimForce p) s = .next ((s.dequeue p).respond p r ⟨.contested, s.authorityView⟩))
    ∧ (∀ m, s.arbiter.authority = .held p.other m → (m = .claim ∨ s.arbiter.forceWindow = none) →
      let t := ({ s.dequeue p with
          arbiter := ⟨.held p .force, some 1600000000, s.freshLease, none, s.arbiter.flags⟩ } : State).write
        { kind := .authority, port := some p, tag := some r.tag, value1 := some 1, value2 := some (portCode p),
          cause := some .force }
      exec (.claimForce p) s = .next (t.respond p r ⟨.ok, t.authorityView⟩))
    ∧ (s.arbiter.authority = .held p.other .force → s.arbiter.forceWindow ≠ none →
      let t := ({ s.dequeue p with
          arbiter := ⟨.contested, none, none, some 1600000000, s.arbiter.flags⟩ } : State).write
        { kind := .authority, port := some p, tag := some r.tag, value1 := some 2, cause := some .contest }
      exec (.claimForce p) s = .next (t.respond p r ⟨.contested, t.authorityView⟩))

/-- RELEASE makes authority OPEN when the own port holds it or it is contested, and is NOT_AUTHORITY otherwise; the
answer carries the authority view (in the refusal, the model's choice: log entry 13). FLAGS WRITE replaces the own
port's four flags, writes FLAGS when one changed, and answers both ports' flags; a body with one of bits 4 to 7 set
is BAD_ARGUMENT, its body empty by the model's choice (log entry 26). -/
def Obligations.ReleaseAndFlagsWrite : Prop :=
  (∀ (s : State) (p : Port) (r : Request), s.takes p .release r →
     (s.holder p ∨ s.arbiter.authority = .contested →
       let t := ({ s.dequeue p with arbiter := ⟨.open, none, none, none, s.arbiter.flags⟩ } : State).write
         { kind := .authority, port := some p, tag := some r.tag, value1 := some 0, cause := some .release }
       exec (.release p) s = .next (t.respond p r ⟨.ok, t.authorityView⟩))
     ∧ (s.holder p.other ∨ s.arbiter.authority = .open →
       exec (.release p) s = .next ((s.dequeue p).respond p r ⟨.notAuthority, s.authorityView⟩)))
  ∧ (∀ (s : State) (p : Port) (r : Request), s.takes p .flagsWrite r →
       (16 ≤ u8At r.body 0 → exec (.flagsWrite p) s = .next ((s.dequeue p).respond p r ⟨.badArgument, []⟩))
       ∧ ∀ f : BitVec 4, u8At r.body 0 = f.toNat →
         let s1 : State := { s.dequeue p with arbiter := { s.arbiter with flags := s.arbiter.flags.set p f } }
         let s2 := if s.arbiter.flags.get p = f then s1 else s1.write
           { kind := .flags, port := some p, tag := some r.tag, value1 := some f.toNat,
             value2 := some (s.arbiter.flags.get p).toNat, cause := some .write }
         exec (.flagsWrite p) s = .next (s2.respond p r
           ⟨.ok, [((s.arbiter.flags.set p f).get .a).setWidth 8, ((s.arbiter.flags.set p f).get .b).setWidth 8]⟩))

/-- A selector that names no value (PAGE STORE's source, COUNTER CONTROL's enable, COUNTER READ's clear, the mode of
a CLAIM) is refused with BAD_ARGUMENT and an empty body whoever holds authority; that a CLAIM so refused carries no
authority view is the model's choice (log entry 26). Then, for want of authority, the requests that need it, a
COUNTER READ with clear among them, are refused with CONTESTED and the authority view while authority is contested,
else with NOT_AUTHORITY and the authority state and holder; a COMMIT carries the active generation before them.
Nothing else changes. -/
def Obligations.SelectorsThenAuthorityAreChecked : Prop :=
  (∀ (s : State) (p : Port) (row : RequestRow) (r : Request), s.takes p row r →
    ((row ∈ [RequestRow.pageStore, .counterRead] ∧ 1 < u8At r.body 1)
      ∨ (row ∈ [RequestRow.counterControl, .claimNormal] ∧ 1 < u8At r.body 0)) →
    exec (takeCommand p row) s = .next ((s.dequeue p).respond p r ⟨.badArgument, []⟩))
  ∧ ∀ (s : State) (p : Port) (row : RequestRow) (r : Request), s.takes p row r → ¬ s.holder p →
    (row ∈ [RequestRow.commit, .trimLevel, .trimFrequency, .revive, .reload, .pageErase, .bootSet]
      ∨ (row = .pageStore ∧ u8At r.body 1 ≤ 1) ∨ (row = .counterControl ∧ u8At r.body 0 ≤ 1)
      ∨ (row = .counterRead ∧ u8At r.body 1 = 1)) →
    let lead := if row = .commit then be16 s.ctl.generation else []
    exec (takeCommand p row) s = .next ((s.dequeue p).respond p r
      (if s.arbiter.authority = .contested then ⟨.contested, lead ++ s.authorityView⟩
        else ⟨.notAuthority, lead ++ [byteOf s.arbiter.authority.code,
          optByte (s.arbiter.authority.holder.map portCode)]⟩))

/-- When the lease runs out the holder loses authority; when the contest timer runs out a contest ends; when the
force window runs out the holder and manner stay. The first two write their AUTHORITY event, the third writes none. -/
def Obligations.AuthorityTimersRunOut : Prop :=
  ∀ s : State, s.inReset = false →
    (∀ q m, s.arbiter.authority = .held q m → s.arbiter.lease ≠ none → exec .leaseExpiry s = .next
      (({ s with arbiter := ⟨.open, none, none, none, s.arbiter.flags⟩ } : State).write
        { kind := .authority, port := some q, value1 := some 0, cause := some .lapse }))
    ∧ (s.arbiter.authority = .contested → s.arbiter.contest ≠ none → exec .contestTimerExpiry s = .next
      (({ s with arbiter := ⟨.open, none, none, none, s.arbiter.flags⟩ } : State).write
        { kind := .authority, value1 := some 0, cause := some .contestEnd }))
    ∧ exec .forceWindowExpiry s = .next { s with arbiter := { s.arbiter with forceWindow := none } }

/-! ### Trims and REVIVE -/

/-- An accepted TRIM LEVEL sets the entry's share to share + delta clamped into 0 to 1,024, adds 1 to the generation,
writes TRIM, and starts an allocation run; it answers OK, or OK_CLAMPED where the sum was clamped, with the new
generation and share. -/
def Obligations.TrimLevel : Prop :=
  ∀ (s : State) (p : Port) (r : Request) (i : SlotIx), s.takes p .trimLevel r → s.holder p → s.ctl.state = .ready →
    u8At r.body 0 = i.val → -1024 ≤ s16At r.body 1 → s16At r.body 1 ≤ 1024 →
    let sum : Int := (s.ctl.active.entries[i].share : Int) + s16At r.body 1
    let share : Nat := (clampInt 0 1024 sum).toNat
    let gen : Nat := if s.ctl.generation = 65535 then 1 else s.ctl.generation + 1
    let t := ({ s.dequeue p with ctl := { s.ctl with
        generation := gen
        active := { s.ctl.active with
          entries := s.ctl.active.entries.set i { s.ctl.active.entries[i] with share := share } } } } : State).write
      { kind := .trim, slot := some i, port := some p, tag := some r.tag, value1 := some share,
        value2 := some (s16At r.body 1), cause := some .level }
    exec (.trimLevel p) s = .next (t.startRun.respond p r
      ⟨if sum < 0 ∨ 1024 < sum then .okClamped else .ok, be16 gen ++ be16 share⟩)

/-- An accepted TRIM FREQUENCY moves the entry's and the in-use tx_khz by the delta, gives a tuned placement the new
offset and its own word while its accumulator stays, adds 1 to the generation and writes TRIM; it starts no run. An
enabled entry is accepted when the placement tests pass, a disabled one when tx_khz stays in 0 to 6,000,000. -/
def Obligations.TrimFrequency : Prop :=
  ∀ (s : State) (p : Port) (r : Request) (i : SlotIx), s.takes p .trimFrequency r → s.holder p →
    s.ctl.state = .ready → u8At r.body 0 = i.val → -100 ≤ s8At r.body 1 → s8At r.body 1 ≤ 100 →
    let d : Int := s8At r.body 1
    let tx : Int := (s.ctl.active.entries[i].txKhz : Int) + d
    let gen : Nat := if s.ctl.generation = 65535 then 1 else s.ctl.generation + 1
    let pl := s.ctl.active
    ((pl.entries[i].enabled = true ∧ inBand tx pl.header.txCentre pl.entries[i].bwClass
        ∧ ∀ j : SlotIx, j ≠ i → pl.entries[j].enabled = true →
          apart pl.header.guardKhz tx pl.entries[i].bwClass pl.entries[j].txKhz pl.entries[j].bwClass)
      ∨ (s.ctl.active.entries[i].enabled = false ∧ 0 ≤ tx ∧ tx ≤ 6000000)) →
    let x := s.placements[i]
    let t := ({ s.dequeue p with
        ctl := { s.ctl with
          generation := gen
          active := { s.ctl.active with
            entries := s.ctl.active.entries.set i { s.ctl.active.entries[i] with txKhz := tx.toNat } } }
        slots := s.slots.set i { s.slots[i] with
          inUse := { s.slots[i].inUse with txKhz := ((s.slots[i].inUse.txKhz : Int) + d).toNat } }
        placements := s.placements.set i (if x.tuned then
          { x with offset := x.offset + d, word := tuningWord (x.offset + d) } else x) } : State).write
      { kind := .trim, slot := some i, port := some p, tag := some r.tag, value1 := some tx.toNat,
        value2 := some d, cause := some .frequency }
    exec (.trimFrequency p) s = .next (t.respond p r ⟨.ok, be16 gen ++ be32 tx.toNat⟩)

/-- A holder's trim is refused with BUSY_PLAN outside READY, then with BAD_ARGUMENT for a slot above 15 or a delta
out of range. A TRIM FREQUENCY of an enabled entry is refused with INVALID_PLAN: TX_BAND when the new frequency
leaves the band, else TX_SPACING with the least other enabled entry that it stands too close to; of a disabled one
with BAD_ARGUMENT when it leaves 0 to 6,000,000. Nothing in plan, slots or ring changes. A holder's COMMIT is
refused, in order: NOT_READY in STARTING, BUSY_PLAN in another state than READY, DRAFT_BUSY while the draft is
LOADING, STALE on another expected generation, INVALID_PLAN with the report. Each carries the unchanged generation;
nothing else changes. -/
def Obligations.TrimAndCommitRefusals : Prop :=
  (∀ (s : State) (p : Port) (r : Request), s.holder p →
     (∀ row ∈ [RequestRow.trimLevel, .trimFrequency], s.takes p row r → s.ctl.state ≠ .ready →
       exec (takeCommand p row) s = .next ((s.dequeue p).respond p r
         ⟨.busyPlan, be16 s.ctl.generation ++ [byteOf s.ctl.state.code]⟩))
     ∧ (s.takes p .trimLevel r → s.ctl.state = .ready →
       (15 < u8At r.body 0 ∨ s16At r.body 1 < -1024 ∨ 1024 < s16At r.body 1) →
       exec (.trimLevel p) s = .next ((s.dequeue p).respond p r ⟨.badArgument, []⟩))
     ∧ (s.takes p .trimFrequency r → s.ctl.state = .ready →
       (15 < u8At r.body 0 ∨ s8At r.body 1 < -100 ∨ 100 < s8At r.body 1) →
       exec (.trimFrequency p) s = .next ((s.dequeue p).respond p r ⟨.badArgument, []⟩))
     ∧ ∀ i : SlotIx, s.takes p .trimFrequency r → s.ctl.state = .ready → u8At r.body 0 = i.val →
       -100 ≤ s8At r.body 1 → s8At r.body 1 ≤ 100 →
       let pl := s.ctl.active
       let tx : Int := (pl.entries[i].txKhz : Int) + s8At r.body 1
       let clear : SlotIx → Prop := fun j =>
         apart pl.header.guardKhz tx pl.entries[i].bwClass pl.entries[j].txKhz pl.entries[j].bwClass
       (pl.entries[i].enabled = true → ¬ inBand tx pl.header.txCentre pl.entries[i].bwClass →
         exec (.trimFrequency p) s = .next ((s.dequeue p).respond p r
           ⟨.invalidPlan, be16 s.ctl.generation ++ [2, byteOf i.val, 0xFF]⟩))
       ∧ (∀ j : SlotIx, pl.entries[i].enabled = true → inBand tx pl.header.txCentre pl.entries[i].bwClass →
         j ≠ i → pl.entries[j].enabled = true → ¬ clear j →
         (∀ k : SlotIx, k < j → k ≠ i → pl.entries[k].enabled = true → clear k) →
         exec (.trimFrequency p) s = .next ((s.dequeue p).respond p r
           ⟨.invalidPlan, be16 s.ctl.generation ++ [5, byteOf i.val, byteOf j.val]⟩))
       ∧ (pl.entries[i].enabled = false → tx < 0 ∨ 6000000 < tx →
         exec (.trimFrequency p) s = .next ((s.dequeue p).respond p r ⟨.badArgument, []⟩)))
  ∧ (∀ (s : State) (p : Port) (r : Request), s.takes p .commit r → s.holder p →
       let gen := be16 s.ctl.generation
       (s.ctl.state = .starting →
         exec (.commit p) s = .next ((s.dequeue p).respond p r ⟨.notReady, gen ++ [0]⟩))
       ∧ (s.ctl.state ≠ .starting → s.ctl.state ≠ .ready →
         exec (.commit p) s = .next ((s.dequeue p).respond p r ⟨.busyPlan, gen ++ [byteOf s.ctl.state.code]⟩))
       ∧ (s.ctl.state = .ready → ∀ pg, (s.drafts.get p).loading = some pg →
         exec (.commit p) s = .next ((s.dequeue p).respond p r ⟨.draftBusy, gen ++ [byteOf pg.val]⟩))
       ∧ (s.ctl.state = .ready → (s.drafts.get p).loading = none →
         r.body.length = 2 → u16At r.body 0 ≠ s.ctl.generation →
         exec (.commit p) s = .next ((s.dequeue p).respond p r ⟨.stale, gen⟩))
       ∧ (s.ctl.state = .ready → (s.drafts.get p).loading = none →
         (r.body.length = 2 → u16At r.body 0 = s.ctl.generation) →
         ∀ rep, (s.drafts.get p).plan.report = some rep →
         exec (.commit p) s = .next ((s.dequeue p).respond p r ⟨.invalidPlan, gen ++
           [byteOf rep.kind.code, byteOf rep.slot.val, optByte (rep.second.map Fin.val)]⟩)))

/-- A REVIVE of a FAILED slot, taken from the holder, returns its source to primary, makes it MUTED with attempts 0,
the reacquire timer at reacquire_ms and a grant of 0, starts a run (held: makes one pending), writes SLOT_REVIVED
with the source before it, and answers OK with MUTED. Of a slot in another state it is BAD_STATE, of a slot above 15
BAD_ARGUMENT. That the run's events precede SLOT_REVIVED is the model's choice (log entry 12). -/
def Obligations.Revive : Prop :=
  ∀ (s : State) (p : Port) (r : Request), s.takes p .revive r → s.holder p →
    (15 < u8At r.body 0 → exec (.revive p) s = .next ((s.dequeue p).respond p r ⟨.badArgument, []⟩))
    ∧ ∀ i : SlotIx, u8At r.body 0 = i.val →
    (s.slots[i].state ≠ .failed → exec (.revive p) s = .next ((s.dequeue p).respond p r
      ⟨.badState, [byteOf s.slots[i].state.code]⟩))
    ∧ (s.slots[i].state = .failed →
      let t : State := { s.dequeue p with
        slots := s.slots.set i { s.slots[i] with
          state := .muted, attempts := 0, reacquire := some (s.ctl.active.header.reacquireMs * 160000) }
        extractions := s.extractions.set i (s.extractions[i].select s.slots[i].inUse .primary)
        alloc := { s.alloc with table := s.alloc.table.set i { s.alloc.table[i] with grant := 0, target := none } } }
      exec (.revive p) s = .next ((t.startRun.write
        { kind := .slotRevived, slot := some i, port := some p, tag := some r.tag,
          value1 := some s.extractions[i].source.code, cause := some .request }).respond p r ⟨.ok, [5]⟩))

/-! ### Drafts -/

/-- A request that writes the own draft is DRAFT_BUSY while the draft is LOADING, whatever its arguments, and names
the page being loaded. DRAFT COPY puts the active plan into the own draft and answers its generation; DRAFT CLEAR
puts the default plan into it. -/
def Obligations.DraftCopyClearAndBusy : Prop :=
  (∀ (s : State) (p : Port) (row : RequestRow) (r : Request) (pg : PageIx),
     row ∈ [RequestRow.draftCopy, .draftPutEntry, .draftPutHeader, .draftClear] → s.takes p row r →
     (s.drafts.get p).loading = some pg →
     exec (takeCommand p row) s = .next ((s.dequeue p).respond p r ⟨.draftBusy, [byteOf pg.val]⟩))
  ∧ (∀ (s : State) (p : Port) (r : Request), (s.drafts.get p).loading = none →
       (s.takes p .draftCopy r → exec (.draftCopy p) s = .next
         (({ s.dequeue p with drafts := s.drafts.set p ⟨s.ctl.active, none⟩ } : State).respond p r
           ⟨.ok, be16 s.ctl.generation⟩))
       ∧ (s.takes p .draftClear r → exec (.draftClear p) s = .next
         (({ s.dequeue p with drafts := s.drafts.set p ⟨Plan.default, none⟩ } : State).respond p r ⟨.ok, []⟩)))

/-- DRAFT PUT ENTRY refuses, in order, a presence byte with bits 3 to 7 set (field 1), an index above 15 (field 0),
rx_khz, tx_khz or a present alt_rx_khz above 6,000,000 (2, 3, 4), a bw_class above 3 (5) and a bad present label
(10). Otherwise it stores the entry with priority, share, threshold and limit clamped, and answers OK or OK_CLAMPED
with the entry. -/
def Obligations.DraftPutEntry : Prop :=
  ∀ (s : State) (p : Port) (r : Request), s.takes p .draftPutEntry r → (s.drafts.get p).loading = none →
    let b := r.body
    let checks : List (Bool × Nat) :=
      [(8 ≤ u8At b 1, 1), (15 < u8At b 0, 0), (6000000 < u32At b 2, 2), (6000000 < u32At b 6, 3),
        ((u8At b 1).testBit 1 && 6000000 < u32At b 10, 4), (3 < u8At b 14, 5),
        ((u8At b 1).testBit 2 && (12 < u8At b 21
          || ((b.drop 22).take (u8At b 21)).any fun c => c.toNat < 32 || 126 < c.toNat), 10)]
    (∀ f, checks.find? Prod.fst = some f →
      exec (.draftPutEntry p) s = .next ((s.dequeue p).respond p r ⟨.badArgument, [byteOf f.2]⟩))
    ∧ (checks.find? Prod.fst = none → ∀ i : SlotIx, u8At b 0 = i.val →
      let e : Entry :=
        { enabled := (u8At b 1).testBit 0, rxKhz := u32At b 2, txKhz := u32At b 6
          altRxKhz := if (u8At b 1).testBit 1 then some (u32At b 10) else none
          bwClass := Fin.ofNat 4 (u8At b 14), priority := Fin.ofNat 4 (min 3 (u8At b 15))
          share := min 1024 (u16At b 16), threshold := max (-200) (min (-20) (s16At b 18))
          reacquireLimit := min 15 (u8At b 20)
          label := if (u8At b 1).testBit 2 then some ((b.drop 22).take (u8At b 21)) else none }
      let clamped : Bool := e.priority.val ≠ u8At b 15 || e.share ≠ u16At b 16 || e.threshold ≠ s16At b 18
        || e.reacquireLimit ≠ u8At b 20
      let d := s.drafts.get p
      exec (.draftPutEntry p) s = .next
        (({ s.dequeue p with
          drafts := s.drafts.set p ⟨{ d.plan with entries := d.plan.entries.set i e }, none⟩ } : State).respond p r
          ⟨if clamped then .okClamped else .ok, e.bytes⟩))

/-- DRAFT PUT HEADER refuses, in order, a presence byte with bits 1 to 7 set (field 11), a centre outside 100,000 to
5,900,000 (12, 13) and a bad present label (11). Otherwise it stores the header with seven fields clamped, keeps the
entries, and answers OK or OK_CLAMPED with the header. -/
def Obligations.DraftPutHeader : Prop :=
  ∀ (s : State) (p : Port) (r : Request), s.takes p .draftPutHeader r → (s.drafts.get p).loading = none →
    let b := r.body
    let checks : List (Bool × Nat) :=
      [(2 ≤ u8At b 0, 11), (u32At b 1 < 100000 || 5900000 < u32At b 1, 12),
        (u32At b 5 < 100000 || 5900000 < u32At b 5, 13),
        ((u8At b 0).testBit 0 && (12 < u8At b 22
          || ((b.drop 23).take (u8At b 22)).any fun c => c.toNat < 32 || 126 < c.toNat), 11)]
    (∀ f, checks.find? Prod.fst = some f →
      exec (.draftPutHeader p) s = .next ((s.dequeue p).respond p r ⟨.badArgument, [byteOf f.2]⟩))
    ∧ (checks.find? Prod.fst = none →
      let h : Header :=
        { rxCentre := u32At b 1, txCentre := u32At b 5, guardKhz := min 2000 (u16At b 9)
          ceiling := max (-40) (min 0 (s8At b 11)), rampMs := max 10 (min 2000 (u16At b 12))
          holdMs := min 10000 (u16At b 14), reacquireMs := max 100 (min 60000 (u16At b 16))
          levelMs := max 10 (min 1000 (u16At b 18))
          leaseMs := if u16At b 20 = 0 then 0 else max 500 (min 60000 (u16At b 20))
          label := if (u8At b 0).testBit 0 then some ((b.drop 23).take (u8At b 22)) else none }
      let clamped : Bool := h.guardKhz ≠ u16At b 9 || h.ceiling ≠ s8At b 11 || h.rampMs ≠ u16At b 12
        || h.holdMs ≠ u16At b 14 || h.reacquireMs ≠ u16At b 16 || h.levelMs ≠ u16At b 18 || h.leaseMs ≠ u16At b 20
      let d := s.drafts.get p
      exec (.draftPutHeader p) s = .next
        (({ s.dequeue p with drafts := s.drafts.set p ⟨{ d.plan with header := h }, none⟩ } : State).respond p r
          ⟨if clamped then .okClamped else .ok, h.bytes⟩))

/-! ### COMMIT -/

/-- A COMMIT that passes its five checks makes the own draft the active plan, adds 1 to the generation, writes
COMMIT_BEGUN and answers the new generation with the sizes of the drain and cut sets. A slot is drained when its copy
and the new entry differ in enabled, rx, tx, alt or class, or a centre changes under an enabled copy; a drained slot
on the air is cut when the new guard sets it too close to a slot that stays enabled or to another drained slot on the
air. The others take their new threshold and adjust their attempts to a changed limit. When a drained slot must fall,
the Controller is DRAINING and awaits those: cut slots are OFF, a drained RISING, ON or HOLD slot falls from where it
stands, a FALLING one falls on, MUTED, DEFERRED and FAILED are OFF. Else the raise is made in the same action: each
drained slot adopts its entry and is RISING, DEFERRED or OFF, the raise run gives every record of the grant table,
the slots that stayed act on their grants, the Controller is READY, and COMMIT_DONE with its counts is the last
event. After COMMIT_BEGUN each FAILED slot that a limit of 0 revives writes SLOT_REVIVED of cause LIMIT with its
source before it, in ascending index (log entry 12); then come the events of the raise run's grants, in ascending
index. Drafts, pages, authority (but for the lease) and INTERLOCK's effects stay. -/
def Obligations.CommitInstalls : Prop :=
  ∀ (s : State) (p : Port) (r : Request), s.takes p .commit r → s.holder p → s.ctl.state = .ready →
    (s.drafts.get p).loading = none → (r.body.length = 2 → u16At r.body 0 = s.ctl.generation) →
    (s.drafts.get p).plan.valid = true →
    let pl := (s.drafts.get p).plan
    let gen : Nat := if s.ctl.generation = 65535 then 1 else s.ctl.generation + 1
    let drained : Nat := (allSlots.filter fun i => (s.drainSetFor pl)[i]).length
    let cut : Nat := (allSlots.filter fun i => (s.cutSetFor pl)[i]).length
    ∃ t : State, exec (.commit p) s = .next (t.respond p r
        ⟨.ok, be16 gen ++ [byteOf t.ctl.state.code, byteOf drained, byteOf cut]⟩)
      ∧ s.Installs t pl (.commit p r.tag)
        [{ kind := .commitBegun, port := some p, tag := some r.tag, value1 := some drained, value2 := some cut }]
      ∧ t.ctl.active = pl ∧ t.ctl.generation = gen ∧ t.ctl.state = (if s.MustFall pl then .draining else .ready)
      ∧ t.memory = s.memory ∧ t.ports = (s.dequeue p).ports

/-! ### Plan Memory -/

/-- With the engine IDLE, an accepted PAGE STORE makes the page BLANK and begins the ERASE phase with a snapshot of
the own draft or the active plan; PAGE LOAD of a VALID page makes the own draft LOADING; PAGE ERASE makes the page
BLANK. With the engine busy each is BUSY_MEMORY; a BLANK or CORRUPT page is not loaded. A page above 15 is
BAD_ARGUMENT, before the engine is looked at. -/
def Obligations.PageRequests : Prop :=
  (∀ (s : State) (p : Port) (row : RequestRow) (r : Request), row ∈ [RequestRow.pageStore, .pageLoad, .pageErase] →
    s.takes p row r → (row = .pageStore → u8At r.body 1 ≤ 1) → (row ≠ .pageLoad → s.holder p) → 15 < u8At r.body 0 →
    exec (takeCommand p row) s = .next ((s.dequeue p).respond p r ⟨.badArgument, []⟩))
  ∧ ∀ (s : State) (p : Port) (r : Request) (pg : PageIx), u8At r.body 0 = pg.val →
    let blanked := s.memory.pages.set pg { s.memory.pages[pg] with state := .blank, image := none }
    (s.takes p .pageStore r → u8At r.body 1 ≤ 1 → s.holder p → s.memory.op = none →
      let snap := if u8At r.body 1 = 0 then (s.drafts.get p).plan else s.ctl.active
      exec (.pageStore p) s = .next (({ s.dequeue p with
          memory := { s.memory with
            pages := blanked, op := some (.store pg .erase snap p r.tag), opElapsed := 0 } } : State).respond p r
        ⟨.ok, byteOf pg.val :: be32 s.memory.pages[pg].storeCount⟩))
    ∧ (s.takes p .pageErase r → s.holder p → s.memory.op = none →
      exec (.pageErase p) s = .next (({ s.dequeue p with
          memory := { s.memory with
            pages := blanked, op := some (.erase pg p r.tag), opElapsed := 0 } } : State).respond p r ⟨.ok, []⟩))
    ∧ (s.takes p .pageLoad r → s.memory.op = none →
      (s.memory.pages[pg].state = .valid → exec (.pageLoad p) s = .next (({ s.dequeue p with
          memory := { s.memory with op := some (.load pg p r.tag), opElapsed := 0 }
          drafts := s.drafts.set p { s.drafts.get p with loading := some pg } } : State).respond p r ⟨.ok, []⟩))
      ∧ (s.memory.pages[pg].state = .blank →
        exec (.pageLoad p) s = .next ((s.dequeue p).respond p r ⟨.pageBlank, [byteOf pg.val]⟩))
      ∧ (s.memory.pages[pg].state = .corrupt →
        exec (.pageLoad p) s = .next ((s.dequeue p).respond p r ⟨.pageCorrupt, [byteOf pg.val]⟩)))
    ∧ (∀ row ∈ [RequestRow.pageStore, .pageLoad, .pageErase], s.takes p row r →
      (row = .pageStore → u8At r.body 1 ≤ 1) → (row ≠ .pageLoad → s.holder p) → s.memory.op ≠ none →
      exec (takeCommand p row) s = .next ((s.dequeue p).respond p r
        ⟨.busyMemory, [byteOf s.memory.engineCode, byteOf s.memory.phaseCode]⟩))

/-- An accepted BOOT SET removes the boot record and begins the boot write of its pages. A fallback equal to the
primary, or a page above 15, is BAD_ARGUMENT; then, with the engine busy, it is BUSY_MEMORY; then the first named
page that is not VALID, the primary first, is PAGE_NOT_VALID. A holder's RELOAD in READY with the engine IDLE enters
LOADING, holds the Allocator, begins the read of the boot pages and answers the unchanged generation. Outside READY
it is BUSY_PLAN, then with the engine busy BUSY_MEMORY. -/
def Obligations.BootSetAndReload : Prop :=
  (∀ (s : State) (p : Port) (r : Request), s.takes p .bootSet r → s.holder p →
     ((15 < u8At r.body 0 ∨ (r.body.length = 2 ∧ (15 < u8At r.body 1 ∨ u8At r.body 1 = u8At r.body 0))) →
       exec (.bootSet p) s = .next ((s.dequeue p).respond p r ⟨.badArgument, []⟩))
     ∧ ∀ (pr : PageIx) (fb : Option PageIx), u8At r.body 0 = pr.val →
       ((r.body.length = 1 ∧ fb = none) ∨ (r.body.length = 2 ∧ fb.map Fin.val = some (u8At r.body 1) ∧ fb ≠ some pr)) →
       (s.memory.op ≠ none → exec (.bootSet p) s = .next ((s.dequeue p).respond p r
         ⟨.busyMemory, [byteOf s.memory.engineCode, byteOf s.memory.phaseCode]⟩))
       ∧ (s.memory.op = none → s.memory.pages[pr].state = .valid → (∀ f ∈ fb, s.memory.pages[f].state = .valid) →
         exec (.bootSet p) s = .next (({ s.dequeue p with
           memory := { s.memory with
             boot := none, op := some (.bootWrite pr fb p r.tag), opElapsed := 0 } } : State).respond p r ⟨.ok, []⟩))
       ∧ (s.memory.op = none → s.memory.pages[pr].state ≠ .valid → exec (.bootSet p) s = .next ((s.dequeue p).respond p r
         ⟨.pageNotValid, [byteOf pr.val, byteOf s.memory.pages[pr].state.code]⟩))
       ∧ (∀ f ∈ fb, s.memory.op = none → s.memory.pages[pr].state = .valid → s.memory.pages[f].state ≠ .valid →
         exec (.bootSet p) s = .next ((s.dequeue p).respond p r
           ⟨.pageNotValid, [byteOf f.val, byteOf s.memory.pages[f].state.code]⟩)))
  ∧ (∀ (s : State) (p : Port) (r : Request), s.takes p .reload r → s.holder p →
       (s.ctl.state = .ready → s.memory.op = none →
         exec (.reload p) s = .next (({ s.dequeue p with
             ctl := { s.ctl with state := .loading, change := some (.reload p r.tag) }
             alloc := { s.alloc with held := true }
             memory := { s.memory with op := some (.reloadRead .record p r.tag), opElapsed := 0 } } : State).respond p r
           ⟨.ok, be16 s.ctl.generation⟩))
       ∧ (s.ctl.state ≠ .ready → exec (.reload p) s = .next ((s.dequeue p).respond p r
         ⟨.busyPlan, be16 s.ctl.generation ++ [byteOf s.ctl.state.code]⟩))
       ∧ (s.ctl.state = .ready → s.memory.op ≠ none → exec (.reload p) s = .next ((s.dequeue p).respond p r
         ⟨.busyMemory, [byteOf s.memory.engineCode, byteOf s.memory.phaseCode]⟩)))

/-- The phases of a store: at the end of ERASE the store count rises by 1 up to 16,777,215 and the page is CORRUPT
with the snapshot's image; the end of PROGRAM begins VERIFY; a verify that reads the cells back intact and finds the
snapshot with its check makes the page VALID; one that does not, or that finds no image, another record or another
check, leaves it CORRUPT; then the engine is IDLE and MEMORY_DONE is written. The end of a PAGE ERASE writes
MEMORY_DONE too. That the whole image is there from the start of the programming is the model's choice (log entry
18). -/
def Obligations.StoreAndErasePhases : Prop :=
  ∀ (s : State) (pg : PageIx) (snap : Plan) (p : Port) (tag : Byte), s.inReset = false →
    let x := s.memory.pages[pg]
    let done (st : PageState) (op : Int) (cause : Cause) : State :=
      ({ s with memory := { s.memory with
          pages := s.memory.pages.set pg { x with state := st }, op := none, opElapsed := 0 } } : State).write
        { kind := .memoryDone, port := some p, tag := some tag, value1 := some op, value2 := some pg.val,
          cause := some cause }
    (s.memory.op = some (.store pg .erase snap p tag) → exec .storeEraseDone s = .next { s with
      memory := { s.memory with
        op := some (.store pg .program snap p tag), opElapsed := 0
        pages := s.memory.pages.set pg
          ⟨.corrupt, some ⟨snap, crc32 snap.imageBytes⟩, min 16777215 (x.storeCount + 1)⟩ } })
    ∧ (s.memory.op = some (.store pg .program snap p tag) → exec .storeProgramDone s = .next { s with
      memory := { s.memory with op := some (.store pg .verify snap p tag), opElapsed := 0 } })
    ∧ (s.memory.op = some (.store pg .verify snap p tag) →
      (x.image = some ⟨snap, crc32 snap.imageBytes⟩ →
        exec (.storeVerifyDone true) s = .next (done .valid 0 .ok))
      ∧ ∀ intact, intact = false ∨ x.image ≠ some ⟨snap, crc32 snap.imageBytes⟩ →
        exec (.storeVerifyDone intact) s = .next (done .corrupt 0 .storeFailed))
    ∧ (s.memory.op = some (.erase pg p tag) → exec .pageEraseDone s = .next (done x.state 2 .ok))

/-- The end of a PAGE LOAD's read with a matching check replaces the draft's content and makes it FREE; without one,
the cells not reading back intact, the stored check not being the record's, or no image being there, the page becomes
CORRUPT and the draft keeps its content and is FREE. The end of a boot write that matches gives the boot record its
pages; any other leaves no boot record changed. Each writes MEMORY_DONE, and the engine is IDLE. -/
def Obligations.LoadAndBootWriteEnd : Prop :=
  ∀ (s : State) (pg : PageIx) (fb : Option PageIx) (p : Port) (tag : Byte), s.inReset = false →
    let x := s.memory.pages[pg]
    let idle : Memory := { s.memory with op := none, opElapsed := 0 }
    let done (op : Int) (cause : Cause) (t : State) : State := t.write
      { kind := .memoryDone, port := some p, tag := some tag, value1 := some op, value2 := some pg.val,
        cause := some cause }
    (s.memory.op = some (.load pg p tag) →
      (∀ pl, x.image = some ⟨pl, crc32 pl.imageBytes⟩ → exec (.pageLoadReadDone true) s = .next (done 1 .ok
        { s with memory := idle, drafts := s.drafts.set p ⟨pl, none⟩ }))
      ∧ ∀ intact, (intact = false ∨ ∀ pl, x.image ≠ some ⟨pl, crc32 pl.imageBytes⟩) →
        exec (.pageLoadReadDone intact) s = .next (done 1 .pageCorrupt { s with
        memory := { idle with pages := s.memory.pages.set pg { x with state := .corrupt } }
        drafts := s.drafts.set p { s.drafts.get p with loading := none } }))
    ∧ (s.memory.op = some (.bootWrite pg fb p tag) →
      exec (.bootWriteDone true) s = .next (done 3 .ok { s with
        memory := { idle with boot := some ⟨pg, fb, crc16 [byteOf pg.val, optByte (fb.map Fin.val)]⟩ } })
      ∧ exec (.bootWriteDone false) s = .next (done 3 .bootFailed { s with memory := idle }))

/-- The end of the start-up read, with the Allocator held and every slot OFF as after a reset. The boot record
decides what is tried: the primary, and the fallback if the primary is set aside as BLANK, CORRUPT or INVALID; a page
found with a check not matching becomes CORRUPT, every other page and the boot record stay. Where both NOT_NAMED and
NOT_TRIED apply the model keeps NOT_NAMED (log entry 25). With a usable page its record becomes the active plan with
generation 1, every slot adopts its entry, and a raise run makes an enabled one RISING on a grant above 0 or DEFERRED
on 0, with SLOT_DEFERRED of cause RAISE in ascending index (log entry 12); the Controller is READY with the Allocator
free. Without one the default plan and generation 0 stay. The outcome is kept, the engine is IDLE, and STARTED is the
last event, with the page used, the cause of the reset, the boot page's place and the slot of the first report. -/
def Obligations.StartUpReadEnd : Prop :=
  ∀ (s : State) (item : ReadItem) (x y : Bool), s.inReset = false → s.memory.op = some (.startUpRead item) →
    s.alloc.held = true → (∀ i : SlotIx, s.slots[i].state = .off) →
    ∃ (o : BootOutcome) (record : Option Plan) (t : State), exec (.startUpReadEnd x y) s = .next t
      ∧ s.memory.Chooses .startUp (item.primaryIntact x) y o record
      ∧ s.memory.ReadEnds t.memory o
      ∧ t.ctl.state = .ready ∧ t.ctl.change = none ∧ t.alloc.held = false
      ∧ t.alloc.pendingRun = false
      ∧ (let started : Notice :=
          { kind := .started
            slot := match o.primaryReport with
              | some rep => some rep.slot
              | none => o.fallbackReport.map fun rep => rep.slot
            value1 := o.used.map fun g => (g.val : Int)
            value2 := some (if s.resetCause = .powerOn then 0 else 1)
            cause := some (if o.primary = .used then .primary else if o.fallback = .used then .fallback else .none) }
        (∀ pl, record = some pl →
          let u : State := { s with ctl := { s.ctl with active := pl } }
          t.ctl.active = pl ∧ t.ctl.generation = 1 ∧ (∀ i : SlotIx, u.RaisesSlot t i)
          ∧ t.ring = s.ring.after 1 (allSlots.filterMap (u.grantNotice t true) ++ [started]))
        ∧ (record = none →
          t.ctl.active = s.ctl.active ∧ t.ctl.generation = s.ctl.generation ∧ t.slots = s.slots
          ∧ t.extractions = s.extractions ∧ t.placements = s.placements
          ∧ (∀ i : SlotIx, t.alloc.table[i] = (if s.alloc.pendingRun then ⟨0, none, s.ctl.active.entries[i].share⟩
            else s.alloc.table[i]))
          ∧ t.ring = s.ring.write s.ctl.generation started))
      ∧ t.drafts = s.drafts ∧ t.arbiter = s.arbiter ∧ t.combiner = s.combiner ∧ t.ports = s.ports
      ∧ t.interlock = s.interlock

/-- The end of a RELOAD read, which chooses among the boot pages and leaves them as the start-up read does (log entry
25). A usable page is installed: it becomes the active plan with the next generation, and its drained slots are cut,
fall or go OFF as at a commit, with the Controller DRAINING and awaiting those that fall; where none must fall the
raise is made in the same action, the drained slots, the grants and the slots that stayed being as RAISING leaves
them, and RELOAD_DONE with its counts is the last event. No COMMIT_BEGUN is written; a FAILED slot that a limit of 0
revives writes SLOT_REVIVED of cause LIMIT (log entry 12). Without a usable page the Controller is READY, the plan
and generation stay, a held Allocator is released and, if a run was pending, makes it, its slots acting on their
grants and its events written as at the start of any run, and RELOAD_FAILED is the last event, with both results, its
cause and the slot of the first report. -/
def Obligations.ReloadReadEnd : Prop :=
  ∀ (s : State) (item : ReadItem) (x y : Bool) (p : Port) (tag : Byte), s.inReset = false →
    s.memory.op = some (.reloadRead item p tag) →
    ∃ (o : BootOutcome) (record : Option Plan) (t : State), exec (.reloadReadEnd x y) s = .next t
      ∧ s.memory.Chooses .reload (item.primaryIntact x) y o record
      ∧ s.memory.ReadEnds t.memory o
      ∧ t.ports = s.ports
      ∧ (∀ pl, record = some pl →
        s.Installs t pl (.reload p tag) [] ∧ t.ctl.active = pl
        ∧ t.ctl.generation = (if s.ctl.generation = 65535 then 1 else s.ctl.generation + 1)
        ∧ t.ctl.state = (if s.MustFall pl then .draining else .ready))
      ∧ (record = none →
        let failed : Notice :=
          { kind := .reloadFailed, port := some p, tag := some tag
            slot := match o.primaryReport with
              | some rep => some rep.slot
              | none => o.fallbackReport.map fun rep => rep.slot
            value1 := some (o.primary.code : Nat), value2 := some (o.fallback.code : Nat)
            cause := some (if o.record = none then .noRecord else .noUsablePage) }
        let released : State := { s with
          memory := t.memory
          ctl := { s.ctl with state := .ready, drainSet := Vector.replicate 16 false
                              awaiting := Vector.replicate 16 false, incoming := none, change := none }
          alloc := if s.alloc.held then { s.alloc with held := false, pendingRun := false } else s.alloc }
        t = (if s.alloc.held ∧ s.alloc.pendingRun then released.startRun else released).write failed
        ∧ t.ctl.active = s.ctl.active ∧ t.ctl.generation = s.ctl.generation)

/-! ### Counters and the ring -/

/-- COUNTER CONTROL replaces enable and mask and keeps every counter. COUNTER READ answers the target's counters, the
enable and the mask, clears the target's counters when asked, and refuses a target of 0x11 or above. An enable or a
clear above 1 is BAD_ARGUMENT whoever holds authority. That a counter cleared is told by 1, and one not cleared by 0,
is the model's reading (log entry 27). EVENT READ takes the own unread entries, oldest first, up to the maximum,
moves the own read position past them, clears the own lost count, and answers the lost count, the number taken, what
is left unread and the records of 20 bytes. A maximum of 0 or above 8 is BAD_ARGUMENT. -/
def Obligations.CounterAndEventRequests : Prop :=
  (∀ (s : State) (p : Port) (r : Request),
     (s.takes p .counterControl r → 1 < u8At r.body 0 →
       exec (.counterControl p) s = .next ((s.dequeue p).respond p r ⟨.badArgument, []⟩))
     ∧ (s.takes p .counterRead r → 1 < u8At r.body 1 →
       exec (.counterRead p) s = .next ((s.dequeue p).respond p r ⟨.badArgument, []⟩))
     ∧ (s.takes p .counterControl r → s.holder p → u8At r.body 0 ≤ 1 → exec (.counterControl p) s = .next
       (({ s.dequeue p with counters := { s.counters with
           enable := u8At r.body 0 = 1, mask := r.body.getD 1 0 } } : State).respond p r
         ⟨.ok, [if u8At r.body 0 = 1 then 1 else 0, r.body.getD 1 0]⟩))
     ∧ (s.takes p .counterRead r → u8At r.body 1 ≤ 1 → (u8At r.body 1 = 1 → s.holder p) →
       let clear : Bool := u8At r.body 1 = 1
       let lead := [byteOf (u8At r.body 0), if s.counters.enable then 1 else 0, s.counters.mask, if clear then 1 else 0]
       (∀ i : SlotIx, u8At r.body 0 = i.val → let c := s.counters.slots[i]
         exec (.counterRead p) s = .next (({ s.dequeue p with
           counters := if clear then
             { s.counters with slots := s.counters.slots.set i ⟨0, 0, 0, 0, 0, 0⟩ } else s.counters } : State).respond p r
           ⟨.ok, lead ++ be16 c.dips ++ be16 c.losses ++ be16 c.switches ++ be16 c.attempts ++ be16 c.shortfall
             ++ be16 c.rampAborts⟩))
       ∧ (u8At r.body 0 = 16 → exec (.counterRead p) s = .next (({ s.dequeue p with
           counters := if clear then
             { s.counters with overload := 0, clip := 0 } else s.counters } : State).respond p r
           ⟨.ok, lead ++ be16 s.counters.overload ++ be16 s.counters.clip⟩))
       ∧ (16 < u8At r.body 0 → exec (.counterRead p) s = .next ((s.dequeue p).respond p r ⟨.badArgument, []⟩))))
  ∧ (∀ (s : State) (p : Port) (r : Request), s.takes p .eventRead r →
       (u8At r.body 0 = 0 ∨ 8 < u8At r.body 0 →
         exec (.eventRead p) s = .next ((s.dequeue p).respond p r ⟨.badArgument, []⟩))
       ∧ (1 ≤ u8At r.body 0 → u8At r.body 0 ≤ 8 → s.ring.WellFormed →
         let n := min (u8At r.body 0) (s.ring.unread.get p)
         let es := (s.ring.entries.drop (s.ring.entries.length - s.ring.unread.get p)).take n
         ∃ bs : List Byte, bs.length = 20 * n ∧ bs = es.flatMap Event.bytes
           ∧ exec (.eventRead p) s = .next (({ s.dequeue p with
             ring := { s.ring with
               unread := s.ring.unread.set p (s.ring.unread.get p - n), lost := s.ring.lost.set p 0 } } : State).respond p r
             ⟨.ok, [byteOf (s.ring.lost.get p), byteOf n, byteOf (s.ring.unread.get p - n)] ++ bs⟩)))

/-- An event takes the next number, 4,294,967,295 being followed by 1, and the active generation, and becomes the
newest entry. A ring of 64 loses its oldest: a port that had not read it loses one, its lost count rising up to 255
and its unread count staying; every other port's unread count rises by 1. -/
def Obligations.RingTakesAnEvent : Prop :=
  ∀ (s : State) (n : Notice), s.ring.WellFormed →
    let t := s.write n
    let seq : Nat := if s.ring.sequence = 4294967295 then 1 else s.ring.sequence + 1
    t.ring.sequence = seq
    ∧ t.ring.entries = s.ring.entries.drop (s.ring.entries.length - 63) ++ [⟨seq, s.ctl.generation, n⟩]
    ∧ (∀ p : Port,
      (s.ring.unread.get p = 64 → t.ring.unread.get p = 64 ∧ t.ring.lost.get p = min 255 (s.ring.lost.get p + 1))
      ∧ (s.ring.unread.get p < 64 →
        t.ring.unread.get p = s.ring.unread.get p + 1 ∧ t.ring.lost.get p = s.ring.lost.get p))
    ∧ t = { s with ring := t.ring }

/-- A slot's counter counts while the enable is on and its kind is not masked: it adds 1, or wraps from 65,535 to 0,
and writes COUNTER_HIGH on the step from 49,151 to 49,152 and on no other, with its slot and its kind, 0 to 5.
Otherwise nothing changes. The composite's two, overload intervals (kind 6) and clip intervals (kind 7), count in the
same way, their notice without a slot. -/
def Obligations.CounterCounts : Prop :=
  (∀ (s : State) (k : SlotKind) (i : SlotIx),
    let n := s.counters.slots[i].get k
    let t : State := { s with counters := { s.counters with
      slots := s.counters.slots.set i (s.counters.slots[i].put k (if n = 65535 then 0 else n + 1)) } }
    (s.counters.enable = true → s.counters.mask.getLsbD k.code = false →
      s.count k i = if n = 49151 then t.write { kind := .counterHigh, slot := some i, value1 := some k.code } else t)
    ∧ (s.counters.enable = false ∨ s.counters.mask.getLsbD k.code = true → s.count k i = s))
  ∧ (∀ s : State,
    let hot : State := { s with counters := { s.counters with
      overload := if s.counters.overload = 65535 then 0 else s.counters.overload + 1 } }
    let clip : State := { s with counters := { s.counters with
      clip := if s.counters.clip = 65535 then 0 else s.counters.clip + 1 } }
    (s.counters.enable = true → s.counters.mask.getLsbD 6 = false → s.countOverload =
      if s.counters.overload = 49151 then hot.write { kind := .counterHigh, value1 := some 6 } else hot)
    ∧ (s.counters.enable = false ∨ s.counters.mask.getLsbD 6 = true → s.countOverload = s)
    ∧ (s.counters.enable = true → s.counters.mask.getLsbD 7 = false → s.countClip =
      if s.counters.clip = 49151 then clip.write { kind := .counterHigh, value1 := some 7 } else clip)
    ∧ (s.counters.enable = false ∨ s.counters.mask.getLsbD 7 = true → s.countClip = s))
  ∧ [SlotKind.dips, .losses, .switches, .attempts, .shortfall, .rampAborts].map SlotKind.code = List.range 6
  ∧ ∀ (c : SlotCounters) (k : SlotKind) (n : Nat),
    [SlotKind.dips, .losses, .switches, .attempts, .shortfall, .rampAborts].map c.get
      = [c.dips, c.losses, c.switches, c.attempts, c.shortfall, c.rampAborts]
    ∧ (c.put k n).get k = n ∧ ∀ j, j ≠ k → (c.put k n).get j = c.get j

/-! ### The level interval and the slots -/

/-- A level interval expiry measures every tuned extraction that has settled samples and the composite, clears those
accumulations and the clip record, restarts the interval, and then takes its actions one after another: every slot
takes its measurement, labelled with its source, the combiner judges the interval, and the hold and reacquire timers
that the order names expire as their commands do. The order names no action twice in effect: its actions come first,
as it gives them, then those of the sixteen slots and the combiner that it does not name, in ascending index with the
combiner last (the model's choice, log entry 8). An extraction without settled samples keeps its last level and has
no measurement. The samples are those that the sample periods have counted; the expiry itself takes none (log entry
9). Plans, drafts, pages, ports, authority, the bus and the composite state stay. -/
def Obligations.LevelIntervalMeasures : Prop :=
  (∀ (s : State) (order : List Turn), s.inReset = false →
    let heard (i : SlotIx) : Prop := s.extractions[i].tuned = true ∧ 0 < s.extractions[i].accum.count
    let measured : State := { s with
      intervalElapsed := 0
      combiner := { s.combiner with lastLevel := accumLevel s.combiner.accum, accum := .empty }
      extractions := Vector.ofFn fun i => if s.extractions[i].tuned = true ∧ 0 < s.extractions[i].accum.count then
          { s.extractions[i] with lastLevel := accumLevel s.extractions[i].accum, accum := .empty }
        else s.extractions[i] }
    ∃ ms : PerSlot (Option (Int × Source)),
      (∀ i : SlotIx, (heard i → ms[i] = some (accumLevel s.extractions[i].accum, s.extractions[i].source))
        ∧ (¬ heard i → ms[i] = none))
      ∧ ∃ t : State, exec (.levelIntervalExpiry order) s = .next t
        ∧ t = (turnsOf order).foldl (State.turn ms) measured
        ∧ t.intervalElapsed = 0
        ∧ t.combiner = { s.combiner with lastLevel := accumLevel s.combiner.accum, accum := .empty, clip := false }
        ∧ (∀ i : SlotIx,
          (heard i → t.extractions[i].lastLevel = accumLevel s.extractions[i].accum ∧ t.extractions[i].accum = .empty)
          ∧ (¬ heard i → t.extractions[i].lastLevel = s.extractions[i].lastLevel))
        ∧ t.ctl = s.ctl ∧ t.drafts = s.drafts ∧ t.memory = s.memory ∧ t.ports = s.ports ∧ t.arbiter = s.arbiter
        ∧ t.placements = s.placements ∧ t.rxTaken = s.rxTaken ∧ t.sampleClock = s.sampleClock
        ∧ t.interlock = s.interlock ∧ t.resetCause = s.resetCause ∧ t.pending = s.pending)
  ∧ (∀ (ms : PerSlot (Option (Int × Source))) (u : State) (i : SlotIx),
    State.turn ms u (.judge i) = u.takeMeasurement i ms[i] ∧ u.takeMeasurement i none = u
    ∧ State.turn ms u .combiner = u.judgeInterval
    ∧ (u.inReset = false → exec (.holdTimerExpiry i) u = .next (State.turn ms u (.holdOut i))
      ∧ exec (.reacquireTimerExpiry i) u = .next (State.turn ms u (.reacquireOut i))))
  ∧ ∀ order : List Turn, (turnsOf order).Nodup
    ∧ (∀ a : Turn, a ∈ turnsOf order ↔ a ∈ order ∨ a = .combiner ∨ ∃ i, a = .judge i)
    ∧ ∃ rest : List Turn, turnsOf order = order.eraseDups ++ rest
      ∧ rest.Sublist ((allSlots.map Turn.judge) ++ [.combiner])

/-- What a slot does with a measurement by its state: one labelled with another source is set aside; ON and absent
goes to HOLD with a fresh hold timer, or at hold_ms 0 to MUTED with cause ABSENT; HOLD and present goes back to ON
and counts a dip; RISING and absent counts a ramp abort and goes to MUTED with cause RAMP_ABORT. A slot that so goes
to MUTED has no ramp, counts a loss and writes SLOT_LOST with its last input level and threshold; one with an
alternate flips its source, counts a switch and writes SOURCE_SWITCHED; and its reacquire timer starts. At threshold
+ 6 a MUTED slot rises on a grant above 0, with gain and ramp end gain T − its last input level, a fresh ramp and
SLOT_RECOVERED of cause CARRIER, and on 0 is DEFERRED with SLOT_DEFERRED of cause GRANT; in every other case but ON
and present, the level loop's, nothing changes. -/
def Obligations.CarrierDecisions : Prop :=
  ∀ (s : State) (i : SlotIx) (level : Int) (src : Source),
    let x := s.slots[i]
    let act := s.takeMeasurement i (some (level, src))
    let absent : Prop := level < x.inUse.threshold
    (src ≠ s.extractions[i].source → act = s)
    ∧ (src = s.extractions[i].source →
      (x.state = .on → absent → 0 < s.ctl.active.header.holdMs → act = { s with
        slots := s.slots.set i { x with state := .hold, hold := some (s.ctl.active.header.holdMs * 160000) } })
      ∧ (x.state = .on → absent → s.ctl.active.header.holdMs = 0 → act = s.lost i .absent)
      ∧ (x.state = .hold → ¬ absent → act = ({ s with
          slots := s.slots.set i { x with state := .on, hold := none } } : State).count .dips i)
      ∧ (x.state = .hold → absent → act = s)
      ∧ (x.state = .rising → absent → act = (s.count .rampAborts i).lost i .rampAbort)
      ∧ (x.state = .rising → ¬ absent → act = s)
      ∧ (x.state = .muted → x.inUse.threshold + 6 ≤ level →
        let last := s.extractions[i].lastLevel
        let grant := s.alloc.table[i].grant
        let rise : Int := max (-80) (min 120 (s.alloc.table[i].target.getD 0 - last))
        (0 < grant → act = ({ s with
            slots := s.slots.set i (x.risen rise (s.ctl.active.header.rampMs * 160000)) } : State).write
          { kind := .slotRecovered, slot := some i, value1 := some last, value2 := some grant, cause := some .carrier })
        ∧ (grant = 0 → act = ({ s with
            slots := s.slots.set i { x with state := .deferred, reacquire := none, ramp := none, attempts := 0 }
            alloc := { s.alloc with table := s.alloc.table.set i s.alloc.table[i].freed } } : State).write
          { kind := .slotDeferred, slot := some i, value1 := some last, cause := some .grant }))
      ∧ (x.state = .muted → level < x.inUse.threshold + 6 → act = s)
      ∧ (x.state ∈ [SlotState.off, .deferred, .falling, .failed] → act = s))

/-- The level loop of a slot in ON with target T and its carrier present: the error is T − (I + gain). In −1 to +1
the gain stays; above 1 at a gain of +120 the shortfall counter counts; otherwise the gain moves by min(|e|, 4)
towards the target, clamped into −80 to +120. A fall of target at a delivery lowers the gain of a slot in ON or HOLD,
and the gain and ramp end gain of a RISING one, by the fall, clamped into −80 to +120; a rise or an equal target
leaves them. -/
def Obligations.LevelLoopAndTargetCut : Prop :=
  (∀ (s : State) (i : SlotIx) (level target : Int), s.slots[i].state = .on →
     s.slots[i].inUse.threshold ≤ level → s.alloc.table[i].target = some target →
     let g := s.slots[i].gain
     let e := target - (level + g)
     s.takeMeasurement i (some (level, s.extractions[i].source)) =
       if 1 < e ∧ g = 120 then s.count .shortfall i
       else { s with
         slots := s.slots.set i { s.slots[i] with
           gain := if -1 ≤ e ∧ e ≤ 1 then g
             else if 1 < e then max (-80) (min 120 (g + min e 4)) else max (-80) (min 120 (g - min (-e) 4)) } })
  ∧ (∀ (x : Slot) (before after : Int),
       (before ≤ after → x.cutGain (targetFall (some before) (some after)) = x)
       ∧ (after < before → x.state = .on ∨ x.state = .hold →
         x.cutGain (targetFall (some before) (some after)) =
           { x with gain := max (-80) (min 120 (x.gain - (before - after))) })
       ∧ (after < before → x.state = .rising →
         (x.cutGain (targetFall (some before) (some after))).endGain = max (-80) (min 120 (x.endGain - (before - after)))
         ∧ (x.cutGain (targetFall (some before) (some after))).gain = max (-80) (min 120 (x.endGain - (before - after)))
         ∧ (x.cutGain (targetFall (some before) (some after))).ramp = x.ramp))

/-- A hold timer that runs out in HOLD makes the slot MUTED: its output is cut, losses counts, SLOT_LOST is written
with HOLD_EXPIRY, a slot with an alternate flips its source with its counter and event, and the reacquire timer
starts. In another state, or with the timer stopped, the expiry does not happen (the model's choice, log entry 3). A
reacquire timer that runs out in MUTED makes one attempt: the count rises up to 255 and its counter counts. At a
limit above 0 the slot is FAILED: timer stopped, grant 0, SLOT_FAILED, a run. Otherwise a slot with an alternate
flips its source with EXPIRY, and the timer restarts. -/
def Obligations.HoldAndReacquireExpiry : Prop :=
  (∀ (s : State) (i : SlotIx), s.inReset = false →
     let x := s.slots[i]
     (x.state = .hold → x.hold ≠ none → exec (.holdTimerExpiry i) s = .next (s.lost i .holdExpiry))
     ∧ (x.state ≠ .hold ∨ x.hold = none → exec (.holdTimerExpiry i) s = .next s))
  ∧ (∀ (s : State) (i : SlotIx), s.inReset = false → s.slots[i].state = .muted → s.slots[i].reacquire ≠ none →
       let x := s.slots[i]
       let n := min 255 (x.attempts + 1)
       let limit := s.ctl.active.entries[i].reacquireLimit
       let s1 := ({ s with slots := s.slots.set i { x with attempts := n } } : State).count .attempts i
       let src := s.extractions[i].source.flipped
       let s2 := if x.inUse.altRxKhz = none then s1 else
         ((s1.count .switches i).write
           { kind := .sourceSwitched, slot := some i, value1 := some src.code, value2 := some n,
             cause := some .expiry }).selectSource i src
       (0 < limit → n = limit → exec (.reacquireTimerExpiry i) s = .next
         ((({ s1 with
           slots := s1.slots.set i { s1.slots[i] with state := .failed, reacquire := none }
           alloc := { s1.alloc with
             table := s1.alloc.table.set i { s1.alloc.table[i] with grant := 0, target := none } } } : State).write
           { kind := .slotFailed, slot := some i, value1 := some n,
             value2 := some s.extractions[i].source.code }).startRun))
       ∧ (limit = 0 ∨ n ≠ limit → exec (.reacquireTimerExpiry i) s = .next (s2.modSlot i fun y =>
         { y with reacquire := some (s.ctl.active.header.reacquireMs * 160000) })))

/-- Settling ends with the extraction settled. A rise that completes makes the slot ON at its ramp end gain with no
ramp. A fall that completes towards DEFERRED makes it DEFERRED with SLOT_DEFERRED of cause GRANT; towards OFF it
makes it OFF with timers, ramp, destination and attempts cleared and a grant of 0, and in DRAINING the last awaited
one raises. -/
def Obligations.SettlingRiseAndFall : Prop :=
  ∀ (s : State) (i : SlotIx), s.inReset = false →
    let x := s.slots[i]
    let freed : Allocator := { s.alloc with
      table := s.alloc.table.set i { s.alloc.table[i] with grant := 0, target := none } }
    let off : State := { s with
      alloc := freed
      slots := s.slots.set i { x with
        state := .off, hold := none, reacquire := none, ramp := none, fallDest := none, attempts := 0 } }
    exec (.settlingComplete i) s = .next { s with
      extractions := s.extractions.set i { s.extractions[i] with settling := none } }
    ∧ (x.state = .rising → x.ramp ≠ none → exec (.riseCompletion i) s = .next { s with
      slots := s.slots.set i { x with state := .on, ramp := none, gain := x.endGain } })
    ∧ (x.state = .falling → x.ramp ≠ none →
      (x.fallDest = some .deferred → exec (.fallCompletion i) s = .next (({ s with
        alloc := freed
        slots := s.slots.set i { x with
          state := .deferred, ramp := none, reacquire := none, fallDest := none } } : State).write
        { kind := .slotDeferred, slot := some i, value1 := some s.extractions[i].lastLevel, cause := some .grant }))
      ∧ (x.fallDest = some .off →
        (s.ctl.state ≠ .draining ∨ s.ctl.awaiting[i] = false → exec (.fallCompletion i) s = .next off)
        ∧ (s.ctl.state = .draining → s.ctl.awaiting[i] = true →
          let left := s.ctl.awaiting.set i false
          let waiting : State := { off with ctl := { s.ctl with awaiting := left } }
          exec (.fallCompletion i) s
            = .next (if ∃ j : SlotIx, left[j] = true then waiting else waiting.raise))))

/-- RAISING, with the Allocator held and the drained slots OFF: every drained slot adopts its active entry, its
extraction idle, kept or retuned and its placement set anew; the raise run is made over all slots, and a drained one
is RISING on a grant above 0, with gain and ramp end gain T − its last input level and a fresh ramp, DEFERRED on 0,
or OFF if disabled. The other slots act on their grants. Each raised DEFERRED slot writes SLOT_DEFERRED of cause
RAISE, each other slot the event of its grant, in ascending index (the order is the model's choice, log entry 12).
The Controller is READY, the Allocator free with nothing pending, and a commit or reload has its closing event as the
last, with the number of drained slots then in RISING and of those in DEFERRED. A change of source retunes a tuned
extraction against the centre it was adopted under, and keeps its class and last level. -/
def Obligations.RaiseInstalls : Prop :=
  (∀ s : State, s.alloc.held = true → (∀ i : SlotIx, s.ctl.drainSet[i] = true → s.slots[i].state = .off) →
    s.Raises s.raise
    ∧ (∀ i : SlotIx, s.ctl.drainSet[i] = true →
      s.raise.slots[i].inUse = s.ctl.active.entries[i].inUse
      ∧ s.raise.slots[i].state = (if s.ctl.active.entries[i].enabled then
          (if 0 < s.raise.alloc.table[i].grant then .rising else .deferred) else .off))
    ∧ (∀ p tag, s.ctl.change = some (.commit p tag) → ∃ e, s.raise.ring.entries.getLast? = some e
      ∧ e.notice = { kind := .commitDone, port := some p, tag := some tag
                     value1 := some (s.raise.countIn s.ctl.drainSet .rising)
                     value2 := some (s.raise.countIn s.ctl.drainSet .deferred) })
    ∧ (∀ p tag, s.ctl.change = some (.reload p tag) → ∃ e, s.raise.ring.entries.getLast? = some e
      ∧ e.notice = { kind := .reloadDone, port := some p, tag := some tag
                     value1 := some (s.raise.countIn s.ctl.drainSet .rising)
                     value2 := some (s.raise.countIn s.ctl.drainSet .deferred) }))
  ∧ (∀ (s : State) (set : PerSlot Bool) (st : SlotState),
    s.countIn set st = (Finset.univ.filter fun i : SlotIx => set[i] = true ∧ s.slots[i].state = st).card)
  ∧ ∀ (s : State) (i : SlotIx) (src : Source),
    let x := s.extractions[i]
    let u := s.slots[i].inUse
    let offset : Int := (match src with
      | .primary => (u.rxKhz : Int)
      | .alternate => ((u.altRxKhz.getD u.rxKhz : Nat) : Int)) - x.centre
    s.selectSource i src = { s with
      extractions := s.extractions.set i (if x.tuned = true ∧ x.source ≠ src then
        { x with source := src, offset := offset, word := tuningWord offset, phase := 0, accum := .empty
                 settling := some 16000, history := [] }
        else { x with source := src }) }

/-! ### The Budget Allocator and the combiner -/

/-- An allocation run serves a slot exactly when its active entry is enabled and it is DEFERRED, RISING, ON, HOLD or
MUTED, or in OFF and the run is a raise run, at its active entry's priority and with its active entry's share; the
demand of a priority is the sum of the shares of those served at it. It serves the priorities 0 to 3 from a remainder
that starts at E. A level whose demand is met gets its shares; a cut level gets floor(share × R / D) and at most one
leftover unit each, the lower index first, exactly R in all; everyone else gets 0. The grants add up to at most E. -/
def Obligations.AllocationRun : Prop :=
  ∀ (s : State) (raise : Bool),
    let g := s.runGrant raise
    let rem := s.remainder raise
    let dem := s.demand raise
    (∀ i : SlotIx, s.served raise i = true ↔ s.ctl.active.entries[i].enabled = true
      ∧ (s.slots[i].state ∈ [SlotState.deferred, .rising, .on, .hold, .muted] ∨ raise = true ∧ s.slots[i].state = .off))
    ∧ (∀ p i, s.servedAt raise p i = true ↔ s.served raise i = true ∧ s.ctl.active.entries[i].priority.val = p)
    ∧ (∀ i : SlotIx, s.share i = s.ctl.active.entries[i].share)
    ∧ (∀ p, dem p = ((allSlots.filter fun i => s.servedAt raise p i).map fun i => s.ctl.active.entries[i].share).sum)
    ∧ rem 0 = s.alloc.pool
    ∧ (∀ p, rem (p + 1) = if dem p ≤ rem p then rem p - dem p else 0)
    ∧ (∀ i, s.served raise i = false → g i = 0)
    ∧ (∀ i, s.served raise i = true → let p := s.ctl.active.entries[i].priority.val
      (dem p ≤ rem p → g i = s.share i)
      ∧ (rem p < dem p → s.share i * rem p / dem p ≤ g i ∧ g i ≤ s.share i * rem p / dem p + 1 ∧ g i ≤ s.share i))
    ∧ (∀ p, rem p < dem p → ((allSlots.filter (s.servedAt raise p)).map g).sum = rem p)
    ∧ (∀ p i j, rem p < dem p → s.servedAt raise p i = true → s.servedAt raise p j = true → i < j → 0 < s.share i →
      g j = s.share j * rem p / dem p + 1 → g i = s.share i * rem p / dem p + 1)
    ∧ (allSlots.map g).sum ≤ s.alloc.pool

/-- An event that starts a run makes it while the Allocator is free, each slot's record then being the run's grant,
its target and its share: a DEFERRED slot given a grant is RISING, a RISING, ON or HOLD slot given none is FALLING, a
MUTED one given none is DEFERRED. A slot that rises has gain and ramp end gain T − its last input level, clamped, and
a fresh ramp; a fall of target cuts the gain of ON, HOLD and RISING. A slot that rises writes SLOT_RECOVERED of cause
GRANT with its last input level and grant, one that is deferred SLOT_DEFERRED of cause GRANT, in ascending index (the
order is the model's choice, log entry 12). Nothing but slots, grant table and ring changes. While the Allocator is
held the run is made pending and nothing else changes. -/
def Obligations.RunsStartOrWait : Prop :=
  ∀ s : State,
    (s.alloc.held = true → s.startRun = { s with alloc := { s.alloc with pendingRun := true } })
    ∧ (s.alloc.held = false → ∀ i : SlotIx,
      s.startRun.alloc.table[i].share = s.ctl.active.entries[i].share
      ∧ (s.startRun.alloc.table[i] =
          ⟨s.runGrant false i, targetOf s.ctl.active.header.ceiling (s.runGrant false i), s.ctl.active.entries[i].share⟩)
      ∧ s.startRun.slots[i].state = (match s.slots[i].state with
          | .deferred => if 0 < s.runGrant false i then .rising else .deferred
          | .rising => if s.runGrant false i = 0 then .falling else .rising
          | .on => if s.runGrant false i = 0 then .falling else .on
          | .hold => if s.runGrant false i = 0 then .falling else .hold
          | .muted => if s.runGrant false i = 0 then .deferred else .muted
          | .off => .off
          | .falling => .falling
          | .failed => .failed)
      ∧ (let target := targetOf s.ctl.active.header.ceiling (s.runGrant false i)
        let rise : Int := max (-80) (min 120 (target.getD 0 - s.extractions[i].lastLevel))
        let fall : Int := match s.alloc.table[i].target, target with
          | some old, some new => old - new
          | _, _ => 0
        s.startRun.slots[i] = s.slots[i].given (s.runGrant false i) fall rise (s.ctl.active.header.rampMs * 160000))
      ∧ s.startRun.ring = s.ring.after s.ctl.generation (allSlots.filterMap (s.grantNotice s.startRun false))
      ∧ s.startRun = { s with
          slots := s.startRun.slots, ring := s.startRun.ring
          alloc := { s.alloc with table := s.startRun.alloc.table } })

/-- The judging of an interval in LIVE: above ceiling + 2 it is overloaded and hands its third in a row to a step of
E down, else it is clean, clears the run count and steps E up; an overloaded interval counts in the overload counter,
and a first or second in a row changes the run count, the counters with their notices and the clip record alone; the
clip counter counts a set clip record. Outside LIVE only the clip record is cleared. A step that changes E starts a
run, a step down with its POOL_CHANGED event before it, a step up with one when it reaches 1,024. That the event
stands before the run, and the notice of the clip counter after it, is the model's choice (log entry 12). -/
def Obligations.IntervalJudging : Prop :=
  ∀ s : State,
    let hot : Prop := s.ctl.active.header.ceiling + 2 < s.combiner.lastLevel
    let t := s.judgeInterval
    t.combiner = { s.combiner with clip := false }
    ∧ (s.combiner.state ≠ .live → t = { s with combiner := { s.combiner with clip := false } })
    ∧ (s.combiner.state = .live → hot → s.alloc.overloadRun < 2 →
      t.alloc = { s.alloc with overloadRun := s.alloc.overloadRun + 1 })
    ∧ (s.combiner.state = .live → hot → s.alloc.overloadRun = 2 → t.alloc.overloadRun = 0
      ∧ t.alloc.pool = (if s.alloc.held then max (max (s.alloc.pool - 64) 512) s.alloc.grantSum
          else max (s.alloc.pool - 64) 512))
    ∧ (s.combiner.state = .live → ¬ hot → t.alloc.overloadRun = 0 ∧ t.alloc.pool = min (s.alloc.pool + 16) 1024)
    ∧ (s.combiner.state = .live → hot → s.counters.enable = true → s.counters.mask.getLsbD 6 = false →
      t.counters.overload = (if s.counters.overload = 65535 then 0 else s.counters.overload + 1))
    ∧ (s.combiner.state = .live → s.combiner.clip = true → s.counters.enable = true →
      s.counters.mask.getLsbD 7 = false →
      t.counters.clip = (if s.counters.clip = 65535 then 0 else s.counters.clip + 1))
    ∧ (let clipped : State → State := fun u =>
        (if s.combiner.clip = true then u.countClip else u).modCombiner fun c => { c with clip := false }
      let moved : State → Nat → Option Notice → State := fun u pool notice =>
        let v : State := { u with alloc := { u.alloc with overloadRun := 0 } }
        if pool = s.alloc.pool then v
        else match notice with
          | some n => (({ v with alloc := { v.alloc with pool := pool } } : State).write n).startRun
          | none => ({ v with alloc := { v.alloc with pool := pool } } : State).startRun
      let event : Nat → Cause → Notice := fun pool cause =>
        { kind := .poolChanged, value1 := some (pool : Int), value2 := some (s.alloc.pool : Int), cause := some cause }
      let down := if s.alloc.held then max (max (s.alloc.pool - 64) 512) s.alloc.grantSum else max (s.alloc.pool - 64) 512
      let up := min (s.alloc.pool + 16) 1024
      (s.combiner.state = .live → hot → s.alloc.overloadRun < 2 →
        t = clipped { s.countOverload with alloc := { s.alloc with overloadRun := s.alloc.overloadRun + 1 } })
      ∧ (s.combiner.state = .live → hot → s.alloc.overloadRun = 2 →
        t = clipped (moved s.countOverload down (some (event down .overload))))
      ∧ (s.combiner.state = .live → ¬ hot →
        t = clipped (moved s up (if up = 1024 then some (event up .recovered) else none))))

/-- INTERLOCK asserted takes LIVE and RESUMING to INTERLOCKED and abandons the ramp; released takes INTERLOCKED to
RESUMING with a fresh ramp over ramp_ms; the ramp's completion takes RESUMING to LIVE. Each writes one INTERLOCK
event with the new state and the last composite level. Slots, Allocator and measurements stay. A line that already
stands so, and a completion without a resuming ramp, change nothing (the model's choice, log entry 3). -/
def Obligations.InterlockChanges : Prop :=
  ∀ s : State, s.inReset = false →
    let event (code : Int) (cause : Cause) : Notice :=
      { kind := .interlock, value1 := some code, value2 := some s.combiner.lastLevel, cause := some cause }
    (s.interlock = false → s.combiner.state ≠ .interlocked → exec .interlockAsserted s = .next (({ s with
        interlock := true
        combiner := { s.combiner with state := .interlocked, ramp := none } } : State).write (event 1 .asserted)))
    ∧ (s.interlock = true → s.combiner.state = .interlocked → exec .interlockReleased s = .next (({ s with
        interlock := false
        combiner := { s.combiner with
          state := .resuming, ramp := some ⟨0, s.ctl.active.header.rampMs * 160000⟩ } } : State).write
        (event 2 .released)))
    ∧ (s.combiner.state = .resuming → s.combiner.ramp ≠ none → exec .resumingRampCompletion s = .next (({ s with
        combiner := { s.combiner with state := .live, ramp := none } } : State).write (event 0 .resumed)))
    ∧ (s.interlock = true → exec .interlockAsserted s = .next s)
    ∧ (s.interlock = false → exec .interlockReleased s = .next s)
    ∧ (s.combiner.state ≠ .resuming ∨ s.combiner.ramp = none → exec .resumingRampCompletion s = .next s)

/-! ### Device reset -/

/-- A device reset returns every block to its reset values, keeps the nonvolatile pages, store counts and boot
record, and leaves an interrupted operation's page BLANK or CORRUPT, or the boot record absent, as its phase says.
That the reset holds until a RESET_END is the model's reading (log entry 2). At the end of a reset the ports come up,
the composite state follows the INTERLOCK line without an event, and the engine begins the start-up read; that the
sample on the transmit sample bus is then zero is the model's choice (log entry 10); in the reset, requests,
transfers' bytes and timed events have no effect, and READY and ATTN are deasserted. A change of the INTERLOCK line
in the reset changes the line alone, and a select that is asserted or deasserted in it begins and ends no transfer:
its level alone is kept. Outside a reset READY is asserted exactly while the request queue has fewer than four
entries, and ATTN while a response is queued or an event is unread. -/
def Obligations.DeviceResetAndItsEnd : Prop :=
  (∀ (s : State) (cause : ResetCause), ∃ t : State, exec (.deviceReset cause) s = .next t
     ∧ t.inReset = true ∧ t.resetCause = cause ∧ t.interlock = s.interlock ∧ t.pending = s.pending
     ∧ (∀ i : SlotIx, t.slots[i] = ⟨.off, ⟨false, 0, 0, none, 0, -160⟩, 0, none, 0, none, none, 0, none⟩
         ∧ t.extractions[i].tuned = false ∧ t.extractions[i].offset = 0 ∧ t.extractions[i].word = 0
         ∧ t.extractions[i].phase = 0 ∧ t.extractions[i].bwClass = 0 ∧ t.extractions[i].source = .primary
         ∧ t.extractions[i].settling = none ∧ t.extractions[i].accum = ⟨0, 0⟩ ∧ t.extractions[i].lastLevel = -200
         ∧ t.placements[i] = ⟨false, 0, 0, 0⟩ ∧ t.alloc.table[i] = ⟨0, none, 0⟩
         ∧ t.counters.slots[i] = ⟨0, 0, 0, 0, 0, 0⟩)
     ∧ t.intervalElapsed = 0 ∧ (∀ i : SlotIx, t.ctl.drainSet[i] = false ∧ t.ctl.awaiting[i] = false)
     ∧ t.combiner.state = (if s.interlock then .interlocked else .live)
     ∧ t.combiner.lastLevel = -200 ∧ t.combiner.ramp = none ∧ t.combiner.accum = ⟨0, 0⟩ ∧ t.combiner.clip = false
     ∧ t.alloc.pool = 1024 ∧ t.alloc.overloadRun = 0 ∧ t.alloc.held = true ∧ t.alloc.pendingRun = false
     ∧ t.ctl.state = .starting ∧ t.ctl.active = Plan.default ∧ t.ctl.generation = 0 ∧ t.ctl.incoming = none
     ∧ t.ctl.change = none ∧ t.drafts = ⟨⟨Plan.default, none⟩, ⟨Plan.default, none⟩⟩
     ∧ (∀ p : Port, t.ports.get p = ⟨(s.ports.get p).select, false, .hunting, [], [], none, false, 0, 0⟩)
     ∧ t.arbiter = ⟨.open, none, none, none, ⟨0, 0⟩⟩ ∧ t.ring = ⟨[], 0, ⟨0, 0⟩, ⟨0, 0⟩⟩
     ∧ t.counters.enable = true ∧ t.counters.mask = 0 ∧ t.counters.overload = 0 ∧ t.counters.clip = 0
     ∧ t.memory.op = none ∧ t.memory.lastOutcome = none
     ∧ t.memory.boot = (match s.memory.op with | some (.bootWrite _ _ _ _) => none | _ => s.memory.boot)
     ∧ ∀ pg : PageIx, t.memory.pages[pg] = (match s.memory.op with
       | some (.store q ph _ _ _) => if q ≠ pg then s.memory.pages[pg] else
           (match ph with
             | .erase => { s.memory.pages[pg] with state := .blank, image := none }
             | .program | .verify => { s.memory.pages[pg] with state := .corrupt })
       | some (.erase q _ _) =>
           if q ≠ pg then s.memory.pages[pg] else { s.memory.pages[pg] with state := .blank, image := none }
       | _ => s.memory.pages[pg]))
  ∧ ((∀ (s : State) (p : Port), s.inReset = false →
       (s.ready p = true ↔ (s.ports.get p).requests.length < 4)
       ∧ (s.attn p = true ↔ (s.ports.get p).responses ≠ [] ∨ 0 < s.ring.unread.get p))
     ∧ ∀ s : State, s.inReset = true →
       exec .resetEnd s = .next { s with
         inReset := false
         combiner := ⟨if s.interlock then .interlocked else .live, none, -200, ⟨0, 0⟩, false, ⟨0, 0⟩⟩
         memory := { s.memory with op := some (.startUpRead .record), opElapsed := 0 } }
       ∧ (∀ p : Port, s.ready p = false ∧ s.attn p = false)
       ∧ exec .interlockAsserted s = .next { s with interlock := true }
       ∧ exec .interlockReleased s = .next { s with interlock := false }
       ∧ (∀ p : Port,
         exec (.transferBegin p) s = .next { s with ports := s.ports.set p { s.ports.get p with select := true } }
         ∧ exec (.transferEnd p) s = .next { s with ports := s.ports.set p { s.ports.get p with select := false } })
       ∧ ∀ c : Instr, (∀ cause, c ≠ .deviceReset cause) → c ≠ .resetEnd → c ≠ .interlockAsserted →
         c ≠ .interlockReleased → (∀ p, c ≠ .transferBegin p ∧ c ≠ .transferEnd p) → exec c s = .next s)

/-! ### Transfers -/

/-- A transfer begins in HUNTING with the head response as its frame; a start byte makes a hunting port RECEIVING;
the last byte of the frame shifted out removes it if it still stands at the head; the transfer's end drops its frame
and discards a request frame still being received as bad. A select that was asserted in a reset began no transfer:
its deassertion leaves the port hunting and discards nothing. A select that already stands so, and a byte outside a
transfer, change nothing (the model's choice, log entry 3). A complete request frame whose CRC-16 matches joins the
request queue, or with four entries there counts an overrun and is dropped; one whose CRC does not match, or whose
length is above 256, counts a bad frame and queues BAD_FRAME with tag 255 and code 0 if there is room. Either way the
rest of the transfer is disregarded. That the frame arrives as one command, and has no effect on a port that is not
RECEIVING in a transfer, is the model's choice (log entries 19 and 3). -/
def Obligations.TransfersAndRequestFrames : Prop :=
  (∀ (s : State) (p : Port), s.inReset = false →
     let x := s.ports.get p
     let put (y : PortState) : State := { s with ports := s.ports.set p y }
     (x.select = false → exec (.transferBegin p) s = .next (put { x with
       select := true, inTransfer := true, receive := .hunting, frame := x.responses.head?
       frameAtHead := !x.responses.isEmpty }))
     ∧ (x.inTransfer = true → x.receive = .hunting → exec (.startByte p) s = .next (put { x with receive := .receiving }))
     ∧ (x.inTransfer = true → x.receive ≠ .hunting → exec (.startByte p) s = .next s)
     ∧ (x.inTransfer = true → x.frame ≠ none → x.frameAtHead = true → exec (.responseShiftedOut p) s = .next (put { x with
       responses := x.responses.tail, frameAtHead := false }))
     ∧ (x.inTransfer = true → x.frameAtHead = false → exec (.responseShiftedOut p) s = .next s)
     ∧ (x.select = true → x.inTransfer = true → exec (.transferEnd p) s = .next (put
       { (if x.receive = .receiving then { x with
             badFrames := if x.badFrames = 65535 then 0 else x.badFrames + 1
             responses := if x.responses.length < 8 then x.responses ++ [⟨255, 0, .badFrame, []⟩] else x.responses }
           else x) with
         select := false, inTransfer := false, receive := .hunting, frame := none, frameAtHead := false }))
     ∧ (x.select = true → x.inTransfer = false → exec (.transferEnd p) s = .next (put { x with
       select := false, inTransfer := false, receive := .hunting, frame := none, frameAtHead := false }))
     ∧ (x.select = true → exec (.transferBegin p) s = .next s)
     ∧ (x.select = false → exec (.transferEnd p) s = .next s)
     ∧ (x.inTransfer = false → exec (.startByte p) s = .next s ∧ exec (.responseShiftedOut p) s = .next s))
  ∧ (∀ (s : State) (p : Port) (f : Frame) (n : Nat), s.inReset = false →
       let x := s.ports.get p
       let put (y : PortState) : State := { s with ports := s.ports.set p y }
       let bad : PortState := { x with
         receive := .ignoring
         badFrames := if x.badFrames = 65535 then 0 else x.badFrames + 1
         responses := if x.responses.length < 8 then x.responses ++ [⟨255, 0, .badFrame, []⟩] else x.responses }
       let sum := crc16 (f.tag :: f.code :: f.flags :: (be16 f.body.length ++ f.body))
       (x.inTransfer = true → x.receive = .receiving → f.body.length ≤ 256 →
         (sum = f.crc → x.requests.length < 4 → exec (.requestFrame p f) s = .next (put { x with
           receive := .ignoring, requests := x.requests ++ [⟨f.tag, f.code, f.flags, f.body⟩] }))
         ∧ (sum = f.crc → 4 ≤ x.requests.length → exec (.requestFrame p f) s = .next (put { x with
           receive := .ignoring, overruns := if x.overruns = 65535 then 0 else x.overruns + 1 }))
         ∧ (sum ≠ f.crc → exec (.requestFrame p f) s = .next (put bad)))
       ∧ (x.inTransfer = true → x.receive = .receiving → 256 < n → exec (.bodyLengthAbove256 p n) s = .next (put bad))
       ∧ (x.inTransfer = false ∨ x.receive ≠ .receiving →
         exec (.requestFrame p f) s = .next s ∧ exec (.bodyLengthAbove256 p n) s = .next s))

/-! ### Arithmetic -/

/-- The tuning word of an offset of up to 76,000 kHz either way is the nearest integer to offset × 2^32 / 160,000,
with its sign, and fits the 32-bit word. The target of a grant of 1 to 1,024 is ceiling − k, where −k is the integer
nearest to 20 × log10(g / 1,024); a grant of 0 has none. k is at most 60. The level that an expiry measures is that
of the mean of the accumulated powers, and of no power −200 (the model's choice for a composite without a sample, log
entry 9). The input level of a mean power P (full scale 1) is the floor of 20 × log10 P clamped into −200 to 0: 0
from P = 1 up, −200 at P = 0, and −k in between exactly when −k ≤ 20 × log10 P < −k + 1. -/
def Obligations.TuningTargetAndInputLevels : Prop :=
  (∀ offset : Int, -76000 ≤ offset → offset ≤ 76000 →
     (tuningWord offset).toInt = tuningValue offset
     ∧ 2 * (tuningValue offset * 160000 - offset * 4294967296).natAbs ≤ 160000
     ∧ (0 < offset → 0 < tuningValue offset) ∧ (offset < 0 → tuningValue offset < 0))
  ∧ ((∀ c : Int, targetOf c 0 = none)
     ∧ ∀ (c : Int) (g : Nat), 1 ≤ g → g ≤ 1024 → ∃ k : Nat, targetOf c g = some (c - k) ∧ k ≤ 60
       ∧ 1024 ^ 40 ≤ g ^ 40 * 10 ^ (2 * k + 1) ∧ (0 < k → g ^ 40 * 10 ^ (2 * k - 1) < 1024 ^ 40))
  ∧ ((∀ a : Accum, 0 < a.count → accumLevel a = levelOfPower (a.sum / a.count)) ∧ accumLevel .empty = -200
     ∧ ∀ P : Rat, (P ≤ 0 → levelOfPower P = -200)
       ∧ (0 < P → P ^ 20 * 10 ^ 199 < 1 → levelOfPower P = -200) ∧ (1 ≤ P → levelOfPower P = 0)
       ∧ ∀ k : Nat, 1 ≤ k → k < 200 → 0 < P →
         (levelOfPower P = -(k : Int) ↔ 1 ≤ P ^ 20 * 10 ^ k ∧ P ^ 20 * 10 ^ (k - 1) < 1))

/-- Validation reports the first failing test. A plan has no report exactly when every enabled entry has its receive
and transmit frequency in their bands, its alternate in the receive band and different from its primary, and keeps
the guard to every other enabled entry. A report names an enabled entry, every enabled entry below which passes its
tests, and the first test it fails: receive band, transmit band, alternate band, alternate differs, and last the
spacing, with the least later enabled entry that stands too close. -/
def Obligations.ValidationReports : Prop :=
  ∀ pl : Plan,
    (pl.report = none ↔ ∀ i : SlotIx, pl.entries[i].enabled = true →
      pl.RxOk i ∧ pl.TxOk i ∧ pl.AltBandOk i ∧ pl.AltDiffers i
      ∧ ∀ j : SlotIx, i ≠ j → pl.entries[j].enabled = true → pl.Apart i j)
    ∧ ∀ rep, pl.report = some rep → pl.entries[rep.slot].enabled = true ∧ pl.Reports rep
      ∧ ∀ i : SlotIx, i < rep.slot → pl.entries[i].enabled = true → pl.Passes i
end

