-- ==== Sys2Proof/Laws/State.lean ====
section
/-! SUPPORT. One lemma for each field of the state under each plain update, true by unfolding, for `simp`. -/

namespace Sys2Proof.Machine

variable (s : State)

@[simp] theorem State.modSlot_pending (i : SlotIx) (f : Slot → Slot) : (s.modSlot i f).pending = s.pending := rfl
@[simp] theorem State.modSlot_sampleClock (i : SlotIx) (f : Slot → Slot) : (s.modSlot i f).sampleClock = s.sampleClock := rfl
@[simp] theorem State.modSlot_rxTaken (i : SlotIx) (f : Slot → Slot) : (s.modSlot i f).rxTaken = s.rxTaken := rfl
@[simp] theorem State.modSlot_inReset (i : SlotIx) (f : Slot → Slot) : (s.modSlot i f).inReset = s.inReset := rfl
@[simp] theorem State.modSlot_resetCause (i : SlotIx) (f : Slot → Slot) : (s.modSlot i f).resetCause = s.resetCause := rfl
@[simp] theorem State.modSlot_interlock (i : SlotIx) (f : Slot → Slot) : (s.modSlot i f).interlock = s.interlock := rfl
@[simp] theorem State.modSlot_intervalElapsed (i : SlotIx) (f : Slot → Slot) : (s.modSlot i f).intervalElapsed = s.intervalElapsed := rfl
@[simp] theorem State.modSlot_extractions (i : SlotIx) (f : Slot → Slot) : (s.modSlot i f).extractions = s.extractions := rfl
@[simp] theorem State.modSlot_placements (i : SlotIx) (f : Slot → Slot) : (s.modSlot i f).placements = s.placements := rfl
@[simp] theorem State.modSlot_combiner (i : SlotIx) (f : Slot → Slot) : (s.modSlot i f).combiner = s.combiner := rfl
@[simp] theorem State.modSlot_slots (i : SlotIx) (f : Slot → Slot) : (s.modSlot i f).slots = s.slots.set i (f s.slots[i]) := rfl
@[simp] theorem State.modSlot_alloc (i : SlotIx) (f : Slot → Slot) : (s.modSlot i f).alloc = s.alloc := rfl
@[simp] theorem State.modSlot_ctl (i : SlotIx) (f : Slot → Slot) : (s.modSlot i f).ctl = s.ctl := rfl
@[simp] theorem State.modSlot_drafts (i : SlotIx) (f : Slot → Slot) : (s.modSlot i f).drafts = s.drafts := rfl
@[simp] theorem State.modSlot_memory (i : SlotIx) (f : Slot → Slot) : (s.modSlot i f).memory = s.memory := rfl
@[simp] theorem State.modSlot_ports (i : SlotIx) (f : Slot → Slot) : (s.modSlot i f).ports = s.ports := rfl
@[simp] theorem State.modSlot_arbiter (i : SlotIx) (f : Slot → Slot) : (s.modSlot i f).arbiter = s.arbiter := rfl
@[simp] theorem State.modSlot_ring (i : SlotIx) (f : Slot → Slot) : (s.modSlot i f).ring = s.ring := rfl
@[simp] theorem State.modSlot_counters (i : SlotIx) (f : Slot → Slot) : (s.modSlot i f).counters = s.counters := rfl

@[simp] theorem State.modExtraction_pending (i : SlotIx) (f : Extraction → Extraction) : (s.modExtraction i f).pending = s.pending := rfl
@[simp] theorem State.modExtraction_sampleClock (i : SlotIx) (f : Extraction → Extraction) : (s.modExtraction i f).sampleClock = s.sampleClock := rfl
@[simp] theorem State.modExtraction_rxTaken (i : SlotIx) (f : Extraction → Extraction) : (s.modExtraction i f).rxTaken = s.rxTaken := rfl
@[simp] theorem State.modExtraction_inReset (i : SlotIx) (f : Extraction → Extraction) : (s.modExtraction i f).inReset = s.inReset := rfl
@[simp] theorem State.modExtraction_resetCause (i : SlotIx) (f : Extraction → Extraction) : (s.modExtraction i f).resetCause = s.resetCause := rfl
@[simp] theorem State.modExtraction_interlock (i : SlotIx) (f : Extraction → Extraction) : (s.modExtraction i f).interlock = s.interlock := rfl
@[simp] theorem State.modExtraction_intervalElapsed (i : SlotIx) (f : Extraction → Extraction) : (s.modExtraction i f).intervalElapsed = s.intervalElapsed := rfl
@[simp] theorem State.modExtraction_extractions (i : SlotIx) (f : Extraction → Extraction) : (s.modExtraction i f).extractions = s.extractions.set i (f s.extractions[i]) := rfl
@[simp] theorem State.modExtraction_placements (i : SlotIx) (f : Extraction → Extraction) : (s.modExtraction i f).placements = s.placements := rfl
@[simp] theorem State.modExtraction_combiner (i : SlotIx) (f : Extraction → Extraction) : (s.modExtraction i f).combiner = s.combiner := rfl
@[simp] theorem State.modExtraction_slots (i : SlotIx) (f : Extraction → Extraction) : (s.modExtraction i f).slots = s.slots := rfl
@[simp] theorem State.modExtraction_alloc (i : SlotIx) (f : Extraction → Extraction) : (s.modExtraction i f).alloc = s.alloc := rfl
@[simp] theorem State.modExtraction_ctl (i : SlotIx) (f : Extraction → Extraction) : (s.modExtraction i f).ctl = s.ctl := rfl
@[simp] theorem State.modExtraction_drafts (i : SlotIx) (f : Extraction → Extraction) : (s.modExtraction i f).drafts = s.drafts := rfl
@[simp] theorem State.modExtraction_memory (i : SlotIx) (f : Extraction → Extraction) : (s.modExtraction i f).memory = s.memory := rfl
@[simp] theorem State.modExtraction_ports (i : SlotIx) (f : Extraction → Extraction) : (s.modExtraction i f).ports = s.ports := rfl
@[simp] theorem State.modExtraction_arbiter (i : SlotIx) (f : Extraction → Extraction) : (s.modExtraction i f).arbiter = s.arbiter := rfl
@[simp] theorem State.modExtraction_ring (i : SlotIx) (f : Extraction → Extraction) : (s.modExtraction i f).ring = s.ring := rfl
@[simp] theorem State.modExtraction_counters (i : SlotIx) (f : Extraction → Extraction) : (s.modExtraction i f).counters = s.counters := rfl

@[simp] theorem State.modPlacement_pending (i : SlotIx) (f : Placement → Placement) : (s.modPlacement i f).pending = s.pending := rfl
@[simp] theorem State.modPlacement_sampleClock (i : SlotIx) (f : Placement → Placement) : (s.modPlacement i f).sampleClock = s.sampleClock := rfl
@[simp] theorem State.modPlacement_rxTaken (i : SlotIx) (f : Placement → Placement) : (s.modPlacement i f).rxTaken = s.rxTaken := rfl
@[simp] theorem State.modPlacement_inReset (i : SlotIx) (f : Placement → Placement) : (s.modPlacement i f).inReset = s.inReset := rfl
@[simp] theorem State.modPlacement_resetCause (i : SlotIx) (f : Placement → Placement) : (s.modPlacement i f).resetCause = s.resetCause := rfl
@[simp] theorem State.modPlacement_interlock (i : SlotIx) (f : Placement → Placement) : (s.modPlacement i f).interlock = s.interlock := rfl
@[simp] theorem State.modPlacement_intervalElapsed (i : SlotIx) (f : Placement → Placement) : (s.modPlacement i f).intervalElapsed = s.intervalElapsed := rfl
@[simp] theorem State.modPlacement_extractions (i : SlotIx) (f : Placement → Placement) : (s.modPlacement i f).extractions = s.extractions := rfl
@[simp] theorem State.modPlacement_placements (i : SlotIx) (f : Placement → Placement) : (s.modPlacement i f).placements = s.placements.set i (f s.placements[i]) := rfl
@[simp] theorem State.modPlacement_combiner (i : SlotIx) (f : Placement → Placement) : (s.modPlacement i f).combiner = s.combiner := rfl
@[simp] theorem State.modPlacement_slots (i : SlotIx) (f : Placement → Placement) : (s.modPlacement i f).slots = s.slots := rfl
@[simp] theorem State.modPlacement_alloc (i : SlotIx) (f : Placement → Placement) : (s.modPlacement i f).alloc = s.alloc := rfl
@[simp] theorem State.modPlacement_ctl (i : SlotIx) (f : Placement → Placement) : (s.modPlacement i f).ctl = s.ctl := rfl
@[simp] theorem State.modPlacement_drafts (i : SlotIx) (f : Placement → Placement) : (s.modPlacement i f).drafts = s.drafts := rfl
@[simp] theorem State.modPlacement_memory (i : SlotIx) (f : Placement → Placement) : (s.modPlacement i f).memory = s.memory := rfl
@[simp] theorem State.modPlacement_ports (i : SlotIx) (f : Placement → Placement) : (s.modPlacement i f).ports = s.ports := rfl
@[simp] theorem State.modPlacement_arbiter (i : SlotIx) (f : Placement → Placement) : (s.modPlacement i f).arbiter = s.arbiter := rfl
@[simp] theorem State.modPlacement_ring (i : SlotIx) (f : Placement → Placement) : (s.modPlacement i f).ring = s.ring := rfl
@[simp] theorem State.modPlacement_counters (i : SlotIx) (f : Placement → Placement) : (s.modPlacement i f).counters = s.counters := rfl

@[simp] theorem State.modAlloc_pending (f : Allocator → Allocator) : (s.modAlloc f).pending = s.pending := rfl
@[simp] theorem State.modAlloc_sampleClock (f : Allocator → Allocator) : (s.modAlloc f).sampleClock = s.sampleClock := rfl
@[simp] theorem State.modAlloc_rxTaken (f : Allocator → Allocator) : (s.modAlloc f).rxTaken = s.rxTaken := rfl
@[simp] theorem State.modAlloc_inReset (f : Allocator → Allocator) : (s.modAlloc f).inReset = s.inReset := rfl
@[simp] theorem State.modAlloc_resetCause (f : Allocator → Allocator) : (s.modAlloc f).resetCause = s.resetCause := rfl
@[simp] theorem State.modAlloc_interlock (f : Allocator → Allocator) : (s.modAlloc f).interlock = s.interlock := rfl
@[simp] theorem State.modAlloc_intervalElapsed (f : Allocator → Allocator) : (s.modAlloc f).intervalElapsed = s.intervalElapsed := rfl
@[simp] theorem State.modAlloc_extractions (f : Allocator → Allocator) : (s.modAlloc f).extractions = s.extractions := rfl
@[simp] theorem State.modAlloc_placements (f : Allocator → Allocator) : (s.modAlloc f).placements = s.placements := rfl
@[simp] theorem State.modAlloc_combiner (f : Allocator → Allocator) : (s.modAlloc f).combiner = s.combiner := rfl
@[simp] theorem State.modAlloc_slots (f : Allocator → Allocator) : (s.modAlloc f).slots = s.slots := rfl
@[simp] theorem State.modAlloc_alloc (f : Allocator → Allocator) : (s.modAlloc f).alloc = f s.alloc := rfl
@[simp] theorem State.modAlloc_ctl (f : Allocator → Allocator) : (s.modAlloc f).ctl = s.ctl := rfl
@[simp] theorem State.modAlloc_drafts (f : Allocator → Allocator) : (s.modAlloc f).drafts = s.drafts := rfl
@[simp] theorem State.modAlloc_memory (f : Allocator → Allocator) : (s.modAlloc f).memory = s.memory := rfl
@[simp] theorem State.modAlloc_ports (f : Allocator → Allocator) : (s.modAlloc f).ports = s.ports := rfl
@[simp] theorem State.modAlloc_arbiter (f : Allocator → Allocator) : (s.modAlloc f).arbiter = s.arbiter := rfl
@[simp] theorem State.modAlloc_ring (f : Allocator → Allocator) : (s.modAlloc f).ring = s.ring := rfl
@[simp] theorem State.modAlloc_counters (f : Allocator → Allocator) : (s.modAlloc f).counters = s.counters := rfl

@[simp] theorem State.modGrant_pending (i : SlotIx) (f : GrantRec → GrantRec) : (s.modGrant i f).pending = s.pending := rfl
@[simp] theorem State.modGrant_sampleClock (i : SlotIx) (f : GrantRec → GrantRec) : (s.modGrant i f).sampleClock = s.sampleClock := rfl
@[simp] theorem State.modGrant_rxTaken (i : SlotIx) (f : GrantRec → GrantRec) : (s.modGrant i f).rxTaken = s.rxTaken := rfl
@[simp] theorem State.modGrant_inReset (i : SlotIx) (f : GrantRec → GrantRec) : (s.modGrant i f).inReset = s.inReset := rfl
@[simp] theorem State.modGrant_resetCause (i : SlotIx) (f : GrantRec → GrantRec) : (s.modGrant i f).resetCause = s.resetCause := rfl
@[simp] theorem State.modGrant_interlock (i : SlotIx) (f : GrantRec → GrantRec) : (s.modGrant i f).interlock = s.interlock := rfl
@[simp] theorem State.modGrant_intervalElapsed (i : SlotIx) (f : GrantRec → GrantRec) : (s.modGrant i f).intervalElapsed = s.intervalElapsed := rfl
@[simp] theorem State.modGrant_extractions (i : SlotIx) (f : GrantRec → GrantRec) : (s.modGrant i f).extractions = s.extractions := rfl
@[simp] theorem State.modGrant_placements (i : SlotIx) (f : GrantRec → GrantRec) : (s.modGrant i f).placements = s.placements := rfl
@[simp] theorem State.modGrant_combiner (i : SlotIx) (f : GrantRec → GrantRec) : (s.modGrant i f).combiner = s.combiner := rfl
@[simp] theorem State.modGrant_slots (i : SlotIx) (f : GrantRec → GrantRec) : (s.modGrant i f).slots = s.slots := rfl
@[simp] theorem State.modGrant_alloc (i : SlotIx) (f : GrantRec → GrantRec) : (s.modGrant i f).alloc = { s.alloc with table := s.alloc.table.set i (f s.alloc.table[i]) } := rfl
@[simp] theorem State.modGrant_ctl (i : SlotIx) (f : GrantRec → GrantRec) : (s.modGrant i f).ctl = s.ctl := rfl
@[simp] theorem State.modGrant_drafts (i : SlotIx) (f : GrantRec → GrantRec) : (s.modGrant i f).drafts = s.drafts := rfl
@[simp] theorem State.modGrant_memory (i : SlotIx) (f : GrantRec → GrantRec) : (s.modGrant i f).memory = s.memory := rfl
@[simp] theorem State.modGrant_ports (i : SlotIx) (f : GrantRec → GrantRec) : (s.modGrant i f).ports = s.ports := rfl
@[simp] theorem State.modGrant_arbiter (i : SlotIx) (f : GrantRec → GrantRec) : (s.modGrant i f).arbiter = s.arbiter := rfl
@[simp] theorem State.modGrant_ring (i : SlotIx) (f : GrantRec → GrantRec) : (s.modGrant i f).ring = s.ring := rfl
@[simp] theorem State.modGrant_counters (i : SlotIx) (f : GrantRec → GrantRec) : (s.modGrant i f).counters = s.counters := rfl

@[simp] theorem State.modCombiner_pending (f : Combiner → Combiner) : (s.modCombiner f).pending = s.pending := rfl
@[simp] theorem State.modCombiner_sampleClock (f : Combiner → Combiner) : (s.modCombiner f).sampleClock = s.sampleClock := rfl
@[simp] theorem State.modCombiner_rxTaken (f : Combiner → Combiner) : (s.modCombiner f).rxTaken = s.rxTaken := rfl
@[simp] theorem State.modCombiner_inReset (f : Combiner → Combiner) : (s.modCombiner f).inReset = s.inReset := rfl
@[simp] theorem State.modCombiner_resetCause (f : Combiner → Combiner) : (s.modCombiner f).resetCause = s.resetCause := rfl
@[simp] theorem State.modCombiner_interlock (f : Combiner → Combiner) : (s.modCombiner f).interlock = s.interlock := rfl
@[simp] theorem State.modCombiner_intervalElapsed (f : Combiner → Combiner) : (s.modCombiner f).intervalElapsed = s.intervalElapsed := rfl
@[simp] theorem State.modCombiner_extractions (f : Combiner → Combiner) : (s.modCombiner f).extractions = s.extractions := rfl
@[simp] theorem State.modCombiner_placements (f : Combiner → Combiner) : (s.modCombiner f).placements = s.placements := rfl
@[simp] theorem State.modCombiner_combiner (f : Combiner → Combiner) : (s.modCombiner f).combiner = f s.combiner := rfl
@[simp] theorem State.modCombiner_slots (f : Combiner → Combiner) : (s.modCombiner f).slots = s.slots := rfl
@[simp] theorem State.modCombiner_alloc (f : Combiner → Combiner) : (s.modCombiner f).alloc = s.alloc := rfl
@[simp] theorem State.modCombiner_ctl (f : Combiner → Combiner) : (s.modCombiner f).ctl = s.ctl := rfl
@[simp] theorem State.modCombiner_drafts (f : Combiner → Combiner) : (s.modCombiner f).drafts = s.drafts := rfl
@[simp] theorem State.modCombiner_memory (f : Combiner → Combiner) : (s.modCombiner f).memory = s.memory := rfl
@[simp] theorem State.modCombiner_ports (f : Combiner → Combiner) : (s.modCombiner f).ports = s.ports := rfl
@[simp] theorem State.modCombiner_arbiter (f : Combiner → Combiner) : (s.modCombiner f).arbiter = s.arbiter := rfl
@[simp] theorem State.modCombiner_ring (f : Combiner → Combiner) : (s.modCombiner f).ring = s.ring := rfl
@[simp] theorem State.modCombiner_counters (f : Combiner → Combiner) : (s.modCombiner f).counters = s.counters := rfl

@[simp] theorem State.modCtl_pending (f : Controller → Controller) : (s.modCtl f).pending = s.pending := rfl
@[simp] theorem State.modCtl_sampleClock (f : Controller → Controller) : (s.modCtl f).sampleClock = s.sampleClock := rfl
@[simp] theorem State.modCtl_rxTaken (f : Controller → Controller) : (s.modCtl f).rxTaken = s.rxTaken := rfl
@[simp] theorem State.modCtl_inReset (f : Controller → Controller) : (s.modCtl f).inReset = s.inReset := rfl
@[simp] theorem State.modCtl_resetCause (f : Controller → Controller) : (s.modCtl f).resetCause = s.resetCause := rfl
@[simp] theorem State.modCtl_interlock (f : Controller → Controller) : (s.modCtl f).interlock = s.interlock := rfl
@[simp] theorem State.modCtl_intervalElapsed (f : Controller → Controller) : (s.modCtl f).intervalElapsed = s.intervalElapsed := rfl
@[simp] theorem State.modCtl_extractions (f : Controller → Controller) : (s.modCtl f).extractions = s.extractions := rfl
@[simp] theorem State.modCtl_placements (f : Controller → Controller) : (s.modCtl f).placements = s.placements := rfl
@[simp] theorem State.modCtl_combiner (f : Controller → Controller) : (s.modCtl f).combiner = s.combiner := rfl
@[simp] theorem State.modCtl_slots (f : Controller → Controller) : (s.modCtl f).slots = s.slots := rfl
@[simp] theorem State.modCtl_alloc (f : Controller → Controller) : (s.modCtl f).alloc = s.alloc := rfl
@[simp] theorem State.modCtl_ctl (f : Controller → Controller) : (s.modCtl f).ctl = f s.ctl := rfl
@[simp] theorem State.modCtl_drafts (f : Controller → Controller) : (s.modCtl f).drafts = s.drafts := rfl
@[simp] theorem State.modCtl_memory (f : Controller → Controller) : (s.modCtl f).memory = s.memory := rfl
@[simp] theorem State.modCtl_ports (f : Controller → Controller) : (s.modCtl f).ports = s.ports := rfl
@[simp] theorem State.modCtl_arbiter (f : Controller → Controller) : (s.modCtl f).arbiter = s.arbiter := rfl
@[simp] theorem State.modCtl_ring (f : Controller → Controller) : (s.modCtl f).ring = s.ring := rfl
@[simp] theorem State.modCtl_counters (f : Controller → Controller) : (s.modCtl f).counters = s.counters := rfl

@[simp] theorem State.modDraft_pending (p : Port) (f : Draft → Draft) : (s.modDraft p f).pending = s.pending := rfl
@[simp] theorem State.modDraft_sampleClock (p : Port) (f : Draft → Draft) : (s.modDraft p f).sampleClock = s.sampleClock := rfl
@[simp] theorem State.modDraft_rxTaken (p : Port) (f : Draft → Draft) : (s.modDraft p f).rxTaken = s.rxTaken := rfl
@[simp] theorem State.modDraft_inReset (p : Port) (f : Draft → Draft) : (s.modDraft p f).inReset = s.inReset := rfl
@[simp] theorem State.modDraft_resetCause (p : Port) (f : Draft → Draft) : (s.modDraft p f).resetCause = s.resetCause := rfl
@[simp] theorem State.modDraft_interlock (p : Port) (f : Draft → Draft) : (s.modDraft p f).interlock = s.interlock := rfl
@[simp] theorem State.modDraft_intervalElapsed (p : Port) (f : Draft → Draft) : (s.modDraft p f).intervalElapsed = s.intervalElapsed := rfl
@[simp] theorem State.modDraft_extractions (p : Port) (f : Draft → Draft) : (s.modDraft p f).extractions = s.extractions := rfl
@[simp] theorem State.modDraft_placements (p : Port) (f : Draft → Draft) : (s.modDraft p f).placements = s.placements := rfl
@[simp] theorem State.modDraft_combiner (p : Port) (f : Draft → Draft) : (s.modDraft p f).combiner = s.combiner := rfl
@[simp] theorem State.modDraft_slots (p : Port) (f : Draft → Draft) : (s.modDraft p f).slots = s.slots := rfl
@[simp] theorem State.modDraft_alloc (p : Port) (f : Draft → Draft) : (s.modDraft p f).alloc = s.alloc := rfl
@[simp] theorem State.modDraft_ctl (p : Port) (f : Draft → Draft) : (s.modDraft p f).ctl = s.ctl := rfl
@[simp] theorem State.modDraft_drafts (p : Port) (f : Draft → Draft) : (s.modDraft p f).drafts = s.drafts.set p (f (s.drafts.get p)) := rfl
@[simp] theorem State.modDraft_memory (p : Port) (f : Draft → Draft) : (s.modDraft p f).memory = s.memory := rfl
@[simp] theorem State.modDraft_ports (p : Port) (f : Draft → Draft) : (s.modDraft p f).ports = s.ports := rfl
@[simp] theorem State.modDraft_arbiter (p : Port) (f : Draft → Draft) : (s.modDraft p f).arbiter = s.arbiter := rfl
@[simp] theorem State.modDraft_ring (p : Port) (f : Draft → Draft) : (s.modDraft p f).ring = s.ring := rfl
@[simp] theorem State.modDraft_counters (p : Port) (f : Draft → Draft) : (s.modDraft p f).counters = s.counters := rfl

@[simp] theorem State.modMemory_pending (f : Memory → Memory) : (s.modMemory f).pending = s.pending := rfl
@[simp] theorem State.modMemory_sampleClock (f : Memory → Memory) : (s.modMemory f).sampleClock = s.sampleClock := rfl
@[simp] theorem State.modMemory_rxTaken (f : Memory → Memory) : (s.modMemory f).rxTaken = s.rxTaken := rfl
@[simp] theorem State.modMemory_inReset (f : Memory → Memory) : (s.modMemory f).inReset = s.inReset := rfl
@[simp] theorem State.modMemory_resetCause (f : Memory → Memory) : (s.modMemory f).resetCause = s.resetCause := rfl
@[simp] theorem State.modMemory_interlock (f : Memory → Memory) : (s.modMemory f).interlock = s.interlock := rfl
@[simp] theorem State.modMemory_intervalElapsed (f : Memory → Memory) : (s.modMemory f).intervalElapsed = s.intervalElapsed := rfl
@[simp] theorem State.modMemory_extractions (f : Memory → Memory) : (s.modMemory f).extractions = s.extractions := rfl
@[simp] theorem State.modMemory_placements (f : Memory → Memory) : (s.modMemory f).placements = s.placements := rfl
@[simp] theorem State.modMemory_combiner (f : Memory → Memory) : (s.modMemory f).combiner = s.combiner := rfl
@[simp] theorem State.modMemory_slots (f : Memory → Memory) : (s.modMemory f).slots = s.slots := rfl
@[simp] theorem State.modMemory_alloc (f : Memory → Memory) : (s.modMemory f).alloc = s.alloc := rfl
@[simp] theorem State.modMemory_ctl (f : Memory → Memory) : (s.modMemory f).ctl = s.ctl := rfl
@[simp] theorem State.modMemory_drafts (f : Memory → Memory) : (s.modMemory f).drafts = s.drafts := rfl
@[simp] theorem State.modMemory_memory (f : Memory → Memory) : (s.modMemory f).memory = f s.memory := rfl
@[simp] theorem State.modMemory_ports (f : Memory → Memory) : (s.modMemory f).ports = s.ports := rfl
@[simp] theorem State.modMemory_arbiter (f : Memory → Memory) : (s.modMemory f).arbiter = s.arbiter := rfl
@[simp] theorem State.modMemory_ring (f : Memory → Memory) : (s.modMemory f).ring = s.ring := rfl
@[simp] theorem State.modMemory_counters (f : Memory → Memory) : (s.modMemory f).counters = s.counters := rfl

@[simp] theorem State.modPage_pending (i : PageIx) (f : Page → Page) : (s.modPage i f).pending = s.pending := rfl
@[simp] theorem State.modPage_sampleClock (i : PageIx) (f : Page → Page) : (s.modPage i f).sampleClock = s.sampleClock := rfl
@[simp] theorem State.modPage_rxTaken (i : PageIx) (f : Page → Page) : (s.modPage i f).rxTaken = s.rxTaken := rfl
@[simp] theorem State.modPage_inReset (i : PageIx) (f : Page → Page) : (s.modPage i f).inReset = s.inReset := rfl
@[simp] theorem State.modPage_resetCause (i : PageIx) (f : Page → Page) : (s.modPage i f).resetCause = s.resetCause := rfl
@[simp] theorem State.modPage_interlock (i : PageIx) (f : Page → Page) : (s.modPage i f).interlock = s.interlock := rfl
@[simp] theorem State.modPage_intervalElapsed (i : PageIx) (f : Page → Page) : (s.modPage i f).intervalElapsed = s.intervalElapsed := rfl
@[simp] theorem State.modPage_extractions (i : PageIx) (f : Page → Page) : (s.modPage i f).extractions = s.extractions := rfl
@[simp] theorem State.modPage_placements (i : PageIx) (f : Page → Page) : (s.modPage i f).placements = s.placements := rfl
@[simp] theorem State.modPage_combiner (i : PageIx) (f : Page → Page) : (s.modPage i f).combiner = s.combiner := rfl
@[simp] theorem State.modPage_slots (i : PageIx) (f : Page → Page) : (s.modPage i f).slots = s.slots := rfl
@[simp] theorem State.modPage_alloc (i : PageIx) (f : Page → Page) : (s.modPage i f).alloc = s.alloc := rfl
@[simp] theorem State.modPage_ctl (i : PageIx) (f : Page → Page) : (s.modPage i f).ctl = s.ctl := rfl
@[simp] theorem State.modPage_drafts (i : PageIx) (f : Page → Page) : (s.modPage i f).drafts = s.drafts := rfl
@[simp] theorem State.modPage_memory (i : PageIx) (f : Page → Page) : (s.modPage i f).memory = { s.memory with pages := s.memory.pages.set i (f s.memory.pages[i]) } := rfl
@[simp] theorem State.modPage_ports (i : PageIx) (f : Page → Page) : (s.modPage i f).ports = s.ports := rfl
@[simp] theorem State.modPage_arbiter (i : PageIx) (f : Page → Page) : (s.modPage i f).arbiter = s.arbiter := rfl
@[simp] theorem State.modPage_ring (i : PageIx) (f : Page → Page) : (s.modPage i f).ring = s.ring := rfl
@[simp] theorem State.modPage_counters (i : PageIx) (f : Page → Page) : (s.modPage i f).counters = s.counters := rfl

@[simp] theorem State.modPort_pending (p : Port) (f : PortState → PortState) : (s.modPort p f).pending = s.pending := rfl
@[simp] theorem State.modPort_sampleClock (p : Port) (f : PortState → PortState) : (s.modPort p f).sampleClock = s.sampleClock := rfl
@[simp] theorem State.modPort_rxTaken (p : Port) (f : PortState → PortState) : (s.modPort p f).rxTaken = s.rxTaken := rfl
@[simp] theorem State.modPort_inReset (p : Port) (f : PortState → PortState) : (s.modPort p f).inReset = s.inReset := rfl
@[simp] theorem State.modPort_resetCause (p : Port) (f : PortState → PortState) : (s.modPort p f).resetCause = s.resetCause := rfl
@[simp] theorem State.modPort_interlock (p : Port) (f : PortState → PortState) : (s.modPort p f).interlock = s.interlock := rfl
@[simp] theorem State.modPort_intervalElapsed (p : Port) (f : PortState → PortState) : (s.modPort p f).intervalElapsed = s.intervalElapsed := rfl
@[simp] theorem State.modPort_extractions (p : Port) (f : PortState → PortState) : (s.modPort p f).extractions = s.extractions := rfl
@[simp] theorem State.modPort_placements (p : Port) (f : PortState → PortState) : (s.modPort p f).placements = s.placements := rfl
@[simp] theorem State.modPort_combiner (p : Port) (f : PortState → PortState) : (s.modPort p f).combiner = s.combiner := rfl
@[simp] theorem State.modPort_slots (p : Port) (f : PortState → PortState) : (s.modPort p f).slots = s.slots := rfl
@[simp] theorem State.modPort_alloc (p : Port) (f : PortState → PortState) : (s.modPort p f).alloc = s.alloc := rfl
@[simp] theorem State.modPort_ctl (p : Port) (f : PortState → PortState) : (s.modPort p f).ctl = s.ctl := rfl
@[simp] theorem State.modPort_drafts (p : Port) (f : PortState → PortState) : (s.modPort p f).drafts = s.drafts := rfl
@[simp] theorem State.modPort_memory (p : Port) (f : PortState → PortState) : (s.modPort p f).memory = s.memory := rfl
@[simp] theorem State.modPort_ports (p : Port) (f : PortState → PortState) : (s.modPort p f).ports = s.ports.set p (f (s.ports.get p)) := rfl
@[simp] theorem State.modPort_arbiter (p : Port) (f : PortState → PortState) : (s.modPort p f).arbiter = s.arbiter := rfl
@[simp] theorem State.modPort_ring (p : Port) (f : PortState → PortState) : (s.modPort p f).ring = s.ring := rfl
@[simp] theorem State.modPort_counters (p : Port) (f : PortState → PortState) : (s.modPort p f).counters = s.counters := rfl

@[simp] theorem State.modArbiter_pending (f : Arbiter → Arbiter) : (s.modArbiter f).pending = s.pending := rfl
@[simp] theorem State.modArbiter_sampleClock (f : Arbiter → Arbiter) : (s.modArbiter f).sampleClock = s.sampleClock := rfl
@[simp] theorem State.modArbiter_rxTaken (f : Arbiter → Arbiter) : (s.modArbiter f).rxTaken = s.rxTaken := rfl
@[simp] theorem State.modArbiter_inReset (f : Arbiter → Arbiter) : (s.modArbiter f).inReset = s.inReset := rfl
@[simp] theorem State.modArbiter_resetCause (f : Arbiter → Arbiter) : (s.modArbiter f).resetCause = s.resetCause := rfl
@[simp] theorem State.modArbiter_interlock (f : Arbiter → Arbiter) : (s.modArbiter f).interlock = s.interlock := rfl
@[simp] theorem State.modArbiter_intervalElapsed (f : Arbiter → Arbiter) : (s.modArbiter f).intervalElapsed = s.intervalElapsed := rfl
@[simp] theorem State.modArbiter_extractions (f : Arbiter → Arbiter) : (s.modArbiter f).extractions = s.extractions := rfl
@[simp] theorem State.modArbiter_placements (f : Arbiter → Arbiter) : (s.modArbiter f).placements = s.placements := rfl
@[simp] theorem State.modArbiter_combiner (f : Arbiter → Arbiter) : (s.modArbiter f).combiner = s.combiner := rfl
@[simp] theorem State.modArbiter_slots (f : Arbiter → Arbiter) : (s.modArbiter f).slots = s.slots := rfl
@[simp] theorem State.modArbiter_alloc (f : Arbiter → Arbiter) : (s.modArbiter f).alloc = s.alloc := rfl
@[simp] theorem State.modArbiter_ctl (f : Arbiter → Arbiter) : (s.modArbiter f).ctl = s.ctl := rfl
@[simp] theorem State.modArbiter_drafts (f : Arbiter → Arbiter) : (s.modArbiter f).drafts = s.drafts := rfl
@[simp] theorem State.modArbiter_memory (f : Arbiter → Arbiter) : (s.modArbiter f).memory = s.memory := rfl
@[simp] theorem State.modArbiter_ports (f : Arbiter → Arbiter) : (s.modArbiter f).ports = s.ports := rfl
@[simp] theorem State.modArbiter_arbiter (f : Arbiter → Arbiter) : (s.modArbiter f).arbiter = f s.arbiter := rfl
@[simp] theorem State.modArbiter_ring (f : Arbiter → Arbiter) : (s.modArbiter f).ring = s.ring := rfl
@[simp] theorem State.modArbiter_counters (f : Arbiter → Arbiter) : (s.modArbiter f).counters = s.counters := rfl

@[simp] theorem State.modRing_pending (f : Ring → Ring) : (s.modRing f).pending = s.pending := rfl
@[simp] theorem State.modRing_sampleClock (f : Ring → Ring) : (s.modRing f).sampleClock = s.sampleClock := rfl
@[simp] theorem State.modRing_rxTaken (f : Ring → Ring) : (s.modRing f).rxTaken = s.rxTaken := rfl
@[simp] theorem State.modRing_inReset (f : Ring → Ring) : (s.modRing f).inReset = s.inReset := rfl
@[simp] theorem State.modRing_resetCause (f : Ring → Ring) : (s.modRing f).resetCause = s.resetCause := rfl
@[simp] theorem State.modRing_interlock (f : Ring → Ring) : (s.modRing f).interlock = s.interlock := rfl
@[simp] theorem State.modRing_intervalElapsed (f : Ring → Ring) : (s.modRing f).intervalElapsed = s.intervalElapsed := rfl
@[simp] theorem State.modRing_extractions (f : Ring → Ring) : (s.modRing f).extractions = s.extractions := rfl
@[simp] theorem State.modRing_placements (f : Ring → Ring) : (s.modRing f).placements = s.placements := rfl
@[simp] theorem State.modRing_combiner (f : Ring → Ring) : (s.modRing f).combiner = s.combiner := rfl
@[simp] theorem State.modRing_slots (f : Ring → Ring) : (s.modRing f).slots = s.slots := rfl
@[simp] theorem State.modRing_alloc (f : Ring → Ring) : (s.modRing f).alloc = s.alloc := rfl
@[simp] theorem State.modRing_ctl (f : Ring → Ring) : (s.modRing f).ctl = s.ctl := rfl
@[simp] theorem State.modRing_drafts (f : Ring → Ring) : (s.modRing f).drafts = s.drafts := rfl
@[simp] theorem State.modRing_memory (f : Ring → Ring) : (s.modRing f).memory = s.memory := rfl
@[simp] theorem State.modRing_ports (f : Ring → Ring) : (s.modRing f).ports = s.ports := rfl
@[simp] theorem State.modRing_arbiter (f : Ring → Ring) : (s.modRing f).arbiter = s.arbiter := rfl
@[simp] theorem State.modRing_ring (f : Ring → Ring) : (s.modRing f).ring = f s.ring := rfl
@[simp] theorem State.modRing_counters (f : Ring → Ring) : (s.modRing f).counters = s.counters := rfl

@[simp] theorem State.modCounters_pending (f : CounterBank → CounterBank) : (s.modCounters f).pending = s.pending := rfl
@[simp] theorem State.modCounters_sampleClock (f : CounterBank → CounterBank) : (s.modCounters f).sampleClock = s.sampleClock := rfl
@[simp] theorem State.modCounters_rxTaken (f : CounterBank → CounterBank) : (s.modCounters f).rxTaken = s.rxTaken := rfl
@[simp] theorem State.modCounters_inReset (f : CounterBank → CounterBank) : (s.modCounters f).inReset = s.inReset := rfl
@[simp] theorem State.modCounters_resetCause (f : CounterBank → CounterBank) : (s.modCounters f).resetCause = s.resetCause := rfl
@[simp] theorem State.modCounters_interlock (f : CounterBank → CounterBank) : (s.modCounters f).interlock = s.interlock := rfl
@[simp] theorem State.modCounters_intervalElapsed (f : CounterBank → CounterBank) : (s.modCounters f).intervalElapsed = s.intervalElapsed := rfl
@[simp] theorem State.modCounters_extractions (f : CounterBank → CounterBank) : (s.modCounters f).extractions = s.extractions := rfl
@[simp] theorem State.modCounters_placements (f : CounterBank → CounterBank) : (s.modCounters f).placements = s.placements := rfl
@[simp] theorem State.modCounters_combiner (f : CounterBank → CounterBank) : (s.modCounters f).combiner = s.combiner := rfl
@[simp] theorem State.modCounters_slots (f : CounterBank → CounterBank) : (s.modCounters f).slots = s.slots := rfl
@[simp] theorem State.modCounters_alloc (f : CounterBank → CounterBank) : (s.modCounters f).alloc = s.alloc := rfl
@[simp] theorem State.modCounters_ctl (f : CounterBank → CounterBank) : (s.modCounters f).ctl = s.ctl := rfl
@[simp] theorem State.modCounters_drafts (f : CounterBank → CounterBank) : (s.modCounters f).drafts = s.drafts := rfl
@[simp] theorem State.modCounters_memory (f : CounterBank → CounterBank) : (s.modCounters f).memory = s.memory := rfl
@[simp] theorem State.modCounters_ports (f : CounterBank → CounterBank) : (s.modCounters f).ports = s.ports := rfl
@[simp] theorem State.modCounters_arbiter (f : CounterBank → CounterBank) : (s.modCounters f).arbiter = s.arbiter := rfl
@[simp] theorem State.modCounters_ring (f : CounterBank → CounterBank) : (s.modCounters f).ring = s.ring := rfl
@[simp] theorem State.modCounters_counters (f : CounterBank → CounterBank) : (s.modCounters f).counters = f s.counters := rfl

@[simp] theorem State.write_pending (n : Notice) : (s.write n).pending = s.pending := rfl
@[simp] theorem State.write_sampleClock (n : Notice) : (s.write n).sampleClock = s.sampleClock := rfl
@[simp] theorem State.write_rxTaken (n : Notice) : (s.write n).rxTaken = s.rxTaken := rfl
@[simp] theorem State.write_inReset (n : Notice) : (s.write n).inReset = s.inReset := rfl
@[simp] theorem State.write_resetCause (n : Notice) : (s.write n).resetCause = s.resetCause := rfl
@[simp] theorem State.write_interlock (n : Notice) : (s.write n).interlock = s.interlock := rfl
@[simp] theorem State.write_intervalElapsed (n : Notice) : (s.write n).intervalElapsed = s.intervalElapsed := rfl
@[simp] theorem State.write_extractions (n : Notice) : (s.write n).extractions = s.extractions := rfl
@[simp] theorem State.write_placements (n : Notice) : (s.write n).placements = s.placements := rfl
@[simp] theorem State.write_combiner (n : Notice) : (s.write n).combiner = s.combiner := rfl
@[simp] theorem State.write_slots (n : Notice) : (s.write n).slots = s.slots := rfl
@[simp] theorem State.write_alloc (n : Notice) : (s.write n).alloc = s.alloc := rfl
@[simp] theorem State.write_ctl (n : Notice) : (s.write n).ctl = s.ctl := rfl
@[simp] theorem State.write_drafts (n : Notice) : (s.write n).drafts = s.drafts := rfl
@[simp] theorem State.write_memory (n : Notice) : (s.write n).memory = s.memory := rfl
@[simp] theorem State.write_ports (n : Notice) : (s.write n).ports = s.ports := rfl
@[simp] theorem State.write_arbiter (n : Notice) : (s.write n).arbiter = s.arbiter := rfl
@[simp] theorem State.write_ring (n : Notice) : (s.write n).ring = s.ring.write s.ctl.generation n := rfl
@[simp] theorem State.write_counters (n : Notice) : (s.write n).counters = s.counters := rfl

@[simp] theorem State.dequeue_pending (p : Port) : (s.dequeue p).pending = s.pending := rfl
@[simp] theorem State.dequeue_sampleClock (p : Port) : (s.dequeue p).sampleClock = s.sampleClock := rfl
@[simp] theorem State.dequeue_rxTaken (p : Port) : (s.dequeue p).rxTaken = s.rxTaken := rfl
@[simp] theorem State.dequeue_inReset (p : Port) : (s.dequeue p).inReset = s.inReset := rfl
@[simp] theorem State.dequeue_resetCause (p : Port) : (s.dequeue p).resetCause = s.resetCause := rfl
@[simp] theorem State.dequeue_interlock (p : Port) : (s.dequeue p).interlock = s.interlock := rfl
@[simp] theorem State.dequeue_intervalElapsed (p : Port) : (s.dequeue p).intervalElapsed = s.intervalElapsed := rfl
@[simp] theorem State.dequeue_extractions (p : Port) : (s.dequeue p).extractions = s.extractions := rfl
@[simp] theorem State.dequeue_placements (p : Port) : (s.dequeue p).placements = s.placements := rfl
@[simp] theorem State.dequeue_combiner (p : Port) : (s.dequeue p).combiner = s.combiner := rfl
@[simp] theorem State.dequeue_slots (p : Port) : (s.dequeue p).slots = s.slots := rfl
@[simp] theorem State.dequeue_alloc (p : Port) : (s.dequeue p).alloc = s.alloc := rfl
@[simp] theorem State.dequeue_ctl (p : Port) : (s.dequeue p).ctl = s.ctl := rfl
@[simp] theorem State.dequeue_drafts (p : Port) : (s.dequeue p).drafts = s.drafts := rfl
@[simp] theorem State.dequeue_memory (p : Port) : (s.dequeue p).memory = s.memory := rfl
@[simp] theorem State.dequeue_ports (p : Port) : (s.dequeue p).ports = s.ports.set p { s.ports.get p with requests := (s.ports.get p).requests.tail } := rfl
@[simp] theorem State.dequeue_arbiter (p : Port) : (s.dequeue p).arbiter = s.arbiter := rfl
@[simp] theorem State.dequeue_ring (p : Port) : (s.dequeue p).ring = s.ring := rfl
@[simp] theorem State.dequeue_counters (p : Port) : (s.dequeue p).counters = s.counters := rfl

@[simp] theorem State.holdAlloc_pending : (s.holdAlloc).pending = s.pending := rfl
@[simp] theorem State.holdAlloc_sampleClock : (s.holdAlloc).sampleClock = s.sampleClock := rfl
@[simp] theorem State.holdAlloc_rxTaken : (s.holdAlloc).rxTaken = s.rxTaken := rfl
@[simp] theorem State.holdAlloc_inReset : (s.holdAlloc).inReset = s.inReset := rfl
@[simp] theorem State.holdAlloc_resetCause : (s.holdAlloc).resetCause = s.resetCause := rfl
@[simp] theorem State.holdAlloc_interlock : (s.holdAlloc).interlock = s.interlock := rfl
@[simp] theorem State.holdAlloc_intervalElapsed : (s.holdAlloc).intervalElapsed = s.intervalElapsed := rfl
@[simp] theorem State.holdAlloc_extractions : (s.holdAlloc).extractions = s.extractions := rfl
@[simp] theorem State.holdAlloc_placements : (s.holdAlloc).placements = s.placements := rfl
@[simp] theorem State.holdAlloc_combiner : (s.holdAlloc).combiner = s.combiner := rfl
@[simp] theorem State.holdAlloc_slots : (s.holdAlloc).slots = s.slots := rfl
@[simp] theorem State.holdAlloc_alloc : (s.holdAlloc).alloc = { s.alloc with held := true } := rfl
@[simp] theorem State.holdAlloc_ctl : (s.holdAlloc).ctl = s.ctl := rfl
@[simp] theorem State.holdAlloc_drafts : (s.holdAlloc).drafts = s.drafts := rfl
@[simp] theorem State.holdAlloc_memory : (s.holdAlloc).memory = s.memory := rfl
@[simp] theorem State.holdAlloc_ports : (s.holdAlloc).ports = s.ports := rfl
@[simp] theorem State.holdAlloc_arbiter : (s.holdAlloc).arbiter = s.arbiter := rfl
@[simp] theorem State.holdAlloc_ring : (s.holdAlloc).ring = s.ring := rfl
@[simp] theorem State.holdAlloc_counters : (s.holdAlloc).counters = s.counters := rfl

@[simp] theorem State.startOp_pending (op : EngineOp) : (s.startOp op).pending = s.pending := rfl
@[simp] theorem State.startOp_sampleClock (op : EngineOp) : (s.startOp op).sampleClock = s.sampleClock := rfl
@[simp] theorem State.startOp_rxTaken (op : EngineOp) : (s.startOp op).rxTaken = s.rxTaken := rfl
@[simp] theorem State.startOp_inReset (op : EngineOp) : (s.startOp op).inReset = s.inReset := rfl
@[simp] theorem State.startOp_resetCause (op : EngineOp) : (s.startOp op).resetCause = s.resetCause := rfl
@[simp] theorem State.startOp_interlock (op : EngineOp) : (s.startOp op).interlock = s.interlock := rfl
@[simp] theorem State.startOp_intervalElapsed (op : EngineOp) : (s.startOp op).intervalElapsed = s.intervalElapsed := rfl
@[simp] theorem State.startOp_extractions (op : EngineOp) : (s.startOp op).extractions = s.extractions := rfl
@[simp] theorem State.startOp_placements (op : EngineOp) : (s.startOp op).placements = s.placements := rfl
@[simp] theorem State.startOp_combiner (op : EngineOp) : (s.startOp op).combiner = s.combiner := rfl
@[simp] theorem State.startOp_slots (op : EngineOp) : (s.startOp op).slots = s.slots := rfl
@[simp] theorem State.startOp_alloc (op : EngineOp) : (s.startOp op).alloc = s.alloc := rfl
@[simp] theorem State.startOp_ctl (op : EngineOp) : (s.startOp op).ctl = s.ctl := rfl
@[simp] theorem State.startOp_drafts (op : EngineOp) : (s.startOp op).drafts = s.drafts := rfl
@[simp] theorem State.startOp_memory (op : EngineOp) : (s.startOp op).memory = { s.memory with op := some op, opElapsed := 0 } := rfl
@[simp] theorem State.startOp_ports (op : EngineOp) : (s.startOp op).ports = s.ports := rfl
@[simp] theorem State.startOp_arbiter (op : EngineOp) : (s.startOp op).arbiter = s.arbiter := rfl
@[simp] theorem State.startOp_ring (op : EngineOp) : (s.startOp op).ring = s.ring := rfl
@[simp] theorem State.startOp_counters (op : EngineOp) : (s.startOp op).counters = s.counters := rfl

@[simp] theorem State.engineIdle_pending : (s.engineIdle).pending = s.pending := rfl
@[simp] theorem State.engineIdle_sampleClock : (s.engineIdle).sampleClock = s.sampleClock := rfl
@[simp] theorem State.engineIdle_rxTaken : (s.engineIdle).rxTaken = s.rxTaken := rfl
@[simp] theorem State.engineIdle_inReset : (s.engineIdle).inReset = s.inReset := rfl
@[simp] theorem State.engineIdle_resetCause : (s.engineIdle).resetCause = s.resetCause := rfl
@[simp] theorem State.engineIdle_interlock : (s.engineIdle).interlock = s.interlock := rfl
@[simp] theorem State.engineIdle_intervalElapsed : (s.engineIdle).intervalElapsed = s.intervalElapsed := rfl
@[simp] theorem State.engineIdle_extractions : (s.engineIdle).extractions = s.extractions := rfl
@[simp] theorem State.engineIdle_placements : (s.engineIdle).placements = s.placements := rfl
@[simp] theorem State.engineIdle_combiner : (s.engineIdle).combiner = s.combiner := rfl
@[simp] theorem State.engineIdle_slots : (s.engineIdle).slots = s.slots := rfl
@[simp] theorem State.engineIdle_alloc : (s.engineIdle).alloc = s.alloc := rfl
@[simp] theorem State.engineIdle_ctl : (s.engineIdle).ctl = s.ctl := rfl
@[simp] theorem State.engineIdle_drafts : (s.engineIdle).drafts = s.drafts := rfl
@[simp] theorem State.engineIdle_memory : (s.engineIdle).memory = { s.memory with op := none, opElapsed := 0 } := rfl
@[simp] theorem State.engineIdle_ports : (s.engineIdle).ports = s.ports := rfl
@[simp] theorem State.engineIdle_arbiter : (s.engineIdle).arbiter = s.arbiter := rfl
@[simp] theorem State.engineIdle_ring : (s.engineIdle).ring = s.ring := rfl
@[simp] theorem State.engineIdle_counters : (s.engineIdle).counters = s.counters := rfl

@[simp] theorem PerPort.get_set_self {α : Type} (x : PerPort α) (p : Port) (v : α) : (x.set p v).get p = v := by
  cases p <;> rfl

@[simp] theorem PerPort.get_set_other {α : Type} (x : PerPort α) (p : Port) (v : α) :
    (x.set p v).get p.other = x.get p.other := by
  cases p <;> rfl

@[simp] theorem PerPort.set_set {α : Type} (x : PerPort α) (p : Port) (v w : α) : (x.set p v).set p w = x.set p w := by
  cases p <;> rfl

@[simp] theorem PerPort.set_get {α : Type} (x : PerPort α) (p : Port) : x.set p (x.get p) = x := by
  cases p <;> rfl

end Sys2Proof.Machine
end

