-- ==== Sys2Proof/Laws/Operations.lean ====
section
/-! SUPPORT. For each shared operation, what it can change, said once: an equation where it is short, else the fields it
may give new values, every other field standing as it was. -/

namespace Sys2Proof.Machine

/-! ### Taking requests -/

/-- Outside a reset a command that a reset holds off acts. -/
theorem State.running_of_not_reset {s : State} (h : s.inReset = false) (f : State → State) :
    s.running f = .next (f s) := by
  simp [State.running, h]

/-- In a reset such a command has no effect. -/
theorem State.running_of_reset {s : State} (h : s.inReset = true) (f : State → State) : s.running f = .next s := by
  simp [State.running, h]

/-- A request of the row that passes the form checks goes to its owning block and is answered. -/
theorem State.take_of_takes {s : State} {p : Port} {row : RequestRow} {r : Request} (h : s.takes p row r)
    (handler : Port → Request → State → State × Reply) :
    s.take p row handler
      = .next ((handler p r (s.dequeue p)).1.respond p r (handler p r (s.dequeue p)).2) := by
  obtain ⟨⟨h1, h2, h3⟩, h4, h5⟩ := h
  unfold State.take
  rw [State.running_of_not_reset h1]
  cases hq : (s.ports.get p).requests with
  | nil => simp [hq] at h2
  | cons a l =>
    simp only [hq, List.head?_cons, Option.some.injEq] at h2
    subst h2
    simp [h3, h4, State.judge, h5]

/-- A COMMIT refused at its form carries the active generation. -/
@[simp] theorem State.formBody_commit (s : State) : s.formBody .commit = be16 s.ctl.generation := rfl

/-- Any other request refused at its form has an empty body. -/
theorem State.formBody_of_ne (s : State) {row : RequestRow} (h : row ≠ .commit) : s.formBody row = [] := by
  simp [State.formBody, h]

/-- A request of the row that fails a form check is answered with the check's status and the body of such a refusal. -/
theorem State.take_of_form {s : State} {p : Port} {row : RequestRow} {r : Request} {st : Status} (h : s.mayTake p r)
    (hr : requestRow r = row) (hf : formCheck r = some st) (handler : Port → Request → State → State × Reply) :
    s.take p row handler = .next ((s.dequeue p).respond p r ⟨st, s.formBody row⟩) := by
  obtain ⟨h1, h2, h3⟩ := h
  unfold State.take
  rw [State.running_of_not_reset h1]
  cases hq : (s.ports.get p).requests with
  | nil => simp [hq] at h2
  | cons a l =>
    simp only [hq, List.head?_cons, Option.some.injEq] at h2
    subst h2
    simp [h3, hr, State.judge, hf]

/-- An answer changes its port's response queue and the lease, and nothing else. -/
theorem State.respond_frame (s : State) (p : Port) (r : Request) (a : Reply) :
    ∃ (lease : Option Nat) (rs : List Response), s.respond p r a
      = { s with ports := s.ports.set p { s.ports.get p with responses := rs }
                 arbiter := { s.arbiter with lease := lease } } := by
  unfold State.respond State.renewLease
  dsimp only
  have hset : s.ports.set p (s.ports.get p) = s.ports := PerPort.set_get _ _
  split <;> split
  · exact ⟨s.freshLease, (s.ports.get p).responses, by rw [hset]; rfl⟩
  · exact ⟨s.arbiter.lease, (s.ports.get p).responses, by rw [hset]⟩
  · exact ⟨s.freshLease, _, rfl⟩
  · exact ⟨s.arbiter.lease, _, rfl⟩

/-! ### Authority -/

/-- The holder passes the authority check. -/
theorem State.authorityRefusal_of_holder {s : State} {p : Port} (h : s.holder p) : s.authorityRefusal p = none := by
  unfold State.holder Authority.holder at h
  unfold State.authorityRefusal
  split at h <;> simp_all

/-- Another port does not, and the refusal is one of two. -/
theorem State.authorityRefusal_of_not_holder {s : State} {p : Port} (h : ¬ s.holder p) :
    s.authorityRefusal p = some (if s.arbiter.authority = .contested then ⟨.contested, s.authorityView⟩
      else ⟨.notAuthority, s.authorityBrief⟩) := by
  unfold State.holder Authority.holder at h
  unfold State.authorityRefusal
  split at h <;> simp_all

/-! ### Counters and sources -/

/-- A count changes the Counter Bank and, through its notice, the ring. -/
theorem State.count_frame (s : State) (k : SlotKind) (i : SlotIx) :
    ∃ c r, s.count k i = { s with counters := c, ring := r } := by
  unfold State.count State.noticeHigh
  split
  · split
    · exact ⟨_, _, rfl⟩
    · exact ⟨_, s.ring, rfl⟩
  · exact ⟨s.counters, s.ring, rfl⟩

/-- The composite overload count changes the Counter Bank and the ring. -/
theorem State.countOverload_frame (s : State) : ∃ c r, s.countOverload = { s with counters := c, ring := r } := by
  unfold State.countOverload State.noticeHigh
  split
  · split
    · exact ⟨_, _, rfl⟩
    · exact ⟨_, s.ring, rfl⟩
  · exact ⟨s.counters, s.ring, rfl⟩

/-- The composite clip count changes the Counter Bank and the ring. -/
theorem State.countClip_frame (s : State) : ∃ c r, s.countClip = { s with counters := c, ring := r } := by
  unfold State.countClip State.noticeHigh
  split
  · split
    · exact ⟨_, _, rfl⟩
    · exact ⟨_, s.ring, rfl⟩
  · exact ⟨s.counters, s.ring, rfl⟩

/-- A change of source changes the slot's extraction alone. -/
theorem State.selectSource_frame (s : State) (i : SlotIx) (src : Source) :
    ∃ x, s.selectSource i src = { s with extractions := s.extractions.set i x } := ⟨_, rfl⟩

/-- A flip changes the slot's extraction, the Counter Bank and the ring. -/
theorem State.flipSource_frame (s : State) (i : SlotIx) (cause : Cause) :
    ∃ x c r, s.flipSource i cause = { s with extractions := x, counters := c, ring := r } := by
  unfold State.flipSource
  split
  · obtain ⟨c, r, h⟩ := s.count_frame .switches i
    simp only [h]
    exact ⟨_, c, _, rfl⟩
  · exact ⟨s.extractions, s.counters, s.ring, rfl⟩

/-- A loss of carrier changes slots, extractions, the Counter Bank and the ring. -/
theorem State.loseCarrier_frame (s : State) (i : SlotIx) (cause : Cause) :
    ∃ sl x c r, s.loseCarrier i cause = { s with slots := sl, extractions := x, counters := c, ring := r } := by
  unfold State.loseCarrier
  obtain ⟨c, r, h⟩ := (s.modSlot i fun x => { x with state := .muted, ramp := none, hold := none }).count_frame .losses i
  dsimp only
  rw [h]
  obtain ⟨x', c', r', h'⟩ := State.flipSource_frame (State.write _ _) i .loss
  rw [h']
  exact ⟨_, x', c', r', rfl⟩

/-! ### Allocation runs -/

/-- A slot's action on its grant changes slots, grants and the ring. -/
theorem State.deliver_frame (raise : Bool) (before : PerSlot GrantRec) (s : State) (i : SlotIx) :
    ∃ sl tb r, State.deliver raise before s i
      = { s with slots := sl, alloc := { s.alloc with table := tb }, ring := r } := by
  unfold State.deliver
  dsimp only
  split
  · split
    · split
      · exact ⟨_, s.alloc.table, s.ring, rfl⟩
      · exact ⟨_, _, _, rfl⟩
    · exact ⟨s.slots, s.alloc.table, s.ring, rfl⟩
  · split
    · exact ⟨_, s.alloc.table, _, rfl⟩
    · exact ⟨s.slots, s.alloc.table, s.ring, rfl⟩
  all_goals first
    | exact ⟨s.slots, s.alloc.table, s.ring, rfl⟩
    | (split
       · first | exact ⟨_, _, s.ring, rfl⟩ | exact ⟨_, _, _, rfl⟩
       · exact ⟨_, s.alloc.table, s.ring, rfl⟩)

/-- The delivery of a run, over any slots, changes slots, grants and the ring. -/
theorem State.deliverList_frame (raise : Bool) (before : PerSlot GrantRec) (l : List SlotIx) (s : State) :
    ∃ sl tb r, l.foldl (State.deliver raise before) s
      = { s with slots := sl, alloc := { s.alloc with table := tb }, ring := r } := by
  induction l generalizing s with
  | nil => exact ⟨s.slots, s.alloc.table, s.ring, rfl⟩
  | cons i l ih =>
    obtain ⟨sl, tb, r, h⟩ := State.deliver_frame raise before s i
    obtain ⟨sl', tb', r', h'⟩ := ih (State.deliver raise before s i)
    refine ⟨sl', tb', r', ?_⟩
    rw [List.foldl_cons, h', h]

/-- A run changes slots, grants and the ring. -/
theorem State.run_frame (s : State) (raise : Bool) :
    ∃ sl tb r, s.run raise = { s with slots := sl, alloc := { s.alloc with table := tb }, ring := r } := by
  obtain ⟨sl, tb, r, h⟩ := State.deliverList_frame raise s.alloc.table allSlots
    (s.modAlloc fun a => { a with table := s.runTable raise })
  exact ⟨sl, tb, r, by unfold State.run State.deliverAll; rw [h]; rfl⟩

/-- An event that starts a run changes slots, grants, the pending run and the ring. -/
theorem State.startRun_frame (s : State) :
    ∃ sl tb b r, s.startRun
      = { s with slots := sl, alloc := { s.alloc with table := tb, pendingRun := b }, ring := r } := by
  unfold State.startRun
  split
  · exact ⟨s.slots, s.alloc.table, true, s.ring, rfl⟩
  · obtain ⟨sl, tb, r, h⟩ := s.run_frame false
    exact ⟨sl, tb, s.alloc.pendingRun, r, h⟩

/-- A release with a raise changes slots, grants, the hold, the pending run and the ring. -/
theorem State.releaseWithRaise_frame (s : State) :
    ∃ sl tb h b r, s.releaseWithRaise
      = { s with slots := sl, alloc := { s.alloc with table := tb, held := h, pendingRun := b }, ring := r } := by
  unfold State.releaseWithRaise
  split
  · obtain ⟨sl, tb, r, h⟩ := (s.modAlloc fun a => { a with held := false, pendingRun := false }).run_frame true
    exact ⟨sl, tb, false, false, r, h⟩
  · exact ⟨s.slots, s.alloc.table, s.alloc.held, s.alloc.pendingRun, s.ring, rfl⟩

/-- A release without a raise changes slots, grants, the hold, the pending run and the ring. -/
theorem State.releaseWithoutRaise_frame (s : State) :
    ∃ sl tb h b r, s.releaseWithoutRaise
      = { s with slots := sl, alloc := { s.alloc with table := tb, held := h, pendingRun := b }, ring := r } := by
  unfold State.releaseWithoutRaise
  dsimp only
  split
  · split
    · obtain ⟨sl, tb, r, h⟩ := (s.modAlloc fun a => { a with held := false, pendingRun := false }).run_frame false
      exact ⟨sl, tb, false, false, r, h⟩
    · exact ⟨s.slots, s.alloc.table, false, false, s.ring, rfl⟩
  · exact ⟨s.slots, s.alloc.table, s.alloc.held, s.alloc.pendingRun, s.ring, rfl⟩

/-- A revived slot changes slots, extractions, grants, the pending run and the ring. -/
theorem State.reviveSlot_frame (s : State) (i : SlotIx) (port : Option Port) (tag : Option Byte) (cause : Cause) :
    ∃ sl x tb b r, s.reviveSlot i port tag cause
      = { s with slots := sl, extractions := x, alloc := { s.alloc with table := tb, pendingRun := b }, ring := r } := by
  unfold State.reviveSlot
  dsimp only
  obtain ⟨sl, tb, b, r, h⟩ := State.startRun_frame (State.releaseGrant (State.modSlot _ i _) i)
  rw [h]
  exact ⟨sl, _, tb, b, _, rfl⟩

/-- A failing slot changes slots, grants, the pending run and the ring. -/
theorem State.enterFailed_frame (s : State) (i : SlotIx) :
    ∃ sl tb b r, s.enterFailed i
      = { s with slots := sl, alloc := { s.alloc with table := tb, pendingRun := b }, ring := r } := by
  unfold State.enterFailed
  obtain ⟨sl, tb, b, r, h⟩ := State.startRun_frame (State.write (State.releaseGrant (State.modSlot s i _) i) _)
  rw [h]
  exact ⟨sl, tb, b, r, rfl⟩

/-! ### The idle step and the signal path -/

/-- A part in reset that is left alone only counts the sample clock. -/
theorem State.idle_of_reset {s : State} (h : s.inReset = true) : s.idle = { s with sampleClock := s.sampleClock + 1 } := by
  simp [State.idle, h]

/-- A running part that owes events puts the first of them into the queue. -/
theorem State.idle_of_due {s : State} {c : Instr} {rest : List Instr} (h : s.inReset = false) (hd : s.due = c :: rest) :
    s.idle = { s with pending := [c] } := by
  simp [State.idle, h, hd]

/-- A running part that owes none takes a sample period. -/
theorem State.idle_of_none {s : State} (h : s.inReset = false) (hd : s.due = []) :
    s.idle = { s.samplePeriod with sampleClock := s.sampleClock + 1 } := by
  simp [State.idle, h, hd]

/-- Silence stays silence at every angle (R15). -/
@[simp] theorem rotate_zero (acc : Word) : rotate .zero acc = .zero := by
  simp [rotate, complexMul, Sample.zero]

/-- The unit complex number at a quarter turn is exact: no free rest joins it. -/
theorem unitComplex_of_quarter {acc : Word} (h : acc.toNat % 2 ^ 30 = 0) :
    unitComplex acc = quarterTurns (acc.toNat / 2 ^ 30) ⟨1, 0⟩ := by
  unfold unitComplex quarterUnit
  rw [if_pos h]

/-- So is the filter's unit complex number at a quarter turn. -/
theorem turnUnit_of_quarter {k : Nat} (h : k % 4000 = 0) : turnUnit k = quarterTurns (k % 16000 / 4000) ⟨1, 0⟩ := by
  unfold turnUnit
  rw [if_pos h]

/-- The filter never holds more than the samples of a settling period. -/
theorem Extraction.filtered_length_le (x : Extraction) (rx : Sample) :
    (x.filtered rx).length ≤ Config.settlingSamples := List.length_take_le _ _

/-- All that a sample period can do to an extraction: a tuned one has its phase, filter, settling and accumulation moved
on, an idle one stays. -/
theorem Extraction.sample_cases (x : Extraction) (rx : Sample) :
    (x.tuned = false ∧ x.sample rx = x)
    ∨ (x.tuned = true ∧ x.sample rx =
      { x with phase := x.phase + x.word, history := x.filtered rx, settling := x.settling.map fun n => n - 1
               accum := if x.settling.isNone then
                 accumJoin x.accum ⟨(channelFilter x.bwClass (x.filtered rx)).power, 1⟩ else x.accum }) := by
  cases h : x.tuned <;> simp [Extraction.sample, Extraction.output, h]

/-- All that an expiry's measuring can do to an extraction: a tuned one with settled samples records their level and clears
its accumulation, every other one stays. -/
theorem Extraction.measured_cases (x : Extraction) :
    (x.tuned = true ∧ 0 < x.accum.count ∧ x.measurement = some (accumLevel x.accum, x.source)
      ∧ x.measured = { x with lastLevel := accumLevel x.accum, accum := .empty })
    ∨ (¬ (x.tuned = true ∧ 0 < x.accum.count) ∧ x.measurement = none ∧ x.measured = x) := by
  by_cases h : x.tuned = true ∧ 0 < x.accum.count
  · left; simp [Extraction.measured, Extraction.measurement, h.1, h.2]
  · have hm : x.measurement = none := by simpa [Extraction.measurement] using h
    exact .inr ⟨h, hm, by rw [Extraction.measured, hm]⟩

/-- `greatest` stays within the numbers it searches. -/
theorem greatest_bounds (p : Nat → Bool) (n a : Nat) : a ≤ greatest p n a ∧ greatest p n a < a + 2 ^ n := by
  induction n generalizing a with
  | zero => simp [greatest]
  | succ n ih =>
    have h1 := ih (a + 2 ^ n)
    have h2 := ih a
    have h3 : 2 ^ (n + 1) = 2 ^ n + 2 ^ n := by rw [pow_succ]; omega
    unfold greatest
    split <;> omega

/-- The predicate holds at what `greatest` finds, when it holds at the start. -/
theorem greatest_holds (p : Nat → Bool) (n a : Nat) (h : p a = true) : p (greatest p n a) = true := by
  induction n generalizing a with
  | zero => simpa [greatest] using h
  | succ n ih =>
    unfold greatest
    split
    · exact ih _ ‹_›
    · exact ih _ h

/-- Beyond what `greatest` finds the predicate fails, up to the end of the search, when it never holds again after failing
once. -/
theorem greatest_fails (p : Nat → Bool) (hp : ∀ x y, x ≤ y → p y = true → p x = true) (n a y : Nat)
    (hy : greatest p n a < y) (he : y < a + 2 ^ n) : p y = false := by
  induction n generalizing a with
  | zero => simp [greatest] at hy; omega
  | succ n ih =>
    have h3 : 2 ^ (n + 1) = 2 ^ n + 2 ^ n := by rw [pow_succ]; omega
    unfold greatest at hy
    split at hy
    · exact ih _ hy (by omega)
    · rename_i hn
      by_cases hlt : y < a + 2 ^ n
      · exact ih _ hy hlt
      · by_contra hc
        exact hn (hp _ y (by omega) (by simpa using hc))

/-! ### Lists of slots -/

/-- Orders that each change one slot's item, by its own value and while `P` holds, change the items of the slots ordered
and no others. -/
theorem foldl_get {α : Type} (P : State → Prop) (get : State → SlotIx → α) (f : State → SlotIx → State)
    (g : SlotIx → α → α) (hP : ∀ s i, P s → P (f s i)) (hself : ∀ s i, P s → get (f s i) i = g i (get s i))
    (hother : ∀ s i j, P s → j ≠ i → get (f s i) j = get s j) (l : List SlotIx) (hl : l.Nodup) (s : State) (hs : P s)
    (j : SlotIx) : get (l.foldl f s) j = if j ∈ l then g j (get s j) else get s j := by
  induction l generalizing s with
  | nil => simp
  | cons i l ih =>
    obtain ⟨hi, hl⟩ := List.nodup_cons.mp hl
    rw [List.foldl_cons, ih hl _ (hP s i hs)]
    by_cases hj : j = i
    · subst hj
      simp [hi, hself s j hs]
    · simp [hj, hother s i j hs hj]

/-- A property that one order keeps is kept by the orders to any slots. -/
theorem foldl_keeps {α : Type} (P : State → Prop) (f : State → α → State) (hf : ∀ s a, P s → P (f s a)) (l : List α)
    (s : State) (h : P s) : P (l.foldl f s) := by
  induction l generalizing s with
  | nil => exact h
  | cons a l ih => exact ih _ (hf s a h)

/-! ### Reading the boot pages -/

/-- Marking a page changes pages alone. -/
theorem Memory.markCorrupt_frame (m : Memory) (pg : Option PageIx) (r : TryResult) :
    m.markCorrupt pg r = { m with pages := (m.markCorrupt pg r).pages } := by
  unfold Memory.markCorrupt; split
  · rfl
  · split <;> rfl

/-- Marking makes the page of a trial that came to CORRUPT a CORRUPT one, and leaves every other page. -/
theorem Memory.markCorrupt_pages (m : Memory) (pg : Option PageIx) (r : TryResult) (i : PageIx) :
    (m.markCorrupt pg r).pages[i]
      = if pg = some i ∧ r = .corrupt then { m.pages[i] with state := .corrupt } else m.pages[i] := by
  cases pg with
  | none => simp [Memory.markCorrupt]
  | some g =>
    by_cases h : r = .corrupt <;> by_cases e : g = i <;> simp_all [Memory.markCorrupt]
    exact Vector.getElem_set_ne _ _ fun h => e (Fin.ext h)

/-- All that a sample period can do to Plan Memory: time passes, and a read of the boot pages may go on to its next
item. -/
theorem State.memoryPeriod_cases (s : State) :
    s.memoryPeriod = { s.memory with opElapsed := s.memory.opElapsed + 1 }
    ∨ ∃ op next, s.memory.op = some op ∧ op.readItem.bind (s.memory.nextItem (s.readsIntact 0)) = some next
      ∧ s.itemEnds op = true
      ∧ s.memoryPeriod
        = { s.memory.readOn (s.readsIntact 0) op next with opElapsed := s.memory.opElapsed + 1 } := by
  unfold State.memoryPeriod
  cases h : s.memory.op with
  | none => exact .inl rfl
  | some op =>
    cases e : op.readItem.bind (s.memory.nextItem (s.readsIntact 0)) with
    | none => simp [e]
    | some next =>
      by_cases g : s.itemEnds op = true
      · exact .inr ⟨op, next, rfl, e, g, by simp [e, g]⟩
      · exact .inl (by simp [e, g])

end Sys2Proof.Machine
end

