-- ==== Sys2Proof/WellFormed.lean ====
section
/-! DEFINITION. Which commands can arrive: the checks on their operands that the manual's encodings make. `exec` is
total all the same. -/

namespace Sys2Proof

/-- A request frame's body has at most 256 bytes (R175); a longer one is `bodyLengthAbove256` (R137). -/
def Frame.wf (f : Frame) : Bool := f.body.length ≤ 256

/-- A length field above 256 that sixteen bits can hold (R137, R175). -/
def longLengthWf (n : Nat) : Bool := 256 < n && n < 65536

/-- No action of a level interval expiry is named twice in its order (R17). -/
def turnsWf (order : List Turn) : Bool := decide order.Nodup

/-- A command whose operands the manual admits. -/
def Instr.wf : Instr → Bool
  | .requestFrame _ f => f.wf
  | .bodyLengthAbove256 _ n => longLengthWf n
  | .levelIntervalExpiry order => turnsWf order
  | .deviceReset _ | .resetEnd | .interlockAsserted | .interlockReleased
  | .transferBegin _ | .transferEnd _ | .responseShiftedOut _ | .identify _ | .statusRead _ | .nop _
  | .portClear _ | .claimNormal _ | .claimForce _ | .release _ | .flagsWrite _ | .planRead _
  | .trimLevel _ | .trimFrequency _ | .slotRead _ | .revive _ | .budgetRead _ | .draftCopy _
  | .draftPutEntry _ | .draftPutHeader _ | .draftClear _ | .draftGet _ | .commit _ | .pageStore _
  | .pageLoad _ | .pageErase _ | .pageInfo _ | .bootSet _ | .bootRead _ | .reload _
  | .counterControl _ | .counterRead _ | .eventRead _ | .unknownRequest _
  | .settlingComplete _ | .holdTimerExpiry _ | .reacquireTimerExpiry _ | .riseCompletion _ | .fallCompletion _
  | .resumingRampCompletion | .leaseExpiry | .contestTimerExpiry | .forceWindowExpiry
  | .storeEraseDone | .storeProgramDone | .storeVerifyDone _ | .pageEraseDone | .pageLoadReadDone _
  | .bootWriteDone _ | .startUpReadEnd _ _ | .reloadReadEnd _ _ | .startByte _ => true

end Sys2Proof
end

