-- ==== Sys2Proof/Tests/Slice0.lean ====
section
/-! SUPPORT. The model's own tests: the WellFormed smoke, the manual's worked figures, one step of each family, and for
every statement with hypotheses a witness that meets them. -/

namespace Sys2Proof.Machine.Tests

/-! The theorems are elaborated one after another: in parallel, their kernel evaluations take a thread and a stack each. -/
set_option Elab.async false

/-! ### Small states -/

/-- Running, READY, the Allocator free, Port A holding by CLAIM. -/
def up : State :=
  { State.reset with
    inReset := false
    ctl := { Controller.reset with state := .ready, generation := 20 }
    alloc := { Allocator.reset with held := false }
    arbiter := { Arbiter.reset with authority := .held .a .claim, lease := some 800000000 } }

/-- A request with tag 7 and no flags. -/
def req (code : Byte) (body : List Byte) : Request := ⟨7, code, 0, body⟩

/-- The state with one request waiting on a port. -/
def ask (s : State) (p : Port) (code : Byte) (body : List Byte) : State :=
  s.modPort p fun x => { x with requests := [req code body] }

/-- The state a command leaves. -/
def after (c : Instr) (s : State) : State :=
  match exec c s with
  | .next t => t
  | .fault _ => s
  | .refused _ => s

/-- The status and body of the last response of a port. -/
def answer (s : State) (p : Port) : Option (Status × List Byte) :=
  (s.ports.get p).responses.getLast?.map fun r => (r.status, r.body)

/-- The kinds of the events held, oldest first. -/
def kinds (s : State) : List EventKind := s.ring.entries.map fun e => e.notice.kind

/-- The entry of slot s0 of the placement example of spec/01_channel_translation.md. -/
def entry0 : Entry :=
  { Entry.default with
    enabled := true, rxKhz := 612500, txKhz := 692700, altRxKhz := some 598000, bwClass := 2, share := 300
    priority := 0 }

/-- The header of that example. -/
def header0 : Header := { Header.default with rxCentre := 600000, txCentre := 700000 }

/-- A plan with that one channel. -/
def plan0 : Plan := ⟨header0, (Vector.replicate 16 Entry.default).set 0 entry0⟩

/-- The state running that plan. -/
def run0 : State := { up with ctl := { up.ctl with active := plan0 } }

/-- A slot of that plan in a state. -/
def slotIn (st : SlotState) : Slot := { Slot.reset with state := st, inUse := entry0.inUse, gain := 90, endGain := 100 }

/-- `run0` with slot 0 in a state, a grant of 300 and a target of −13. -/
def with0 (x : Slot) (grant : Nat) : State :=
  { run0 with
    slots := run0.slots.set 0 x
    extractions := run0.extractions.set 0 { Extraction.reset with
      tuned := true, offset := 12500, word := 335544320, bwClass := 2, centre := 600000, lastLevel := -110 }
    placements := run0.placements.set 0 ⟨true, -7300, tuningWord (-7300), 5⟩
    alloc := { run0.alloc with table := run0.alloc.table.set 0 ⟨grant, targetOf (-2) grant, 300⟩ } }

/-- A page holding a plan. -/
def page (pl : Plan) : Page := ⟨.valid, some ⟨pl, crc32 pl.imageBytes⟩, 5⟩

/-- `up` with an operation in progress. -/
def busy (op : EngineOp) : State := { up with memory := { up.memory with op := some op } }

/-! ### WellFormed: each check refuses an ill-formed term -/

theorem test_wf_body_too_long : (Instr.requestFrame .a ⟨0, 3, 0, List.replicate 257 0, 0⟩).wf = false := by decide +kernel
theorem test_wf_body_longest : (Instr.requestFrame .a ⟨0, 3, 0, List.replicate 256 0, 0⟩).wf = true := by decide +kernel
theorem test_wf_length_not_long : (Instr.bodyLengthAbove256 .a 256).wf = false := by decide
theorem test_wf_length_too_long : (Instr.bodyLengthAbove256 .a 65536).wf = false := by decide
theorem test_wf_length_ok : (Instr.bodyLengthAbove256 .a 257).wf = true := by decide
theorem test_wf_turn_twice : (Instr.levelIntervalExpiry [.combiner, .judge 3, .combiner]).wf = false := by decide +kernel
theorem test_wf_turns : (Instr.levelIntervalExpiry [.judge 15, .holdOut 15, .combiner]).wf = true := by decide +kernel

/-! ### The manual's figures -/

/-- Tuning words of spec/01_channel_translation.md, "Tuning words worked through". -/
theorem test_tuning_words :
    [12500, -2000, -7300, -7260, 0, 72000].map tuningWord
      = [0x14000000, 0xFCCCCCCD, 0xF451EB85, 0xF4624DD3, 0, 0x73333333] := by decide +kernel

/-- The band edge of R4. -/
theorem test_band_edge :
    [672000, 528000, 672001, 527999].map (fun f => bandTest f 600000 8000) = [true, true, false, false] := by decide

/-- The spacing of s0 and s1, and after moves of +40, +60 and −100 kHz. -/
theorem test_spacing :
    [692700, 692740, 692760, 692600].map (fun f => spacingTest f 700000 6000 8000 250) = [true, true, false, true] := by
  decide

/-- The table of R18 (10^−5.5 apart, which is no fraction). -/
theorem test_levels :
    [1, 1/100, 99/10000, 32/10000000, 1/100000000000, 0].map levelOfPower = [0, -40, -41, -110, -200, -200] := by
  decide +kernel

/-- The table of R70. -/
theorem test_grant_terms :
    [1024, 768, 512, 300, 256, 224, 200, 100, 64, 1].map grantDrop = [0, 2, 6, 11, 12, 13, 14, 20, 24, 60] := by
  decide +kernel

/-- "Allocation worked through" of spec/04: five claimants, E 1,024, ceiling −2. -/
def allocPlan : Plan :=
  let e (pr : Fin 4) (sh : Nat) : Entry := { Entry.default with enabled := true, priority := pr, share := sh }
  ⟨Header.default, ((((((Vector.replicate 16 Entry.default).set 0 (e 0 300)).set 1 (e 0 200)).set 2 (e 1 400)).set 3
    (e 1 300)).set 4 (e 2 200))⟩

/-- The example's slots, ON or DEFERRED. -/
def allocState : State :=
  { up with
    ctl := { up.ctl with active := allocPlan }
    slots := ((((up.slots.set 0 (slotIn .on)).set 1 (slotIn .on)).set 2 (slotIn .on)).set 3 (slotIn .on)).set 4
      (slotIn .deferred) }

theorem test_allocation_grants :
    [0, 1, 2, 3, 4].map (allocState.runGrant false) = [300, 200, 300, 224, 0] := by decide +kernel

theorem test_allocation_after_failure :
    [0, 1, 2, 3, 4].map (State.runGrant { allocState with slots := allocState.slots.set 2 (slotIn .failed) } false)
      = [300, 200, 0, 300, 200] := by decide +kernel

/-- "Level loop worked through": T −15, gain 90, input −110 gives 94; deadband; slew down. -/
theorem test_level_loop : loopGain (-15 - (-110 + 90)) 90 = 94 ∧ loopGain (-15 - (-110 + 94)) 94 = 94
    ∧ loopGain (-22 - (-104 + 87)) 87 = 83 ∧ loopGain (-15 - (-104 + 87)) 87 = 89 := by decide

/-- The check value of the CRC-16 with these parameters over "123456789" (general knowledge of the code). -/
theorem test_crc16 : crc16 [0x31, 0x32, 0x33, 0x34, 0x35, 0x36, 0x37, 0x38, 0x39] = 0x29B1 := by decide +kernel

/-- The check value of the CRC-32 with these parameters over "123456789" (general knowledge of the code). -/
theorem test_crc32 : crc32 [0x31, 0x32, 0x33, 0x34, 0x35, 0x36, 0x37, 0x38, 0x39] = 0xFC891918 := by decide +kernel

/-- Clamps of R177: share 65,535, ceiling −128, lease 300. -/
theorem test_clamps : clampInt (-40) 0 (-128) = -40 ∧ clampLease 300 = 500 ∧ clampLease 0 = 0 ∧ min 1024 65535 = 1024 := by
  decide

theorem test_generation_wraps : nextGeneration 65535 = 1 ∧ nextGeneration 0 = 1 := by decide
theorem test_default_plan_valid : Plan.default.valid = true := by decide +kernel
theorem test_example_plan_valid : plan0.valid = true := by decide +kernel

/-- "Validation worked through": ALT_SAME of s3 in the second commit. -/
theorem test_alt_same :
    (Plan.report ⟨header0, plan0.entries.set 3 { Entry.default with
      enabled := true, bwClass := 1, rxKhz := 660000, txKhz := 705100, altRxKhz := some 660000 }⟩)
      = some ⟨.altSame, 3, none⟩ := by decide +kernel

/-- The default plan with one entry enabled fails as RX_BAND (R26). -/
theorem test_default_enabled :
    (Plan.report ⟨Header.default, Plan.default.entries.set 4 { Entry.default with enabled := true }⟩)
      = some ⟨.rxBand, 4, none⟩ := by decide +kernel

/-! ### One step of each family -/

theorem test_interlock : let t := after .interlockAsserted up
    t.combiner.state = .interlocked ∧ kinds t = [.interlock] ∧ (after .interlockReleased t).combiner.state = .resuming := by
  decide +kernel
theorem test_reset_end : (after .resetEnd State.reset).memory.op = some (.startUpRead .record) := by decide +kernel
theorem test_start_up_without_record :
    let t := after (.startUpReadEnd true true) (after .resetEnd State.reset)
    t.ctl.state = .ready ∧ t.ctl.generation = 0 ∧ t.alloc.held = false ∧ kinds t = [.started] := by decide +kernel
theorem test_request_frame_taken :
    let s := after (.startByte .a) (after (.transferBegin .a) up)
    let t := after (.requestFrame .a ⟨9, 1, 0, [], crc16 [9, 1, 0, 0, 0]⟩) s
    (t.ports.a.requests.map fun r => r.tag) = [9] ∧ t.ports.a.receive = .ignoring := by decide +kernel
theorem test_bad_frame :
    let s := after (.startByte .a) (after (.transferBegin .a) up)
    let t := after (.requestFrame .a ⟨9, 1, 0, [], crc16 [9, 1, 0, 0, 0] + 1⟩) s
    t.ports.a.badFrames = 1 ∧ t.ports.a.responses = [⟨255, 0, .badFrame, []⟩] := by decide +kernel
theorem test_claim_other : answer (after (.claimNormal .b) (ask up .b 0x10 [0])) .b
    = some (.heldByOther, [1, 0, 0, 0, 0, 0x13, 0x88, 0xFF, 0xFF, 0xFF, 0xFF]) := by decide +kernel
theorem test_force_then_contest :
    let t := after (.claimForce .b) (ask up .b 0x10 [1])
    t.arbiter.authority = .held .b .force
      ∧ (after (.claimForce .a) (ask t .a 0x10 [1])).arbiter.authority = .contested := by decide +kernel
theorem test_lapse : kinds (after .leaseExpiry up) = [.authority] ∧ (after .leaseExpiry up).arbiter.authority = .open := by
  decide +kernel
/-- "Trims worked through": +60 kHz breaks the spacing to s1, +40 kHz does not. -/
def trimState : State :=
  { run0 with ctl := { run0.ctl with active := ⟨header0, plan0.entries.set 1
      { Entry.default with enabled := true, bwClass := 3, rxKhz := 612500, txKhz := 700000 }⟩ } }
theorem test_trim_refused : answer (after (.trimFrequency .a) (ask trimState .a 0x22 [0, 60])) .a
    = some (.invalidPlan, [0, 20, 5, 0, 1]) := by decide +kernel
theorem test_trim_taken : answer (after (.trimFrequency .a) (ask trimState .a 0x22 [0, 40])) .a
    = some (.ok, [0, 21, 0, 10, 0x92, 0x04]) := by decide +kernel
theorem test_trim_level_clamps : answer (after (.trimLevel .a) (ask run0 .a 0x21 [0, 0x04, 0x00])) .a
    = some (.okClamped, [0, 21, 0x04, 0x00]) := by decide +kernel
theorem test_hold_entered : (State.takeMeasurement (with0 (slotIn .on) 300) 0 (some (-170, .primary))).slots[0].hold
    = some 80000000 := by decide +kernel
theorem test_hold_expiry :
    let t := after (.holdTimerExpiry 0) (with0 { slotIn .hold with hold := some 0 } 300)
    t.slots[0].state = .muted ∧ t.extractions[0].source = .alternate ∧ t.extractions[0].word = 0xFCCCCCCD
      ∧ kinds t = [.slotLost, .sourceSwitched] := by decide +kernel
theorem test_reacquire_fails :
    let t := after (.reacquireTimerExpiry 0) (with0 { slotIn .muted with reacquire := some 0, attempts := 2 } 300)
    t.slots[0].state = .failed ∧ t.alloc.table[0].grant = 0 ∧ kinds t = [.slotFailed] := by decide +kernel
theorem test_revive : answer (after (.revive .a) (ask (with0 (slotIn .failed) 0) .a 0x31 [0])) .a = some (.ok, [5]) := by
  decide +kernel
theorem test_commit_of_default_drains :
    let t := after (.commit .a) (ask (with0 (slotIn .on) 300) .a 0x45 [])
    answer t .a = some (.ok, [0, 21, 3, 1, 0]) ∧ t.slots[0].state = .falling ∧ kinds t = [.commitBegun]
      ∧ kinds (after (.fallCompletion 0) t) = [.commitBegun, .commitDone] := by decide +kernel
/-- R100, R107: a first commit over the default plan has nothing to fall, so the raise lies in the acceptance. -/
theorem test_first_commit_raises_at_once :
    let t := after (.commit .a) (ask { up with drafts := ⟨⟨plan0, none⟩, Draft.reset⟩ } .a 0x45 [])
    answer t .a = some (.ok, [0, 21, 1, 1, 0]) ∧ t.slots[0].state = .rising ∧ t.alloc.table[0].grant = 300
      ∧ t.placements[0].tuned = true ∧ kinds t = [.commitBegun, .commitDone] := by decide +kernel
theorem test_page_store : answer (after (.pageStore .a) (ask up .a 0x50 [5, 1])) .a = some (.ok, [5, 0, 0, 0, 0]) := by
  decide +kernel
theorem test_counter_notice :
    let s : State := { up with counters := { up.counters with
      slots := up.counters.slots.set 2 ⟨49151, 0, 0, 0, 0, 0⟩ } }
    kinds (s.count .dips 2) = [.counterHigh] ∧ (s.count .dips 2).counters.slots[2].dips = 49152 := by decide +kernel
theorem test_overload_steps_down :
    let s : State := { run0 with
      combiner := { run0.combiner with lastLevel := 0 }
      ctl := { run0.ctl with active := ⟨{ header0 with ceiling := -10 }, plan0.entries⟩ }
      alloc := { run0.alloc with overloadRun := 2 } }
    s.judgeInterval.alloc.pool = 960 ∧ s.judgeInterval.alloc.overloadRun = 0 := by decide +kernel
theorem test_event_read_nothing : answer (after (.eventRead .a) (ask up .a 0x62 [8])) .a = some (.ok, [0, 0, 0]) := by
  decide +kernel
theorem test_put_entry_clamped :
    (answer (after (.draftPutEntry .a) (ask up .a 0x41
      ([0, 0] ++ List.replicate 13 0 ++ [9, 0xFF, 0xFF, 0, 0, 0x10] ++ List.replicate 13 0))) .a).map Prod.fst
      = some .okClamped := by decide +kernel

/-- R98, R176: a COMMIT refused for its flags carries the active generation. -/
theorem test_commit_form_carries_generation :
    answer (after (.commit .a) (up.modPort .a fun x => { x with requests := [⟨7, 0x45, 2, []⟩] })) .a
      = some (.badArgument, [0, 20]) := by decide +kernel
/-- R156: a request of the holder that is taken as the lease runs out renews it, and the expiry does not happen. -/
theorem test_renewed_lease_does_not_lapse :
    let s := ask { up with arbiter := { up.arbiter with lease := some 0 } } .a 3 []
    s.idle.pending = [.nop .a] ∧ (after (.nop .a) s).due = [] := by decide +kernel
/-- R125, R116: a BLANK primary is not read, so the boot record is the only item, and the read has 5 ms. -/
theorem test_blank_primary_is_not_read :
    let m : Memory := { up.memory with boot := some (bootImage 15 none), op := some (.startUpRead .record) }
    (∀ intact, m.nextItem intact .record = none) ∧ EngineOp.limitMs (.startUpRead .record) = 5
      ∧ ({ up with memory := m } : State).enginePage = none := by decide +kernel
/-- R112, R125: a read that goes on to the fallback has found the primary's check not matching (here its image is
missing): the primary is CORRUPT from then on, and the fallback stays VALID. -/
theorem test_mismatch_takes_valid_away_at_once :
    let pages := (up.memory.pages.set 15 ⟨.valid, none, 0⟩).set 14 ⟨.valid, none, 0⟩
    let m : Memory := { up.memory with pages := pages, boot := some (bootImage 15 (some 14)) }
    ∀ intact, m.nextItem intact .primary = some (.fallback true)
      ∧ let t := m.readOn intact (.reloadRead .primary .a 7) (.fallback true)
        t.pages[(15 : PageIx)].state = .corrupt ∧ t.pages[(14 : PageIx)].state = .valid
        ∧ ({ up with memory := t } : State).enginePage = some 14 := by decide +kernel
/-- R17: an expiry takes no sample: placements, filters and the bus stand as the last sample period left them. -/
theorem test_expiry_takes_no_sample :
    let s := with0 (slotIn .on) 300
    let t := after (.levelIntervalExpiry []) s
    t.placements = s.placements ∧ t.extractions[0].history = s.extractions[0].history ∧ t.rxTaken = s.rxTaken
      ∧ t.combiner.bus = s.combiner.bus := by decide +kernel
/-- R79, R85: the clip record is set by a sample beyond full scale, and the expiry clears it. -/
theorem test_clip_record :
    (Combiner.sample up.combiner ⟨3 / 2, 0⟩).clip = true ∧ (Combiner.sample up.combiner ⟨3 / 2, 0⟩).bus = ⟨1, 0⟩
      ∧ (Combiner.sample up.combiner ⟨1, -1⟩).clip = false
      ∧ (after (.levelIntervalExpiry []) { up with combiner := Combiner.sample up.combiner ⟨3 / 2, 0⟩ }).combiner.clip
        = false := by decide +kernel
/-- R80, R82: half way through a resuming ramp the bus carries half of the composite. -/
theorem test_resuming_factor :
    (Combiner.sample { up.combiner with state := .resuming, ramp := some ⟨8, 16⟩ } ⟨1, 1 / 2⟩).bus = ⟨1 / 2, 1 / 4⟩ := by
  decide +kernel
/-- R3, R12: the edges of the passbands, ±100, ±768, ±3,000 and ±4,000 kHz, pass whole; the filters are symmetric. -/
theorem test_passband :
    [edgeBin 0, edgeBin 1, edgeBin 2, edgeBin 3] = [10, 77, 300, 400]
      ∧ filterShape 1 77 = 1 ∧ filterShape 1 81 = 0 ∧ filterShape 3 400 = 1 ∧ filterShape 3 404 = 0
      ∧ (filterBins 0).head? = some (-13) ∧ (filterBins 0).getLast? = some 13
      ∧ turnUnit 4000 = ⟨0, 1⟩ ∧ turnUnit 8000 = ⟨-1, 0⟩ := by decide +kernel
/-- An eighth of a turn as a power of a 16,000th: √½ to 24 places. -/
theorem test_turn_step :
    let z := Phasor.pow 12 Phasor.step 2000
    (z.c * z.c - 2 ^ 255).natAbs * 10 ^ 24 < 2 ^ 255 ∧ (z.s * z.s - 2 ^ 255).natAbs * 10 ^ 24 < 2 ^ 255 := by decide +kernel
/-- The cosine and sine of an eighth and of a twelfth of a turn (√½, and √¾ and ½) to 30 places. -/
theorem test_unit_complex :
    let near (x y : Int) : Bool := (x - y).natAbs * 10 ^ 30 < y.natAbs
    let z := Phasor.ofBits 30 (Phasor.half ⟨0, 2 ^ 128⟩) 0x20000000
    let w := Phasor.ofBits 30 (Phasor.half ⟨0, 2 ^ 128⟩) 0x15555555
    near (z.c * z.c) (2 ^ 255) = true ∧ z.c = z.s ∧ (w.s - 2 ^ 127).natAbs * 10 ^ 9 < 2 ^ 128 := by decide +kernel
/-- The table of R14, and 10^(20/40) = √10 = 3.16227766016837933…. -/
theorem test_gain_factors :
    gainFactor (-80) = 1 / 100 ∧ gainFactor 0 = 1 ∧ gainFactor 120 = 1000
      ∧ greatest (fun a => a ^ 40 ≤ 10 ^ (960 + 20)) 84 0 = 3162277660168379331998893 := by decide +kernel

/-- R65, R101: a slot drained for a change of centre alone waits with its difference flag clear (log entry 28). -/
theorem test_difference_flag_of_a_centre_change :
    let s := with0 (slotIn .on) 300
    let p : Plan := ⟨{ header0 with rxCentre := header0.rxCentre + 1 }, plan0.entries⟩
    (s.drainSetFor p)[(0 : SlotIx)] = true ∧ ({ s with ctl := { s.ctl with active := p } } : State).differs 0 = false
      ∧ ({ s with ctl := { s.ctl with active := Plan.default } } : State).differs 0 = true := by decide +kernel

/-! ### Witnesses: concrete states and operands that meet the hypotheses of each statement -/

/-- A port may take this request in this state. -/
abbrev takesIn (s : State) (p : Port) (row : RequestRow) (code : Byte) (body : List Byte) : Prop :=
  (ask s p code body).takes p row (req code body)

/-- `up` with authority as given. -/
def withAuthority (a : Authority) : State := { up with arbiter := { Arbiter.reset with authority := a } }

/-- `up` with Port A's draft. -/
def withDraft (d : Draft) : State := { up with drafts := ⟨d, Draft.reset⟩ }

/-- `up` in a controller state. -/
def inCtl (c : CtlState) : State := { up with ctl := { up.ctl with state := c } }

/-- `up` with page 15 as given. -/
def withPage (x : Page) : State :=
  { up with memory := { up.memory with pages := up.memory.pages.set 15 x } }

/-- `up` with Port A's transfer state as given. -/
def withPort (f : PortState → PortState) : State := up.modPort .a f

/-- A state one step can leave: `up` about to run a command. -/
def about (c : Instr) : State := { up with pending := [c] }

theorem witness_EmptyQueueStepAndSamplePeriod :
    (State.reset.pending = [] ∧ State.reset.inReset = true)
    ∧ ((ask up .a 3 []).pending = [] ∧ (ask up .a 3 []).inReset = false ∧ (ask up .a 3 []).due = [.nop .a])
    ∧ (up.pending = [] ∧ up.inReset = false ∧ up.due = [] ∧ up.combiner.state = .live ∧ up.slots[15].state = .off)
    ∧ ((with0 (slotIn .on) 300).extractions[0].tuned = true ∧ (with0 (slotIn .on) 300).placements[0].tuned = true
      ∧ (with0 (slotIn .on) 300).due = [])
    ∧ (let s := with0 { slotIn .rising with ramp := some ⟨.rising, 0, 9, 0⟩ } 300
       s.due = [] ∧ s.slots[0].state = .rising ∧ s.slots[0].ramp = some ⟨.rising, 0, 9, 0⟩)
    ∧ (let s := with0 { slotIn .falling with ramp := some ⟨.falling, 8, 9, 1⟩ } 0
       s.due = [] ∧ s.slots[0].state = .falling ∧ s.slots[0].ramp = some ⟨.falling, 8, 9, 1⟩)
    ∧ ({ up with combiner := { up.combiner with state := .resuming, ramp := some ⟨8, 9⟩ } } : State).due = []
    ∧ ({ up with combiner := { up.combiner with state := .interlocked } } : State).due = [] := by decide +kernel

/-- A part that owes an event of each kind: what is due holds it, and not before its time. -/
theorem witness_EventsDue :
    (let s := (with0 { slotIn .hold with hold := some 0 } 300).modExtraction 0 fun x => { x with settling := some 0 }
     s.due = [.settlingComplete 0, .holdTimerExpiry 0])
    ∧ (with0 { slotIn .hold with hold := some 1 } 300).due = []
    ∧ (with0 { slotIn .muted with reacquire := some 0 } 300).due = [.reacquireTimerExpiry 0]
    ∧ (with0 { slotIn .rising with ramp := some ⟨.rising, 9, 9, 0⟩ } 300).due = [.riseCompletion 0]
    ∧ (with0 { slotIn .falling with ramp := some ⟨.falling, 9, 9, 1⟩ } 0).due = [.fallCompletion 0]
    ∧ ({ up with combiner := { up.combiner with state := .resuming, ramp := some ⟨9, 9⟩ } } : State).due
      = [.resumingRampCompletion]
    ∧ ({ up with arbiter := { up.arbiter with lease := some 0, forceWindow := some 0 } } : State).due
      = [.leaseExpiry, .forceWindowExpiry]
    ∧ ({ up with arbiter := ⟨.contested, none, none, some 0, ⟨0, 0⟩⟩ } : State).due = [.contestTimerExpiry]
    ∧ ({ busy (.erase 3 .a 1) with memory := { up.memory with op := some (.erase 3 .a 1), opElapsed := 32000000 } }
      : State).due = [.pageEraseDone]
    ∧ ({ up with intervalElapsed := 16000000 } : State).due = [.levelIntervalExpiry []]
    ∧ ({ up with intervalElapsed := 15999999 } : State).due = [] := by decide +kernel
theorem witness_ChannelFilterPassband :
    (with0 (slotIn .on) 300).extractions[0].tuned = true ∧ up.extractions[0].tuned = false
    ∧ widthKhz 1 ≤ 2000 ∧ ([] : List Sample).length < 16000 ∧ 10 * (-76 : Int).natAbs ≤ widthKhz 1 / 2
    ∧ widthKhz 1 / 2 + 40 ≤ 10 * (81 : Int).natAbs := by
  decide +kernel

theorem up_ring_wellFormed : up.ring.WellFormed := by
  unfold Ring.WellFormed Event.Follows; decide +kernel

theorem witness_StepKeepsRanges : (about (.nop .a)).Bounded ∧ ∃ t, step (about (.nop .a)) = .next t :=
  ⟨by decide +kernel, _, rfl⟩
theorem witness_StepKeepsGrantsWithinPool :
    (about (.trimLevel .a)).alloc.WithinPool ∧ ∃ t, step (about (.trimLevel .a)) = .next t :=
  ⟨by decide +kernel, _, rfl⟩
theorem witness_StepKeepsGrantsFit :
    { with0 (slotIn .on) 300 with pending := [.holdTimerExpiry 0] }.GrantsFit
      ∧ ∃ t, step { with0 (slotIn .on) 300 with pending := [.holdTimerExpiry 0] } = .next t :=
  ⟨by decide +kernel, _, rfl⟩
theorem witness_StepKeepsActivePlanValid :
    { run0 with pending := [.trimFrequency .a] }.PlanValid
      ∧ ∃ t, step { run0 with pending := [.trimFrequency .a] } = .next t :=
  ⟨by decide +kernel, _, rfl⟩
theorem witness_StepKeepsRingWellFormed :
    (about .interlockAsserted).ring.WellFormed ∧ ∃ t, step (about .interlockAsserted) = .next t :=
  ⟨up_ring_wellFormed, _, rfl⟩
theorem witness_StepKeepsControllerDraftsAndTimers :
    ((about (.commit .a)).ControllerFits ∧ (about (.commit .a)).DraftsFit) ∧ ∃ t, step (about (.commit .a)) = .next t := by
  refine ⟨⟨by decide +kernel, ?_⟩, _, rfl⟩
  unfold State.DraftsFit
  refine ⟨fun _ => rfl, fun p pg h => ?_⟩
  cases p <;> cases h
theorem witness_StepKeepsControllerDraftsAndTimers_timers :
    ((about .leaseExpiry).arbiter.TimersFit ∧ (about .leaseExpiry).SlotTimersFit)
      ∧ ∃ t, step (about .leaseExpiry) = .next t :=
  ⟨⟨⟨rfl, rfl⟩, by decide +kernel⟩, _, rfl⟩
theorem witness_GenerationStoreCountAndPoolChange_commit : ∃ t, exec (.commit .a) (ask up .a 0x45 []) = .next t := ⟨_, rfl⟩
theorem witness_GenerationStoreCountAndPoolChange :
    (∃ t, exec .storeEraseDone (busy (.store 15 .erase plan0 .a 7)) = .next t)
    ∧ up.alloc.WithinPool ∧ ∃ t, exec (.levelIntervalExpiry []) up = .next t :=
  ⟨⟨_, rfl⟩, by decide +kernel, _, rfl⟩
theorem witness_RequestsLeaveTheOtherPort :
    (∃ t, exec (takeCommand .a .portClear) (ask up .a 4 []) = .next t) ∧ up.ring.WellFormed :=
  ⟨⟨_, rfl⟩, up_ring_wellFormed⟩
theorem witness_ReadingRequestsChangeNothingElse :
    RequestRow.slotRead.reading = true ∧ ∃ t, exec (takeCommand .a .slotRead) (ask up .a 0x30 [15]) = .next t :=
  ⟨rfl, _, rfl⟩
theorem witness_RequestTaking :
    State.reset.inReset = true ∧ (up.ports.get .a).requests = []
    ∧ 8 ≤ ((withPort fun x => { x with responses := List.replicate 8 ⟨0, 0, .ok, []⟩ }).ports.get .a).responses.length
    ∧ ((ask up .a 3 []).mayTake .a (req 3 []) ∧ requestRow (req 3 []) ≠ .identify)
    ∧ ((ask up .a 0 []).mayTake .a (req 0 []) ∧ requestRow (req 0 []) = .unknown)
    ∧ ((up.modPort .a fun x => { x with requests := [⟨7, 1, 2, []⟩] }).mayTake .a ⟨7, 1, 2, []⟩
      ∧ requestRow ⟨7, 1, 2, []⟩ = .identify ∧ 1 < (2 : Byte).toNat)
    ∧ ((ask up .a 1 [0]).mayTake .a (req 1 [0]) ∧ requestRow (req 1 [0]) = .identify
      ∧ RequestRow.identify.lengthOk 1 = false) := by decide +kernel
theorem witness_AnswersAndUnknownRequests :
    (ask up .a 0 []).mayTake .a (req 0 []) ∧ requestRow (req 0 []) = .unknown
    ∧ (ask up .b 0x63 [1]).mayTake .b (req 0x63 [1]) ∧ requestRow (req 0x63 [1]) = .unknown := by decide +kernel
theorem witness_IdentifyAndStatusRead : takesIn up .a .identify 1 [] ∧ takesIn up .b .statusRead 2 [] := by decide +kernel
theorem witness_NopEchoes :
    (ask up .a 3 (List.replicate 256 9)).mayTake .a (req 3 (List.replicate 256 9))
    ∧ requestRow (req 3 (List.replicate 256 9)) = .nop ∧ (List.replicate 256 (9 : Byte)).length ≤ 256
    ∧ (ask up .b 3 []).mayTake .b (req 3 []) := by decide +kernel
theorem witness_PlanReadAndDraftGet :
    takesIn up .a .planRead 0x20 [0, 99, 99] ∧ takesIn up .a .planRead 0x20 [1, 15, 16]
    ∧ takesIn up .a .planRead 0x20 [2, 0, 1] ∧ takesIn up .a .planRead 0x20 [1, 16, 1]
    ∧ takesIn up .a .planRead 0x20 [1, 0, 0] ∧ takesIn up .a .planRead 0x20 [1, 0, 17]
    ∧ takesIn up .a .draftGet 0x44 [0, 0, 0, 0] ∧ takesIn up .a .draftGet 0x44 [1, 1, 15, 16] := by decide +kernel
theorem witness_PlanReadAndDraftGet_refused :
    takesIn up .a .draftGet 0x44 [2, 0, 0, 0] ∧ takesIn up .a .draftGet 0x44 [0, 2, 0, 0]
    ∧ takesIn up .a .draftGet 0x44 [0, 1, 16, 1] ∧ takesIn up .a .draftGet 0x44 [0, 1, 0, 0]
    ∧ takesIn up .a .draftGet 0x44 [0, 1, 0, 17] := by decide +kernel
theorem witness_RecordLayouts :
    (takesIn up .a .draftPutEntry 0x41 (byteOf 15 :: entry0.bytes) ∧ (up.drafts.get .a).loading = none
      ∧ entry0.inRange = true)
    ∧ (takesIn up .a .draftPutHeader 0x42 header0.bytes ∧ header0.inRange = true)
    ∧ withAuthority .open = { up with arbiter := ⟨.open, none, none, none, ⟨0, 0⟩⟩ } ∧ up.arbiter.lease = some 800000000
    ∧ (withAuthority (.held .b .force)).arbiter.authority = .held .b .force := by decide +kernel
theorem witness_CodesAndFrames :
    ((0x45, RequestRow.commit, [0, 2]) ∈ requestTable ∧ (req 0x45 []).code.toNat = 0x45 ∧ (0x45 : Byte) ≠ 0x10)
    ∧ (∀ x ∈ requestTable, x.1 ≠ (req 0x63 []).code.toNat) ∧ (∀ x ∈ requestTable, x.1 ≠ (req 0 []).code.toNat) := by
  decide +kernel
theorem witness_SlotBudgetPageAndBootReads :
    takesIn up .a .slotRead 0x30 [15] ∧ takesIn up .a .slotRead 0x30 [16] ∧ up.slots[15].ramp = none
    ∧ (with0 { slotIn .rising with ramp := some ⟨.rising, 0, 9, 0⟩ } 300).slots[0].ramp = some ⟨.rising, 0, 9, 0⟩
    ∧ takesIn (with0 { slotIn .rising with ramp := some ⟨.rising, 0, 9, 0⟩ } 300) .a .slotRead 0x30 [0]
    ∧ takesIn up .a .budgetRead 0x32 [] ∧ up.combiner.state ≠ .resuming
    ∧ (let s : State := { up with combiner := { up.combiner with state := .resuming, ramp := some ⟨8, 9⟩ } }
       takesIn s .a .budgetRead 0x32 [] ∧ s.combiner.state = .resuming ∧ s.combiner.ramp = some ⟨8, 9⟩) := by decide +kernel
theorem witness_SlotBudgetPageAndBootReads_memory :
    takesIn up .a .pageInfo 0x53 [15] ∧ u8At [15] 0 = 15 ∧ takesIn up .a .pageInfo 0x53 [16]
    ∧ up.memory.pages[15].state ≠ .valid
    ∧ takesIn (busy (.store 15 .verify plan0 .a 7)) .a .pageInfo 0x53 [15]
    ∧ takesIn up .a .bootRead 0x55 [] ∧ readBoot up.memory.boot = none
    ∧ readBoot (some (bootImage 2 (some 3))) = some (2, some 3)
    ∧ takesIn (busy (.bootWrite 2 none .a 7)) .a .bootRead 0x55 [] ∧ up.memory.lastOutcome = none
    ∧ takesIn (withPage ⟨.valid, some ⟨plan0, 0⟩, 100001⟩) .a .pageInfo 0x53 [15] := by decide +kernel

/-- `with0` as a run leaves it: the slot's copy and the share in force are the active plan's. -/
def follows0 (x : Slot) (grant : Nat) : State := with0 x grant

/-- The same with a COMMIT of the default plan taken: DRAINING, with the slot falling. -/
def draining0 : State := after (.commit .a) (ask (follows0 (slotIn .on) 300) .a 0x45 [])

theorem draining0_follows : draining0.FollowsPlan where
  planValid := by decide +kernel
  controller := by decide +kernel
  reads := by decide +kernel
  drains := by decide +kernel
  copies := by decide +kernel
  attempts := by decide +kernel
  shares := by decide +kernel

theorem follows0_follows : (follows0 (slotIn .on) 300).FollowsPlan where
  planValid := by decide +kernel
  controller := by decide +kernel
  reads := by decide +kernel
  drains := by decide +kernel
  copies := by decide +kernel
  attempts := by decide +kernel
  shares := by decide +kernel

theorem witness_StepKeepsRecordsAndSlotsOnPlan :
    ({ draining0 with pending := [.fallCompletion 0] }).RecordsInRange
    ∧ ({ draining0 with pending := [.fallCompletion 0] }).ctl.state = .draining
    ∧ (∃ t, step { draining0 with pending := [.fallCompletion 0] } = .next t)
    ∧ draining0.FollowsPlan ∧ (follows0 (slotIn .on) 300).FollowsPlan :=
  ⟨by decide +kernel, by decide +kernel, ⟨_, rfl⟩, draining0_follows, follows0_follows⟩
/-- Two slots on the air in a state that follows its plan: s0 and s1 of the placement example. -/
def pair : State :=
  let s := follows0 (slotIn .on) 300
  { s with
    ctl := { s.ctl with active := trimState.ctl.active }
    slots := s.slots.set 1 { Slot.reset with state := .on, inUse := trimState.ctl.active.entries[1].inUse } }
theorem witness_SlotsSpaced :
    pair.FollowsPlan ∧ pair.slots[0].state.onAir = true ∧ pair.slots[1].state.onAir = true :=
  ⟨⟨by decide +kernel, by decide +kernel, by decide +kernel, by decide +kernel, by decide +kernel, by decide +kernel,
    by decide +kernel⟩, by decide +kernel, by decide +kernel⟩
theorem witness_PortClearClears : takesIn up .a .portClear 4 [] ∧ takesIn up .b .portClear 4 [] := by decide +kernel
theorem witness_ClaimNormal :
    takesIn (withAuthority .open) .a .claimNormal 0x10 [0] ∧ takesIn up .a .claimNormal 0x10 [0] ∧ up.holder .a
    ∧ takesIn up .b .claimNormal 0x10 [0] ∧ up.holder (Port.other .b)
    ∧ takesIn (withAuthority .contested) .a .claimNormal 0x10 [0] := by decide +kernel
theorem witness_ClaimForce :
    takesIn (withAuthority .open) .a .claimForce 0x10 [1] ∧ takesIn up .a .claimForce 0x10 [1]
    ∧ takesIn (withAuthority .contested) .a .claimForce 0x10 [1]
    ∧ (takesIn up .b .claimForce 0x10 [1] ∧ up.arbiter.authority = .held .a .claim)
    ∧ takesIn (withAuthority (.held .a .force)) .b .claimForce 0x10 [1]
    ∧ (let s : State := { up with arbiter := ⟨.held .a .force, some 1, none, none, ⟨0, 0⟩⟩ }
       takesIn s .b .claimForce 0x10 [1] ∧ s.arbiter.forceWindow ≠ none) := by decide +kernel
theorem witness_ReleaseAndFlagsWrite :
    takesIn up .a .release 0x11 [] ∧ up.holder .a ∧ takesIn (withAuthority .contested) .b .release 0x11 []
    ∧ takesIn up .b .release 0x11 [] ∧ takesIn (withAuthority .open) .b .release 0x11 []
    ∧ takesIn up .a .flagsWrite 0x12 [15] ∧ u8At [15] 0 = (15 : BitVec 4).toNat
    ∧ takesIn up .a .flagsWrite 0x12 [16] := by decide +kernel
theorem witness_SelectorsThenAuthorityAreChecked :
    takesIn up .b .pageStore 0x50 [16, 2] ∧ takesIn up .a .counterRead 0x61 [0, 2]
      ∧ takesIn up .a .counterControl 0x60 [2, 0] ∧ takesIn up .b .claimNormal 0x10 [2] := by decide +kernel
theorem witness_SelectorsThenAuthorityAreChecked_authority :
    ¬ up.holder .b ∧ takesIn up .b .commit 0x45 [] ∧ takesIn up .b .trimLevel 0x21 [0, 0, 0]
    ∧ takesIn up .b .trimFrequency 0x22 [0, 0] ∧ takesIn up .b .revive 0x31 [0] ∧ takesIn up .b .reload 0x56 []
    ∧ takesIn up .b .pageErase 0x52 [0] ∧ takesIn up .b .bootSet 0x54 [0] ∧ takesIn up .b .pageStore 0x50 [0, 1]
    ∧ takesIn up .b .counterControl 0x60 [1, 0] ∧ takesIn up .b .counterRead 0x61 [0, 1]
    ∧ takesIn (withAuthority .contested) .a .commit 0x45 [] := by decide +kernel
theorem witness_AuthorityTimersRunOut :
    up.inReset = false ∧ up.arbiter.authority = .held .a .claim ∧ up.arbiter.lease ≠ none
    ∧ (let s : State := { up with arbiter := ⟨.contested, none, none, some 1, ⟨0, 0⟩⟩ }
       s.inReset = false ∧ s.arbiter.authority = .contested ∧ s.arbiter.contest ≠ none) := by decide +kernel
theorem witness_TrimLevel :
    takesIn run0 .a .trimLevel 0x21 [15, 0x04, 0x00] ∧ s16At [15, 0x04, 0x00] 1 = 1024
    ∧ takesIn run0 .a .trimLevel 0x21 [15, 0xFC, 0x00] ∧ s16At [15, 0xFC, 0x00] 1 = -1024
    ∧ run0.holder .a ∧ run0.ctl.state = .ready ∧ u8At [15, 0x04, 0x00] 0 = 15 := by decide +kernel
theorem witness_TrimFrequency :
    takesIn run0 .a .trimFrequency 0x22 [0, 100] ∧ s8At [0, 100] 1 = 100 ∧ s8At [0, 0x9C] 1 = -100
    ∧ run0.ctl.active.entries[0].enabled = true
    ∧ (let pl := run0.ctl.active
       inBand 692800 pl.header.txCentre pl.entries[0].bwClass ∧ ∀ j : SlotIx, j ≠ 0 → pl.entries[j].enabled = true →
        apart pl.header.guardKhz 692800 pl.entries[0].bwClass pl.entries[j].txKhz pl.entries[j].bwClass)
    ∧ takesIn run0 .a .trimFrequency 0x22 [15, 100] ∧ run0.ctl.active.entries[15].enabled = false := by decide +kernel
/-- A draft with one enabled entry whose receive frequency lies outside the band. -/
def badDraft : Plan := ⟨Header.default, Plan.default.entries.set 4 { Entry.default with enabled := true }⟩

theorem witness_TrimAndCommitRefusals :
    (up.holder .a ∧ takesIn (inCtl .draining) .a .trimLevel 0x21 [0, 0, 0]
      ∧ takesIn (inCtl .starting) .a .trimFrequency 0x22 [0, 0]
      ∧ takesIn up .a .trimLevel 0x21 [16, 0, 0] ∧ takesIn up .a .trimLevel 0x21 [0, 4, 1] ∧ s16At [0, 4, 1] 1 = 1025
      ∧ takesIn up .a .trimFrequency 0x22 [16, 0] ∧ takesIn up .a .trimFrequency 0x22 [0, 101]
      ∧ s8At [0, 101] 1 = 101)
    ∧ (let pl := trimState.ctl.active
       takesIn trimState .a .trimFrequency 0x22 [0, 60] ∧ pl.entries[0].enabled = true ∧ pl.entries[1].enabled = true
       ∧ inBand 692760 pl.header.txCentre pl.entries[0].bwClass ∧ pl.entries[0].txKhz + 60 = 692760
       ∧ ¬ apart pl.header.guardKhz 692760 pl.entries[0].bwClass pl.entries[1].txKhz pl.entries[1].bwClass)
    ∧ (let edge : State := { trimState with ctl := { trimState.ctl with active :=
        ⟨{ header0 with txCentre := 765651 }, plan0.entries⟩ } }
       takesIn edge .a .trimFrequency 0x22 [0, 0xB0]
       ∧ ¬ inBand (692700 - 80) edge.ctl.active.header.txCentre edge.ctl.active.entries[0].bwClass)
    ∧ takesIn up .a .trimFrequency 0x22 [15, 0xFF] ∧ up.ctl.active.entries[15].enabled = false
    ∧ (up.ctl.active.entries[15].txKhz : Int) + s8At [15, 0xFF] 1 < 0 := by decide +kernel
theorem witness_TrimAndCommitRefusals_commit :
    (takesIn (inCtl .starting) .a .commit 0x45 [] ∧ takesIn (inCtl .loading) .a .commit 0x45 []
      ∧ takesIn (withDraft ⟨Plan.default, some 3⟩) .a .commit 0x45 [])
    ∧ takesIn up .a .commit 0x45 [0, 19] ∧ u16At [0, 19] 0 ≠ up.ctl.generation
    ∧ takesIn (withDraft ⟨badDraft, none⟩) .a .commit 0x45 [] ∧ badDraft.report = some ⟨.rxBand, 4, none⟩ := by
  decide +kernel
theorem witness_Revive :
    takesIn (with0 (slotIn .failed) 0) .a .revive 0x31 [0] ∧ (with0 (slotIn .failed) 0).holder .a
    ∧ (with0 (slotIn .failed) 0).slots[0].state = .failed ∧ takesIn up .a .revive 0x31 [15]
    ∧ takesIn up .a .revive 0x31 [16] ∧ up.holder .a
    ∧ up.slots[15].state ≠ .failed := by decide +kernel
theorem witness_DraftCopyClearAndBusy :
    takesIn (withDraft ⟨Plan.default, some 15⟩) .a .draftPutEntry 0x41 (List.replicate 34 0xFF)
    ∧ takesIn up .a .draftCopy 0x40 [] ∧ takesIn up .a .draftClear 0x43 [] ∧ (up.drafts.get .a).loading = none := by
  decide +kernel
theorem witness_DraftPutEntry :
    takesIn up .a .draftPutEntry 0x41 (List.replicate 34 0xFF)
    ∧ takesIn up .a .draftPutEntry 0x41 (15 :: List.replicate 33 0) ∧ (up.drafts.get .a).loading = none
    ∧ entryRefusal (List.replicate 34 0xFF) = some 1 ∧ entryRefusal (16 :: List.replicate 33 0) = some 0
    ∧ entryRefusal (15 :: List.replicate 33 0) = none := by decide +kernel
theorem witness_DraftPutHeader :
    takesIn up .a .draftPutHeader 0x42 (List.replicate 35 0)
    ∧ headerRefusal (List.replicate 35 0) = some 12 ∧ headerRefusal (2 :: List.replicate 34 0) = some 11
    ∧ takesIn up .a .draftPutHeader 0x42 header0.bytes ∧ headerRefusal header0.bytes = none := by decide +kernel
theorem witness_CommitInstalls :
    takesIn (with0 (slotIn .on) 300) .a .commit 0x45 [] ∧ takesIn up .a .commit 0x45 [0, 20]
    ∧ u16At [0, 20] 0 = up.ctl.generation ∧ (up.drafts.get .a).loading = none
    ∧ (up.drafts.get .a).plan.valid = true ∧ up.ctl.state = .ready ∧ up.holder .a
    ∧ (with0 (slotIn .on) 300).slots[0].state.onAir = true
    ∧ ((with0 (slotIn .on) 300).drainSetFor Plan.default)[(0 : SlotIx)] = true := by decide +kernel

/-- A plan without s0 and with the guard at its greatest. -/
def wide : Plan := ⟨{ header0 with guardKhz := 2000 }, trimState.ctl.active.entries.set 0 Entry.default⟩

/-- `pair` holding `wide` as Port A's draft, s0 drained and too close to s1 under its guard. -/
def pairWide : State := { pair with drafts := ⟨⟨wide, none⟩, Draft.reset⟩ }

theorem witness_CommitInstalls_cut :
    takesIn pairWide .a .commit 0x45 [] ∧ wide.valid = true ∧ (pairWide.cutSetFor wide)[(0 : SlotIx)] = true
    ∧ (pairWide.drainSetFor wide)[(1 : SlotIx)] = false := by decide +kernel
theorem witness_CommitInstalls_limits :
    let s := with0 { slotIn .failed with attempts := 3 } 0
    let p : Plan := ⟨header0, plan0.entries.set 0 { entry0 with reacquireLimit := 0 }⟩
    (s.limitNotices p).length = 1 ∧ ¬ s.MustFall p
    ∧ (s.drainSetFor p)[(0 : SlotIx)] = false ∧ p.valid = true ∧ s.ctl.active.entries[0].reacquireLimit = 3 := by
  decide +kernel
/-- A first commit, whose drained slot stands in OFF, and a level-only commit of a slot in ON: neither must fall. -/
theorem witness_CommitInstalls_raise :
    let s : State := { up with drafts := ⟨⟨plan0, none⟩, Draft.reset⟩ }
    let p : Plan := ⟨header0, plan0.entries.set 0 { entry0 with share := 200 }⟩
    (takesIn s .a .commit 0x45 [] ∧ ¬ s.MustFall plan0 ∧ s.Drained plan0 0 ∧ s.slots[0].state = .off)
    ∧ (¬ (with0 (slotIn .on) 300).MustFall p ∧ ¬ (with0 (slotIn .on) 300).Drained p 0 ∧ p.valid = true) := by decide +kernel
theorem witness_PageRequests :
    takesIn up .a .pageStore 0x50 [15, 0] ∧ takesIn up .a .pageStore 0x50 [15, 1] ∧ up.memory.op = none ∧ up.holder .a
    ∧ takesIn up .a .pageErase 0x52 [15] ∧ takesIn (withPage ⟨.valid, none, 0⟩) .a .pageLoad 0x51 [15]
    ∧ takesIn up .a .pageLoad 0x51 [15] ∧ up.memory.pages[15].state = .blank
    ∧ takesIn (withPage ⟨.corrupt, none, 0⟩) .a .pageLoad 0x51 [15]
    ∧ takesIn (busy (.erase 3 .a 1)) .a .pageLoad 0x51 [15] ∧ takesIn (busy (.erase 3 .a 1)) .a .pageStore 0x50 [15, 1]
    ∧ takesIn (busy (.erase 3 .a 1)) .a .pageStore 0x50 [16, 1] ∧ takesIn up .b .pageLoad 0x51 [16]
    ∧ takesIn up .a .pageErase 0x52 [255] := by
  decide +kernel
theorem witness_BootSetAndReload :
    (takesIn (busy (.erase 3 .a 1)) .a .bootSet 0x54 [15, 0] ∧ (busy (.erase 3 .a 1)).memory.op ≠ none)
    ∧ takesIn up .a .bootSet 0x54 [16] ∧ takesIn up .a .bootSet 0x54 [15, 15] ∧ takesIn up .a .bootSet 0x54 [0, 16]
    ∧ takesIn (withPage ⟨.valid, none, 0⟩) .a .bootSet 0x54 [15]
    ∧ (withPage ⟨.valid, none, 0⟩).memory.pages[15].state = .valid
    ∧ (takesIn (withPage ⟨.valid, none, 0⟩) .a .bootSet 0x54 [15, 0] ∧ up.memory.pages[0].state ≠ .valid)
    ∧ takesIn up .a .bootSet 0x54 [15] ∧ up.memory.pages[15].state ≠ .valid
    ∧ takesIn up .a .reload 0x56 [] ∧ takesIn (inCtl .starting) .a .reload 0x56 []
    ∧ takesIn (busy (.erase 3 .a 1)) .a .reload 0x56 [] := by decide +kernel
theorem page_image (p : Plan) : (page p).image = some ⟨p, crc32 p.imageBytes⟩ := by unfold page; rfl

/-- An image whose stored check is not its record's holds no plan with its check. -/
theorem image_mismatch (p : Plan) (pl : Plan) :
    (some ⟨p, crc32 p.imageBytes + 1⟩ : Option Image) ≠ some ⟨pl, crc32 pl.imageBytes⟩ := by
  intro h
  simp only [Option.some.injEq, Image.mk.injEq] at h
  obtain ⟨rfl, h⟩ := h
  revert h
  generalize crc32 p.imageBytes = c
  bv_omega

/-- `busy` with page 15 as given. -/
def busyPage (op : EngineOp) (x : Page) : State :=
  { withPage x with memory := { (withPage x).memory with op := some op } }

theorem busyPage_page (op : EngineOp) (x : Page) : (busyPage op x).memory.pages[(15 : PageIx)] = x := by
  simp [busyPage, withPage]

/-- R119: an intact read of an image whose check is not its record's, of another record and of no image fail the verify. -/
theorem witness_StoreAndErasePhases_mismatch :
    let op := EngineOp.store 15 .verify plan0 .a 7
    (busyPage op ⟨.corrupt, some ⟨plan0, crc32 plan0.imageBytes + 1⟩, 5⟩).memory.pages[(15 : PageIx)].image
        ≠ some ⟨plan0, crc32 plan0.imageBytes⟩
    ∧ (busyPage op ⟨.corrupt, some ⟨Plan.default, 0⟩, 5⟩).memory.pages[(15 : PageIx)].image
        ≠ some ⟨plan0, crc32 plan0.imageBytes⟩
    ∧ (busyPage op ⟨.corrupt, none, 5⟩).memory.pages[(15 : PageIx)].image ≠ some ⟨plan0, crc32 plan0.imageBytes⟩ := by
  have h : Plan.default ≠ plan0 := by decide +kernel
  refine ⟨?_, ?_, ?_⟩ <;> rw [busyPage_page]
  · exact image_mismatch plan0 plan0
  · intro e
    simp only [Option.some.injEq, Image.mk.injEq] at e
    exact h e.1
  · exact nofun
/-- R120: an intact read of an image whose check is not its record's, and of no image, does not match. -/
theorem witness_LoadAndBootWriteEnd_mismatch :
    (∀ pl, (busyPage (.load 15 .a 7) ⟨.valid, some ⟨plan0, crc32 plan0.imageBytes + 1⟩, 5⟩).memory.pages[(15 : PageIx)].image
        ≠ some ⟨pl, crc32 pl.imageBytes⟩)
    ∧ ∀ pl : Plan, (busyPage (.load 15 .a 7) ⟨.valid, none, 5⟩).memory.pages[(15 : PageIx)].image
        ≠ some ⟨pl, crc32 pl.imageBytes⟩ := by
  refine ⟨fun pl => ?_, fun pl => ?_⟩ <;> rw [busyPage_page]
  · exact image_mismatch plan0 pl
  · exact nofun
theorem witness_StoreAndErasePhases :
    (busy (.store 15 .verify plan0 .a 7)).inReset = false
    ∧ (busy (.store 15 .verify plan0 .a 7)).memory.op = some (.store 15 .verify plan0 .a 7)
    ∧ (page plan0).image = some ⟨plan0, crc32 plan0.imageBytes⟩ := ⟨by decide +kernel, by unfold busy; rfl, page_image _⟩
theorem witness_LoadAndBootWriteEnd :
    (busy (.load 15 .a 7)).inReset = false ∧ (busy (.load 15 .a 7)).memory.op = some (.load 15 .a 7)
    ∧ (page plan0).image = some ⟨plan0, crc32 plan0.imageBytes⟩
    ∧ (busy (.bootWrite 15 none .b 7)).memory.op = some (.bootWrite 15 none .b 7) :=
  ⟨by decide +kernel, by unfold busy; rfl, page_image _, by unfold busy; rfl⟩

/-- Plan Memory with a boot record naming page 15, a VALID page holding a plan, and an operation. -/
def bootable (p : Plan) (op : EngineOp) : Memory :=
  { Memory.new with pages := Memory.new.pages.set 15 (page p), boot := some (bootImage 15 none), op := some op }

theorem page_try (p : Plan) (h : p.valid = true) : (page p).try true = ⟨.used, none, some p⟩ := by
  simp [Page.try, page, Page.readRecord, Image.matching, h]

theorem bootable_boot (p : Plan) (op : EngineOp) : readBoot (bootable p op).boot = some (15, none) := by
  have h : readBoot (some (bootImage 15 none)) = some (15, none) := by decide +kernel
  exact h

theorem bootable_page (p : Plan) (op : EngineOp) : (bootable p op).pages[(15 : PageIx)] = page p := by simp [bootable]

theorem bootable_read (p : Plan) (h : p.valid = true) (op : EngineOp) (o : BootOrigin) (b : Bool) :
    ((bootable p op).readBootPages o true b).2 = some p := by
  simp only [Memory.readBootPages, bootable_boot, bootable_page, page_try p h]

theorem plan0_valid : plan0.valid = true := by decide +kernel

/-- The part at the end of its reset, with a boot page that holds a plan or without one. -/
def starting (m : Memory) : State := { after .resetEnd State.reset with memory := m }

theorem witness_StartUpReadEnd :
    (let s := starting (bootable plan0 (.startUpRead .record))
     (s.inReset = false ∧ s.alloc.held = true) ∧ s.memory.op = some (.startUpRead .record)
      ∧ ∀ i : SlotIx, s.slots[i].state = .off)
    ∧ ((bootable plan0 (.startUpRead .record)).readBootPages .startUp true true).2 = some plan0
    ∧ ((after .resetEnd State.reset).memory.readBootPages .startUp true true).2 = none :=
  have h : ((starting Memory.new).inReset = false ∧ (starting Memory.new).alloc.held = true)
    ∧ (∀ i : SlotIx, (starting Memory.new).slots[i].state = .off)
    ∧ ((after .resetEnd State.reset).memory.readBootPages .startUp true true).2 = none := by decide +kernel
  ⟨⟨h.1, rfl, h.2.1⟩, bootable_read _ plan0_valid _ _ _, h.2.2⟩
theorem witness_ReloadReadEnd :
    let s := busy (.reloadRead .record .a 7)
    (s.inReset = false ∧ s.memory.op = some (.reloadRead .record .a 7) ∧ (s.memory.readBootPages .reload true true).2 = none
      ∧ s.alloc.held = false ∧ s.holdAlloc.alloc.held = true)
    ∧ ((bootable plan0 (.reloadRead .record .a 7)).readBootPages .reload true true).2 = some plan0 :=
  ⟨by decide +kernel, bootable_read _ plan0_valid _ _ _⟩
/-- A plan that a slot in ON must fall for, and one that it need not. -/
theorem witness_ReloadReadEnd_install :
    (with0 (slotIn .on) 300).MustFall Plan.default ∧ ¬ up.MustFall up.ctl.active
    ∧ ∀ i : SlotIx, ¬ (with0 (slotIn .on) 300).LimitRevives Plan.default i := by decide +kernel
theorem witness_CounterAndEventRequests :
    takesIn up .b .counterControl 0x60 [2, 0xFF] ∧ takesIn up .b .counterRead 0x61 [15, 2]
    ∧ takesIn up .a .counterControl 0x60 [1, 0xFF] ∧ up.holder .a ∧ takesIn up .a .counterRead 0x61 [15, 1]
    ∧ takesIn up .b .counterRead 0x61 [16, 0] ∧ takesIn up .b .counterRead 0x61 [17, 0]
    ∧ takesIn up .a .eventRead 0x62 [0] ∧ takesIn up .a .eventRead 0x62 [9] ∧ takesIn up .a .eventRead 0x62 [1]
    ∧ takesIn up .a .eventRead 0x62 [8] := by decide +kernel

/-- A ring of 64 entries that Port A has not read and Port B has read but for the last 63. -/
def fullRing : Ring :=
  ⟨(List.range 64).map fun k => ⟨k + 1, 1, { kind := .interlock }⟩, 64, ⟨64, 63⟩, ⟨255, 0⟩⟩

theorem witness_RingTakesAnEvent :
    fullRing.WellFormed ∧ fullRing.unread.get .a = 64 ∧ fullRing.unread.get .b < 64 := by
  unfold Ring.WellFormed Event.Follows; decide +kernel
theorem witness_CounterCounts :
    up.counters.enable = true ∧ up.counters.mask.getLsbD SlotKind.dips.code = false
    ∧ ({ up.counters with enable := false } : CounterBank).enable = false
    ∧ (let s : State := { up with counters := { up.counters with mask := 0x3F, overload := 49151, clip := 49151 } }
       s.counters.enable = true ∧ s.counters.mask.getLsbD 6 = false ∧ s.counters.mask.getLsbD 7 = false
       ∧ s.counters.mask.getLsbD SlotKind.rampAborts.code = true)
    ∧ (0xC0 : Byte).getLsbD 6 = true ∧ (0xC0 : Byte).getLsbD 7 = true := by decide +kernel
/-- R166: the composite's notices carry no slot, and their kind. -/
theorem test_composite_notices :
    let s : State := { up with counters := { up.counters with overload := 49151, clip := 49151 } }
    s.countOverload.ring.entries.getLast?.map Event.notice = some { kind := .counterHigh, value1 := some 6 }
      ∧ s.countClip.ring.entries.getLast?.map Event.notice = some { kind := .counterHigh, value1 := some 7 }
      ∧ s.countOverload.counters.overload = 49152 := by decide +kernel
theorem witness_LevelIntervalMeasures :
    (with0 (slotIn .on) 300).inReset = false ∧ (with0 (slotIn .on) 300).extractions[0].tuned = true
    ∧ 0 < ({ (with0 (slotIn .on) 300).extractions[0] with accum := ⟨1, 3⟩ } : Extraction).accum.count
    ∧ up.extractions[0].tuned = false ∧ [Turn.combiner, .holdOut 15].eraseDups = [.combiner, .holdOut 15] := by
  decide +kernel
theorem witness_CarrierDecisions :
    (with0 (slotIn .on) 300).slots[0].state = .on ∧ (with0 (slotIn .hold) 300).slots[0].state = .hold
    ∧ (with0 (slotIn .rising) 300).slots[0].state = .rising ∧ (with0 (slotIn .muted) 300).slots[0].state = .muted
    ∧ (with0 (slotIn .on) 300).slots[0].inUse.threshold = -160 ∧ 0 < run0.ctl.active.header.holdMs
    ∧ (with0 (slotIn .on) 300).extractions[0].source = .primary ∧ 0 < (with0 (slotIn .muted) 300).alloc.table[0].grant
    ∧ (with0 (slotIn .muted) 0).alloc.table[0].grant = 0 ∧ up.slots[0].state = .off := by decide +kernel
theorem witness_LevelLoopAndTargetCut :
    (with0 (slotIn .on) 300).slots[0].state = .on ∧ (with0 (slotIn .on) 300).slots[0].inUse.threshold ≤ -160
    ∧ (with0 (slotIn .on) 300).alloc.table[0].target = some (-13) ∧ (slotIn .rising).state = .rising
    ∧ (slotIn .hold).state = .hold := by decide +kernel
theorem witness_HoldAndReacquireExpiry :
    (let s := with0 { slotIn .hold with hold := some 0 } 300
     s.inReset = false ∧ s.slots[0].state = .hold ∧ s.slots[0].hold ≠ none)
    ∧ (let s := with0 { slotIn .muted with reacquire := some 0, attempts := 2 } 300
       s.inReset = false ∧ s.slots[0].state = .muted ∧ s.slots[0].reacquire ≠ none
       ∧ 0 < s.ctl.active.entries[0].reacquireLimit ∧ min 255 (2 + 1) = s.ctl.active.entries[0].reacquireLimit) := by
  decide +kernel
theorem witness_SettlingRiseAndFall :
    (let x : Slot := { slotIn .rising with ramp := some ⟨.rising, 5, 5, 0⟩ }
     (with0 x 300).inReset = false ∧ (with0 x 300).slots[0].state = .rising ∧ (with0 x 300).slots[0].ramp ≠ none)
    ∧ (let x : Slot := { slotIn .falling with ramp := some ⟨.falling, 5, 5, 1⟩, fallDest := some .off }
       let s : State := { with0 x 0 with ctl := { run0.ctl with
         state := .draining, drainSet := noSlots.set 0 true, awaiting := noSlots.set 0 true } }
       s.slots[0].state = .falling ∧ s.slots[0].ramp ≠ none ∧ s.slots[0].fallDest = some .off
       ∧ s.ctl.awaiting[(0 : SlotIx)] = true ∧ (with0 x 0).ctl.state ≠ .draining) := by decide +kernel
theorem witness_RaiseInstalls :
    let s : State := { run0 with
      alloc := Allocator.reset
      ctl := { run0.ctl with state := .draining, drainSet := noSlots.set 0 true, change := some (.commit .a 7) } }
    s.alloc.held = true ∧ (∀ i : SlotIx, s.ctl.drainSet[i] = true → s.slots[i].state = .off)
    ∧ s.ctl.drainSet[(0 : SlotIx)] = true ∧ s.ctl.active.entries[0].enabled = true ∧ 0 < s.runGrant true 0
    ∧ s.ctl.drainSet[(1 : SlotIx)] = false ∧ s.extractions[0].tuned = false
    ∧ (with0 (slotIn .on) 300).extractions[0].tuned = true
    ∧ (with0 (slotIn .on) 300).extractions[0].offset = (612500 : Int) - 600000 := by decide +kernel
theorem witness_AllocationRun :
    allocState.served false 0 = true ∧ allocState.served false 15 = false
    ∧ allocState.remainder false 1 < allocState.demand false 1 ∧ allocState.demand false 0 ≤ allocState.remainder false 0
    ∧ allocState.runGrant false 2 = allocState.share 2 * allocState.remainder false 1 / allocState.demand false 1 + 1 := by
  decide +kernel
theorem witness_RunsStartOrWait : State.reset.alloc.held = true ∧ up.alloc.held = false := ⟨rfl, rfl⟩
theorem witness_TuningTargetAndInputLevels :
    (1 ≤ 1 ∧ 1 ≤ 1024 ∧ 1024 ≤ (1024 : Nat)) ∧ ((0 : Rat) ≤ 0 ∧ (1 : Rat) ≤ 1 ∧ (0 : Rat) < 1 / 100)
    ∧ ((0 : Rat) < 1 / 10 ^ 11 ∧ (1 / 10 ^ 11 : Rat) ^ 20 * 10 ^ 199 < 1)
    ∧ levelOfPower (1 / 100) = -40 ∧ 0 < (⟨1, 3⟩ : Accum).count := by decide +kernel
theorem witness_IntervalJudging :
    up.combiner.state = .live ∧ ¬ up.ctl.active.header.ceiling + 2 < up.combiner.lastLevel ∧ up.alloc.overloadRun < 2
    ∧ (let s : State := { up with
        combiner := { up.combiner with lastLevel := 0, clip := true }
        ctl := { up.ctl with active := ⟨{ header0 with ceiling := -3 }, plan0.entries⟩ }
        alloc := { up.alloc with overloadRun := 2 } }
       s.ctl.active.header.ceiling + 2 < s.combiner.lastLevel ∧ s.combiner.clip = true ∧ s.counters.enable = true
       ∧ s.counters.mask.getLsbD 6 = false
       ∧ { s.alloc with overloadRun := 1 }.overloadRun < 2) := by decide +kernel
theorem witness_InterlockChanges :
    (up.inReset = false ∧ up.interlock = false ∧ up.combiner.state ≠ .interlocked)
    ∧ (let t := after .interlockAsserted up
       t.inReset = false ∧ t.interlock = true ∧ t.combiner.state = .interlocked
       ∧ (let v := after .interlockReleased t
          v.combiner.state = .resuming ∧ v.combiner.ramp ≠ none)) ∧ up.combiner.state ≠ .resuming := by decide +kernel
theorem witness_DeviceResetAndItsEnd : State.reset.inReset = true ∧ up.inReset = false := ⟨rfl, rfl⟩
/-- R80, R132: a line that changes in a reset has its level at the reset's end, and its change is no event of the part. -/
theorem test_lines_in_reset :
    let t := after .resetEnd (after (.transferBegin .a) (after .interlockAsserted State.reset))
    t.combiner.state = .interlocked ∧ t.ring.entries = [] ∧ (t.ports.get .a).select = true
      ∧ (t.ports.get .a).inTransfer = false ∧ (after (.transferEnd .a) t).ports = State.reset.ports := by decide +kernel
theorem witness_TransfersAndRequestFrames :
    (up.ports.get .a).select = false ∧ (up.ports.get .a).inTransfer = false
    ∧ (let x := ((after .resetEnd (after (.transferBegin .b) State.reset)).ports.get .b)
       x.select = true ∧ x.inTransfer = false)
    ∧ (let x := ((after (.transferBegin .a) up).ports.get .a)
       x.select = true ∧ x.inTransfer = true ∧ x.receive = .hunting)
    ∧ (let x := ((after (.startByte .a) (after (.transferBegin .a) up)).ports.get .a)
       x.inTransfer = true ∧ x.receive = .receiving ∧ x.requests.length < 4)
    ∧ (let x := ((after (.transferBegin .a) (withPort fun x => { x with responses := [⟨1, 1, .ok, []⟩] })).ports.get .a)
       x.frame ≠ none ∧ x.frameAtHead = true)
    ∧ crc16 [9, 1, 0, 0, 0] ≠ crc16 [9, 1, 0, 0, 0] + 1 ∧ 256 < 257 := by decide +kernel
theorem witness_TuningTargetAndInputLevels_words : (-76000 : Int) ≤ -76000 ∧ (76000 : Int) ≤ 76000 := by decide
theorem witness_ValidationReports :
    plan0.report = none ∧ (Plan.report ⟨Header.default, plan0.entries⟩).isSome = true := by decide +kernel

end Sys2Proof.Machine.Tests
end

namespace Sys2Proof.Machine

/-! ### Items held for each slot or page -/

/-- What a container holds after one item is replaced. -/
theorem PerSlot.getElem_set {α : Type} (v : PerSlot α) (i j : SlotIx) (y : α) :
    (v.set i y)[j] = if j = i then y else v[j] := by
  by_cases h : j = i
  · subst h; simp
  · rw [if_neg h]
    exact Vector.getElem_set_ne _ _ fun e => h (Fin.ext e.symm)

/-- The item just replaced. -/
@[simp] theorem PerSlot.getElem_set_self {α : Type} (v : PerSlot α) (i : SlotIx) (y : α) : (v.set i y)[i] = y := by
  rw [PerSlot.getElem_set, if_pos rfl]

/-- Every other item stays. -/
theorem PerSlot.getElem_set_ne {α : Type} (v : PerSlot α) {i j : SlotIx} (y : α) (h : j ≠ i) : (v.set i y)[j] = v[j] := by
  rw [PerSlot.getElem_set, if_neg h]

/-- Two containers that hold the same items are one. -/
theorem PerSlot.ext {α : Type} {v w : PerSlot α} (h : ∀ i : SlotIx, v[i] = w[i]) : v = w :=
  Vector.ext fun n hn => h ⟨n, hn⟩

/-- The items of a container given by its index. -/
theorem PerSlot.getElem_ofFn {α : Type} (f : SlotIx → α) (i : SlotIx) : (Vector.ofFn f : PerSlot α)[i] = f i := by
  simp

/-- A property of every item is kept by the replacement of one. -/
theorem PerSlot.forall_set {α : Type} {P : α → Prop} {v : PerSlot α} (i : SlotIx) {y : α} (h : ∀ j : SlotIx, P v[j])
    (hy : P y) (j : SlotIx) : P (v.set i y)[j] := by
  rw [PerSlot.getElem_set]
  split
  · exact hy
  · exact h j

/-! ### Ranges (R40, R18, R28, R86, R112, R132, R144, R164) -/

/-- The ranges of everything but the ports, which stand at `q`: what an operation that leaves the ports alone keeps. -/
structure State.RangedWith (q : PerPort PortState) (s : State) : Prop where
  ports : s.ports = q
  slots : ∀ i : SlotIx, s.slots[i].Bounded
  levels : ∀ i : SlotIx, LevelBounded s.extractions[i].lastLevel
  composite : LevelBounded s.combiner.lastLevel
  generation : s.ctl.generation ≤ 65535
  overloadRun : s.alloc.overloadRun ≤ 2
  storeCounts : ∀ i : PageIx, s.memory.pages[i].storeCount ≤ 16777215
  slotCounters : ∀ i : SlotIx, s.counters.slots[i].Bounded
  overload : s.counters.overload ≤ 65535
  clip : s.counters.clip ≤ 65535

/-- Every item is in its range when the ports' are and all others are. -/
theorem State.bounded_iff (s : State) :
    s.Bounded ↔ (s.ports.a.Bounded ∧ s.ports.b.Bounded) ∧ s.RangedWith s.ports := by
  constructor
  · rintro ⟨h1, h2, h3, h4, h5, h6, h7, h8, h9, h10⟩
    exact ⟨h1, rfl, h2, h3, h4, h5, h6, h7, h8, h9, h10⟩
  · rintro ⟨h1, h⟩
    exact ⟨h1, h.slots, h.levels, h.composite, h.generation, h.overloadRun, h.storeCounts, h.slotCounters, h.overload,
      h.clip⟩

theorem clampGain_bounds (g : Int) : -80 ≤ clampGain g ∧ clampGain g ≤ 120 := by
  simp only [clampGain, clampInt]; omega

theorem nextGeneration_le {g : Nat} (h : g ≤ 65535) : nextGeneration g ≤ 65535 := by
  unfold nextGeneration; split <;> omega

theorem wrap16_le {n : Nat} (h : n ≤ 65535) : wrap16 n ≤ 65535 := by
  unfold wrap16; split <;> omega

/-- The search stays within its fuel. -/
theorem firstFrom_bounds (p : Nat → Bool) (fuel k : Nat) : k ≤ firstFrom p fuel k ∧ firstFrom p fuel k ≤ k + fuel := by
  induction fuel generalizing k with
  | zero => simp [firstFrom]
  | succ n ih =>
    have := ih (k + 1)
    unfold firstFrom
    split <;> omega

theorem levelOfPower_bounded (p : Rat) : LevelBounded (levelOfPower p) := by
  unfold levelOfPower LevelBounded
  split
  · omega
  · have := (firstFrom_bounds (fun k => p.den ^ 20 ≤ p.num.natAbs ^ 20 * 10 ^ k) 200 0).2
    omega

theorem accumLevel_bounded (x : Accum) : LevelBounded (accumLevel x) := levelOfPower_bounded _

theorem SlotCounters.get_le {c : SlotCounters} (h : c.Bounded) (k : SlotKind) : c.get k ≤ 65535 := by
  obtain ⟨h1, h2, h3, h4, h5, h6⟩ := h
  cases k <;> assumption

theorem SlotCounters.Bounded.put {c : SlotCounters} (h : c.Bounded) (k : SlotKind) {n : Nat} (hn : n ≤ 65535) :
    (c.put k n).Bounded := by
  obtain ⟨h1, h2, h3, h4, h5, h6⟩ := h
  cases k
  · exact ⟨hn, h2, h3, h4, h5, h6⟩
  · exact ⟨h1, hn, h3, h4, h5, h6⟩
  · exact ⟨h1, h2, hn, h4, h5, h6⟩
  · exact ⟨h1, h2, h3, hn, h5, h6⟩
  · exact ⟨h1, h2, h3, h4, hn, h6⟩
  · exact ⟨h1, h2, h3, h4, h5, hn⟩

theorem Slot.Bounded.cutGain {x : Slot} (h : x.Bounded) (fall : Int) : (x.cutGain fall).Bounded := by
  unfold Slot.cutGain
  split
  · exact h
  · split
    · exact ⟨clampGain_bounds _, clampGain_bounds _⟩
    all_goals first | exact h | exact ⟨clampGain_bounds _, h.2⟩

theorem loopGain_bounds {e g : Int} (h : -80 ≤ g ∧ g ≤ 120) : -80 ≤ loopGain e g ∧ loopGain e g ≤ 120 := by
  unfold loopGain
  split
  · exact h
  · split <;> exact clampGain_bounds _

/-- A change of source keeps the last level (R11). -/
@[simp] theorem Extraction.select_lastLevel (x : Extraction) (u : InUse) (src : Source) :
    (x.select u src).lastLevel = x.lastLevel := by
  unfold Extraction.select; split <;> rfl

/-- An adoption leaves the last level or sets it to −200 (R10). -/
theorem Extraction.adopt_lastLevel_bounded {x : Extraction} (hx : LevelBounded x.lastLevel) (h : Header) (e : Entry) :
    LevelBounded (x.adopt h e).lastLevel := by
  unfold Extraction.adopt LevelBounded at *
  split
  · simp
  · split
    · exact hx
    · simp

namespace State.RangedWith

variable {q : PerPort PortState} {s : State}

/-! The updates of one block. -/

theorem modSlot (h : s.RangedWith q) (i : SlotIx) {f : Slot → Slot}
    (hf : ∀ x : Slot, x.Bounded → (f x).Bounded := by exact fun _ hx => hx) : (s.modSlot i f).RangedWith q :=
  { h with slots := PerSlot.forall_set i h.slots (hf _ (h.slots i)) }

theorem modExtraction (h : s.RangedWith q) (i : SlotIx) {f : Extraction → Extraction}
    (hf : ∀ x : Extraction, LevelBounded x.lastLevel → LevelBounded (f x).lastLevel) :
    (s.modExtraction i f).RangedWith q :=
  { h with levels := PerSlot.forall_set (P := fun x : Extraction => LevelBounded x.lastLevel) i h.levels
                        (hf _ (h.levels i)) }

theorem modPlacement (h : s.RangedWith q) (i : SlotIx) (f : Placement → Placement) :
    (s.modPlacement i f).RangedWith q := { h with }

theorem modAlloc (h : s.RangedWith q) {f : Allocator → Allocator} (hf : (f s.alloc).overloadRun ≤ 2) :
    (s.modAlloc f).RangedWith q := { h with overloadRun := hf }

theorem modGrant (h : s.RangedWith q) (i : SlotIx) (f : GrantRec → GrantRec) : (s.modGrant i f).RangedWith q :=
  h.modAlloc h.overloadRun

theorem modCombiner (h : s.RangedWith q) {f : Combiner → Combiner} (hf : LevelBounded (f s.combiner).lastLevel) :
    (s.modCombiner f).RangedWith q := { h with composite := hf }

theorem modCtl (h : s.RangedWith q) {f : Controller → Controller} (hf : (f s.ctl).generation ≤ 65535) :
    (s.modCtl f).RangedWith q := { h with generation := hf }

theorem modDraft (h : s.RangedWith q) (p : Port) (f : Draft → Draft) : (s.modDraft p f).RangedWith q := { h with }

theorem modMemory (h : s.RangedWith q) {f : Memory → Memory}
    (hf : ∀ i : PageIx, (f s.memory).pages[i].storeCount ≤ 16777215) : (s.modMemory f).RangedWith q :=
  { h with storeCounts := hf }

theorem modPage (h : s.RangedWith q) (i : PageIx) {f : Page → Page}
    (hf : (f s.memory.pages[i]).storeCount ≤ 16777215) : (s.modPage i f).RangedWith q :=
  h.modMemory (PerSlot.forall_set (P := fun x : Page => x.storeCount ≤ 16777215) i h.storeCounts hf)

theorem modArbiter (h : s.RangedWith q) (f : Arbiter → Arbiter) : (s.modArbiter f).RangedWith q := { h with }

theorem modRing (h : s.RangedWith q) (f : Ring → Ring) : (s.modRing f).RangedWith q := { h with }

theorem setDraft (h : s.RangedWith q) (p : Port) (pl : Plan) : (s.setDraft p pl).RangedWith q := h.modDraft p _

theorem write (h : s.RangedWith q) (n : Notice) : (s.write n).RangedWith q := h.modRing _

theorem writeOpt (h : s.RangedWith q) (n : Option Notice) : (s.writeOpt n).RangedWith q := by
  cases n with
  | none => exact h
  | some n => exact h.write n

/-! Counters and sources. -/

theorem noticeHigh (h : s.RangedWith q) (n : Nat) (i : Option SlotIx) (code : Nat) :
    (s.noticeHigh n i code).RangedWith q := by
  unfold State.noticeHigh
  split
  · exact h.write _
  · exact h

theorem count (h : s.RangedWith q) (k : SlotKind) (i : SlotIx) : (s.count k i).RangedWith q := by
  unfold State.count
  split
  · refine noticeHigh ?_ _ _ _
    exact { h with slotCounters := PerSlot.forall_set i h.slotCounters
                    ((h.slotCounters i).put k (wrap16_le (SlotCounters.get_le (h.slotCounters i) k))) }
  · exact h

theorem countOverload (h : s.RangedWith q) : s.countOverload.RangedWith q := by
  unfold State.countOverload
  split
  · have h1 : (s.modCounters fun c => { c with overload := wrap16 c.overload }).RangedWith q :=
      { h with overload := wrap16_le h.overload }
    exact h1.noticeHigh _ _ _
  · exact h

theorem countClip (h : s.RangedWith q) : s.countClip.RangedWith q := by
  unfold State.countClip
  split
  · have h1 : (s.modCounters fun c => { c with clip := wrap16 c.clip }).RangedWith q :=
      { h with clip := wrap16_le h.clip }
    exact h1.noticeHigh _ _ _
  · exact h

theorem selectSource (h : s.RangedWith q) (i : SlotIx) (src : Source) : (s.selectSource i src).RangedWith q :=
  h.modExtraction i fun x hx => by simpa using hx

theorem flipSource (h : s.RangedWith q) (i : SlotIx) (cause : Cause) : (s.flipSource i cause).RangedWith q := by
  unfold State.flipSource
  split
  · exact ((h.count _ _).write _).selectSource _ _
  · exact h

/-! Transitions of a slot. -/

theorem releaseGrant (h : s.RangedWith q) (i : SlotIx) : (s.releaseGrant i).RangedWith q := h.modGrant i _

theorem enterRising (h : s.RangedWith q) (i : SlotIx) : (s.enterRising i).RangedWith q :=
  h.modSlot i fun _ _ => ⟨clampGain_bounds _, clampGain_bounds _⟩

theorem enterDeferred (h : s.RangedWith q) (i : SlotIx) (cause : Cause) : (s.enterDeferred i cause).RangedWith q := by
  unfold State.enterDeferred
  exact ((h.modSlot i).releaseGrant i).write _

theorem enterFalling (h : s.RangedWith q) (i : SlotIx) (dest : FallDest) : (s.enterFalling i dest).RangedWith q := by
  unfold State.enterFalling
  exact (h.modSlot i).releaseGrant i

theorem enterOff (h : s.RangedWith q) (i : SlotIx) : (s.enterOff i).RangedWith q := by
  unfold State.enterOff
  exact (h.modSlot i).releaseGrant i

theorem loseCarrier (h : s.RangedWith q) (i : SlotIx) (cause : Cause) : (s.loseCarrier i cause).RangedWith q := by
  unfold State.loseCarrier
  exact ((((h.modSlot i).count .losses i).write _).flipSource i .loss).modSlot i

/-! Allocation runs. -/

theorem deliver (h : s.RangedWith q) (raise : Bool) (before : PerSlot GrantRec) (i : SlotIx) :
    (State.deliver raise before s i).RangedWith q := by
  unfold State.deliver
  dsimp only
  split
  · split
    · split
      · exact h.enterRising i
      · exact h.enterDeferred i _
    · exact h
  · split
    · exact (h.enterRising i).write _
    · exact h
  iterate 3
    · split
      · exact h.enterFalling i _
      · exact h.modSlot i (by exact fun _ hx => Slot.Bounded.cutGain hx _)
  · split
    · exact h.enterDeferred i _
    · exact h
  · exact h
  · exact h

theorem run (h : s.RangedWith q) (raise : Bool) : (s.run raise).RangedWith q := by
  unfold State.run State.deliverAll
  exact foldl_keeps (State.RangedWith q) _ (fun _ i hs => hs.deliver raise _ i) allSlots _
    (h.modAlloc (f := fun a => { a with table := s.runTable raise }) h.overloadRun)

theorem startRun (h : s.RangedWith q) : s.startRun.RangedWith q := by
  unfold State.startRun
  split
  · exact h.modAlloc h.overloadRun
  · exact h.run _

theorem holdAlloc (h : s.RangedWith q) : s.holdAlloc.RangedWith q := h.modAlloc h.overloadRun

theorem releaseWithRaise (h : s.RangedWith q) : s.releaseWithRaise.RangedWith q := by
  unfold State.releaseWithRaise
  split
  · exact (h.modAlloc h.overloadRun).run _
  · exact h

theorem releaseWithoutRaise (h : s.RangedWith q) : s.releaseWithoutRaise.RangedWith q := by
  unfold State.releaseWithoutRaise
  have h1 := h.modAlloc (f := fun a => { a with held := false, pendingRun := false }) h.overloadRun
  dsimp only
  split
  · split
    · exact h1.run _
    · exact h1
  · exact h

/-! Failing, reviving, adopting and raising. -/

theorem enterFailed (h : s.RangedWith q) (i : SlotIx) : (s.enterFailed i).RangedWith q := by
  unfold State.enterFailed
  exact (((h.modSlot i).releaseGrant i).write _).startRun

theorem reviveSlot (h : s.RangedWith q) (i : SlotIx) (port : Option Port) (tag : Option Byte) (cause : Cause) :
    (s.reviveSlot i port tag cause).RangedWith q := by
  unfold State.reviveSlot
  exact (((((h.modSlot i).selectSource i .primary).modSlot i).releaseGrant i).startRun).write _

theorem attempt (h : s.RangedWith q) (i : SlotIx) : (s.attempt i).RangedWith q := by
  have h1 := (h.modSlot i (f := fun x => { x with attempts := min 255 (x.attempts + 1) })).count
    .attempts i
  unfold State.attempt
  dsimp only
  split
  · exact h1.enterFailed i
  · exact (h1.flipSource i _).modSlot i

theorem adjustLimit (h : s.RangedWith q) (i : SlotIx) (limit : Nat) : (s.adjustLimit i limit).RangedWith q := by
  unfold State.adjustLimit
  split
  · split
    · exact h.reviveSlot i _ _ _
    · exact h.modSlot i
  · split
    · exact h.modSlot i
    · exact h

theorem raiseOrder (h : s.RangedWith q) (i : SlotIx) : (s.raiseOrder i).RangedWith q := by
  unfold State.raiseOrder
  exact ((h.modSlot i).modExtraction i (by exact fun _ hx => Extraction.adopt_lastLevel_bounded hx _ _)).modPlacement i _

theorem endChange (h : s.RangedWith q) : s.endChange.RangedWith q := h.modCtl h.generation

theorem raise (h : s.RangedWith q) : s.raise.RangedWith q := by
  unfold State.raise
  exact (((foldl_keeps (State.RangedWith q) _ (fun _ i hs => hs.raiseOrder i) (members s.ctl.drainSet) _
    (h.modCtl (f := fun c => { c with state := .raising }) h.generation)).releaseWithRaise).endChange).writeOpt _

/-! The installation of a plan. -/

theorem levelOnly (h : s.RangedWith q) (old : Plan) (i : SlotIx) : (State.levelOnly old s i).RangedWith q := by
  unfold State.levelOnly
  dsimp only
  split
  · exact h.modSlot i
  · exact (h.modSlot i).adjustLimit i _

theorem drainOrder (h : s.RangedWith q) (i : SlotIx) : (s.drainOrder i).RangedWith q := by
  unfold State.drainOrder
  split
  iterate 3 exact h.enterFalling i _
  · exact h.modSlot i
  iterate 3 exact h.enterOff i
  · exact h

theorem takePlan (h : s.RangedWith q) (p : Plan) (c : Change) : (s.takePlan p c).RangedWith q :=
  h.holdAlloc.modCtl (nextGeneration_le h.generation)

theorem sendOrders (h : s.RangedWith q) (old : Plan) (drain cut : PerSlot Bool) :
    (s.sendOrders old drain cut).RangedWith q :=
  foldl_keeps (State.RangedWith q) _ (fun _ i hs => hs.drainOrder i) _ _
    (foldl_keeps (State.RangedWith q) _ (fun _ i hs => hs.enterOff i) _ _
      (foldl_keeps (State.RangedWith q) _ (fun _ i hs => hs.levelOnly old i) _ _ h))

theorem awaitFalls (h : s.RangedWith q) (drain : PerSlot Bool) : (s.awaitFalls drain).RangedWith q :=
  h.modCtl h.generation

theorem raiseIfDrained (h : s.RangedWith q) : s.raiseIfDrained.RangedWith q := by
  unfold State.raiseIfDrained
  split
  · exact h.raise
  · exact h

theorem install (h : s.RangedWith q) (p : Plan) (c : Change) : (s.install p c).RangedWith q :=
  ((((h.takePlan p c).writeOpt _).sendOrders _ _ _).awaitFalls _).raiseIfDrained

theorem completeFall (h : s.RangedWith q) (i : SlotIx) : (s.completeFall i).RangedWith q := by
  unfold State.completeFall
  split
  · exact (h.modSlot i).enterDeferred i _
  all_goals
    dsimp only
    split
    · exact ((h.enterOff i).modCtl (h.enterOff i).generation).raiseIfDrained
    · exact h.enterOff i

/-! Authority. -/

theorem renewLease (h : s.RangedWith q) (p : Port) (st : Status) : (s.renewLease p st).RangedWith q := by
  unfold State.renewLease
  split
  · exact h.modArbiter _
  · exact h

theorem writeAuthority (h : s.RangedWith q) (port : Option Port) (tag : Option Byte) (cause : Cause) :
    (s.writeAuthority port tag cause).RangedWith q := h.write _

theorem giveUp (h : s.RangedWith q) (p : Port) : (s.giveUp p).RangedWith q := by
  unfold State.giveUp
  split
  · exact h.modArbiter _
  · exact h

theorem writeFlags (h : s.RangedWith q) (p : Port) (tag : Option Byte) (old new : BitVec 4) (cause : Cause) :
    (s.writeFlags p tag old new cause).RangedWith q := by
  unfold State.writeFlags
  split
  · exact h
  · exact h.write _

theorem lapse (h : s.RangedWith q) : s.lapse.RangedWith q := by
  unfold State.lapse
  split
  · exact (h.modArbiter _).write _
  all_goals exact h

/-! The level interval. -/

theorem measure (h : s.RangedWith q) : s.measure.RangedWith q where
  ports := h.ports
  slots := h.slots
  levels i := by
    show LevelBounded (Vector.ofFn fun i => s.extractions[i].measured : PerSlot Extraction)[i].lastLevel
    rw [PerSlot.getElem_ofFn]
    rcases s.extractions[i].measured_cases with ⟨-, -, -, e⟩ | ⟨-, -, e⟩ <;> rw [e]
    · exact accumLevel_bounded _
    · exact h.levels i
  composite := accumLevel_bounded _
  generation := h.generation
  overloadRun := h.overloadRun
  storeCounts := h.storeCounts
  slotCounters := h.slotCounters
  overload := h.overload
  clip := h.clip

theorem levelLoop (h : s.RangedWith q) (i : SlotIx) (level : Int) : (s.levelLoop i level).RangedWith q := by
  unfold State.levelLoop
  dsimp only
  split
  · exact h.count _ _
  · exact h.modSlot i fun _ hx => ⟨loopGain_bounds hx.1, hx.2⟩

theorem carrierAbsentOn (h : s.RangedWith q) (i : SlotIx) : (s.carrierAbsentOn i).RangedWith q := by
  unfold State.carrierAbsentOn
  split
  · exact h.loseCarrier i _
  · exact h.modSlot i

theorem returnFromHold (h : s.RangedWith q) (i : SlotIx) : (s.returnFromHold i).RangedWith q := by
  unfold State.returnFromHold
  exact (h.modSlot i).count _ _

theorem regain (h : s.RangedWith q) (i : SlotIx) : (s.regain i).RangedWith q := by
  unfold State.regain
  split
  · exact (h.enterRising i).write _
  · exact h.enterDeferred i _

theorem act (h : s.RangedWith q) (i : SlotIx) (level : Int) : (s.act i level).RangedWith q := by
  unfold State.act
  dsimp only
  split
  · split
    · exact h.levelLoop i level
    · exact h.carrierAbsentOn i
  · split
    · exact h.returnFromHold i
    · exact h
  · split
    · exact h
    · exact (h.count _ _).loseCarrier i _
  · split
    · exact h.regain i
    · exact h
  all_goals exact h

theorem takeMeasurement (h : s.RangedWith q) (i : SlotIx) (m : Option (Int × Source)) :
    (s.takeMeasurement i m).RangedWith q := by
  unfold State.takeMeasurement
  split
  · exact h
  · split
    · exact h.act i _
    · exact h

theorem changePool (h : s.RangedWith q) (new : Nat) (n : Option Notice) : (s.changePool new n).RangedWith q := by
  unfold State.changePool
  split
  · exact h
  · exact ((h.modAlloc (f := fun a => { a with pool := new }) h.overloadRun).writeOpt n).startRun

theorem onOverloaded (h : s.RangedWith q) : s.onOverloaded.RangedWith q := by
  unfold State.onOverloaded
  split
  · exact (h.modAlloc (f := fun a => { a with overloadRun := 0 }) (by simp)).changePool _ _
  · exact h.modAlloc (by show s.alloc.overloadRun + 1 ≤ 2; omega)

theorem onClean (h : s.RangedWith q) : s.onClean.RangedWith q :=
  (h.modAlloc (f := fun a => { a with overloadRun := 0 }) (by simp)).changePool _ _

theorem judgeInterval (h : s.RangedWith q) : s.judgeInterval.RangedWith q := by
  have hj : (if s.overloaded then s.countOverload.onOverloaded else s.onClean).RangedWith q := by
    split
    · exact h.countOverload.onOverloaded
    · exact h.onClean
  unfold State.judgeInterval
  dsimp only
  split
  · split
    · exact hj.countClip.modCombiner hj.countClip.composite
    · exact hj.modCombiner hj.composite
  all_goals exact h.modCombiner h.composite

theorem holdOut (h : s.RangedWith q) (i : SlotIx) : (s.holdOut i).RangedWith q := by
  unfold State.holdOut
  split
  · exact h.loseCarrier i _
  · exact h

theorem reacquireOut (h : s.RangedWith q) (i : SlotIx) : (s.reacquireOut i).RangedWith q := by
  unfold State.reacquireOut
  split
  · exact h.attempt i
  · exact h

theorem turn (h : s.RangedWith q) (ms : PerSlot (Option (Int × Source))) (t : Turn) : (s.turn ms t).RangedWith q := by
  cases t with
  | judge i => exact h.takeMeasurement i _
  | combiner => exact h.judgeInterval
  | holdOut i => exact h.holdOut i
  | reacquireOut i => exact h.reacquireOut i

theorem expireInterval (h : s.RangedWith q) (order : List Turn) : (s.expireInterval order).RangedWith q :=
  foldl_keeps (State.RangedWith q) _ (fun _ t hs => hs.turn _ t) _ _ h.measure

theorem completeRise (h : s.RangedWith q) (i : SlotIx) : (s.completeRise i).RangedWith q :=
  h.modSlot i fun x hx => by
    split
    · exact ⟨hx.2, hx.2⟩
    · exact hx

/-! The memory engine. -/

theorem startOp (h : s.RangedWith q) (op : EngineOp) : (s.startOp op).RangedWith q := h.modMemory h.storeCounts

theorem engineIdle (h : s.RangedWith q) : s.engineIdle.RangedWith q := h.modMemory h.storeCounts

theorem blankPage (h : s.RangedWith q) (pg : PageIx) : (s.blankPage pg).RangedWith q :=
  h.modPage pg (h.storeCounts pg)

theorem storeErased (h : s.RangedWith q) : s.storeErased.RangedWith q := by
  unfold State.storeErased
  split
  · exact (h.startOp _).modPage _ (Nat.min_le_left _ _)
  · exact h

theorem storeProgrammed (h : s.RangedWith q) : s.storeProgrammed.RangedWith q := by
  unfold State.storeProgrammed
  split
  · exact h.startOp _
  · exact h

theorem storeVerified (h : s.RangedWith q) (intact : Bool) : (s.storeVerified intact).RangedWith q := by
  unfold State.storeVerified
  split
  · split <;> exact ((h.modPage _ (h.storeCounts _)).engineIdle).write _
  · exact h

theorem pageErased (h : s.RangedWith q) : s.pageErased.RangedWith q := by
  unfold State.pageErased
  split
  · exact h.engineIdle.write _
  · exact h

theorem pageLoaded (h : s.RangedWith q) (intact : Bool) : (s.pageLoaded intact).RangedWith q := by
  unfold State.pageLoaded
  split
  · split
    · exact (h.modDraft _ _).engineIdle.write _
    · exact (((h.modDraft _ _).modPage _ (h.storeCounts _)).engineIdle).write _
  · exact h

theorem bootWritten (h : s.RangedWith q) (intact : Bool) : (s.bootWritten intact).RangedWith q := by
  unfold State.bootWritten
  split
  · split
    · exact ((h.modMemory h.storeCounts).engineIdle).write _
    · exact h.engineIdle.write _
  · exact h

end State.RangedWith

/-- Marking a page keeps its store count. -/
@[simp] theorem Memory.markCorrupt_storeCount (m : Memory) (pg : Option PageIx) (r : TryResult) (i : PageIx) :
    (m.markCorrupt pg r).pages[i].storeCount = m.pages[i].storeCount := by
  rw [Memory.markCorrupt_pages]; split <;> rfl

/-- So does a read that goes on. -/
theorem Memory.readOn_storeCount (m : Memory) (intact : Bool) (op : EngineOp) (next : ReadItem) (i : PageIx) :
    (m.readOn intact op next).pages[i].storeCount = m.pages[i].storeCount := by
  unfold Memory.readOn
  dsimp only
  split
  · exact Memory.markCorrupt_storeCount _ _ _ _
  · rfl

/-- A sample period keeps every store count. -/
theorem State.memoryPeriod_storeCount (s : State) (i : PageIx) :
    s.memoryPeriod.pages[i].storeCount = s.memory.pages[i].storeCount := by
  rcases s.memoryPeriod_cases with e | ⟨op, next, -, -, -, e⟩ <;> rw [e]
  exact Memory.readOn_storeCount _ _ _ _ _

/-- A device reset keeps every store count (R112). -/
theorem Memory.afterReset_storeCount (m : Memory) (i : PageIx) :
    m.afterReset.pages[i].storeCount = m.pages[i].storeCount := by
  have hset (pg : PageIx) (y : Page) (hy : y.storeCount = m.pages[pg].storeCount) :
      (m.pages.set pg y)[i].storeCount = m.pages[i].storeCount := by
    rw [PerSlot.getElem_set]
    split
    · subst_vars; exact hy
    · rfl
  unfold Memory.afterReset
  dsimp only
  split
  all_goals first | rfl | exact hset _ _ rfl

namespace State.RangedWith

variable {q : PerPort PortState} {s : State}

theorem samplePeriod (h : s.RangedWith q) (n : Nat) : ({ s.samplePeriod with sampleClock := n } : State).RangedWith q where
  ports := h.ports
  slots i := by
    show (Vector.ofFn fun i => s.slots[i].tick : PerSlot Slot)[i].Bounded
    rw [PerSlot.getElem_ofFn]
    exact h.slots i
  levels i := by
    show LevelBounded (Vector.ofFn fun i => s.extractions[i].sample s.rx : PerSlot Extraction)[i].lastLevel
    rw [PerSlot.getElem_ofFn]
    rcases s.extractions[i].sample_cases s.rx with ⟨-, e⟩ | ⟨-, e⟩ <;> rw [e] <;> exact h.levels i
  composite := h.composite
  generation := h.generation
  overloadRun := h.overloadRun
  storeCounts i := by
    show s.memoryPeriod.pages[i].storeCount ≤ 16777215
    rw [State.memoryPeriod_storeCount]
    exact h.storeCounts i
  slotCounters := h.slotCounters
  overload := h.overload
  clip := h.clip

theorem idle (h : s.RangedWith q) : s.idle.RangedWith q := by
  unfold State.idle
  split
  · exact { h with }
  · split
    · exact { h with }
    · exact h.samplePeriod _

theorem endRead (h : s.RangedWith q) (o : BootOutcome) : (s.endRead o).RangedWith q :=
  h.modMemory fun i => by
    show (Memory.markCorrupt (Memory.markCorrupt _ _ _) _ _).pages[i].storeCount ≤ _
    rw [Memory.markCorrupt_storeCount, Memory.markCorrupt_storeCount]
    exact h.storeCounts i

theorem startUpInstall (h : s.RangedWith q) (pl : Plan) : (s.startUpInstall pl).RangedWith q := by
  unfold State.startUpInstall
  exact ((foldl_keeps (State.RangedWith q) _ (fun _ i hs => hs.raiseOrder i) allSlots _
    (h.modCtl (f := fun c => { c with active := pl, generation := 1, change := some .startUp })
      (by simp))).releaseWithRaise).endChange

theorem startUpEnd (h : s.RangedWith q) (x y : Bool) : (s.startUpEnd x y).RangedWith q := by
  unfold State.startUpEnd
  split
  · dsimp only
    refine write ?_ _
    split
    · exact (h.endRead _).startUpInstall _
    · exact (h.endRead _).releaseWithoutRaise.endChange
  · exact h

theorem reloadEnd (h : s.RangedWith q) (x y : Bool) : (s.reloadEnd x y).RangedWith q := by
  unfold State.reloadEnd
  split
  · dsimp only
    split
    · exact (h.endRead _).install _ _
    · exact ((h.endRead _).endChange.releaseWithoutRaise).write _
  · exact h

theorem interlockOn (h : s.RangedWith q) : s.interlockOn.RangedWith q := by
  unfold State.interlockOn
  split
  iterate 2 exact (h.modCombiner h.composite).write _
  exact h

theorem interlockOff (h : s.RangedWith q) : s.interlockOff.RangedWith q := by
  unfold State.interlockOff
  split
  · exact (h.modCombiner h.composite).write _
  all_goals exact h

/-! The owning blocks of the requests that leave the ports alone. -/

section Handlers

variable (h : s.RangedWith q) (p : Port) (r : Request)
include h

theorem onIdentify : (onIdentify p r s).1.RangedWith q := h

theorem onNop : (onNop p r s).1.RangedWith q := h

theorem onStatusRead : (onStatusRead p r s).1.RangedWith q := h

theorem onUnknown : (onUnknown p r s).1.RangedWith q := h

theorem onBudgetRead : (onBudgetRead p r s).1.RangedWith q := h

theorem onBootRead : (onBootRead p r s).1.RangedWith q := h

theorem onPlanRead : (onPlanRead p r s).1.RangedWith q := by
  unfold Machine.onPlanRead
  dsimp only
  repeat' split
  all_goals exact h

theorem onDraftGet : (onDraftGet p r s).1.RangedWith q := by
  unfold Machine.onDraftGet
  dsimp only
  repeat' split
  all_goals exact h

theorem onSlotRead : (onSlotRead p r s).1.RangedWith q := by
  unfold Machine.onSlotRead
  split <;> exact h

theorem onPageInfo : (onPageInfo p r s).1.RangedWith q := by
  unfold Machine.onPageInfo
  split <;> exact h

theorem claimOpen : (s.claimOpen p r.tag).RangedWith q := (h.modArbiter _).write _

theorem onClaimNormal : (onClaimNormal p r s).1.RangedWith q := by
  unfold Machine.onClaimNormal State.withView
  split
  · exact h
  · split
    · exact h.claimOpen p r
    · split
      · exact h.renewLease p _
      · exact h
    · exact h

theorem onClaimForce : (onClaimForce p r s).1.RangedWith q := by
  unfold Machine.onClaimForce State.withView
  split
  · exact h.claimOpen p r
  · exact h
  · split
    · exact h.renewLease p _
    · split
      · exact (h.modArbiter _).write _
      · exact (h.modArbiter _).write _

theorem onRelease : (onRelease p r s).1.RangedWith q := by
  unfold Machine.onRelease State.withView
  split
  · exact (h.giveUp p).write _
  · exact h

theorem onFlagsWrite : (onFlagsWrite p r s).1.RangedWith q := by
  unfold Machine.onFlagsWrite
  split
  · exact h
  · exact (h.modArbiter _).writeFlags p _ _ _ _

theorem trimEntry (i : SlotIx) (f : Entry → Entry) : (s.trimEntry i f).RangedWith q :=
  h.modCtl (nextGeneration_le h.generation)

theorem onTrimLevel : (onTrimLevel p r s).1.RangedWith q := by
  unfold Machine.onTrimLevel
  split
  · exact h
  · dsimp only
    split
    · exact h
    · split
      · exact h
      · exact ((h.trimEntry _ _).write _).startRun

theorem trimFrequency (i : SlotIx) (delta : Int) : (s.trimFrequency p r.tag i delta).RangedWith q := by
  unfold State.trimFrequency
  exact ((((h.trimEntry i _).modSlot i).modPlacement i _).write _)

theorem onTrimFrequency : (onTrimFrequency p r s).1.RangedWith q := by
  unfold Machine.onTrimFrequency
  split
  · exact h
  · dsimp only
    split
    · exact h
    · split
      · exact h
      · split
        · split
          · exact h
          · exact h.trimFrequency p r _ _
        · split
          · exact h
          · exact h.trimFrequency p r _ _

theorem onRevive : (onRevive p r s).1.RangedWith q := by
  unfold Machine.onRevive
  split
  · exact h
  · split
    · exact h
    · split
      · exact h.reviveSlot _ _ _ _
      · exact h

theorem editDraft {f : State → State × Reply} (hf : (f s).1.RangedWith q) : (s.editDraft p f).1.RangedWith q := by
  unfold State.editDraft
  split
  · exact h
  · exact hf

theorem onDraftCopy : (onDraftCopy p r s).1.RangedWith q := by
  refine h.editDraft p ?_
  exact h.setDraft p _

theorem onDraftClear : (onDraftClear p r s).1.RangedWith q := by
  refine h.editDraft p ?_
  exact h.setDraft p _

theorem onDraftPutEntry : (onDraftPutEntry p r s).1.RangedWith q := by
  refine h.editDraft p ?_
  split
  · exact h
  · dsimp only
    exact h.modDraft p _

theorem onDraftPutHeader : (onDraftPutHeader p r s).1.RangedWith q := by
  refine h.editDraft p ?_
  split
  · exact h
  · dsimp only
    exact h.modDraft p _

theorem onCommit : (onCommit p r s).1.RangedWith q := by
  unfold Machine.onCommit
  split
  · exact h
  · dsimp only
    exact h.install _ _

theorem onPageStore : (onPageStore p r s).1.RangedWith q := by
  unfold Machine.onPageStore
  repeat' split
  all_goals first | exact h | exact (h.startOp _).blankPage _

theorem onPageLoad : (onPageLoad p r s).1.RangedWith q := by
  unfold Machine.onPageLoad
  repeat' split
  all_goals dsimp only
  all_goals first | exact h | exact (h.startOp _).modDraft _ _

theorem onPageErase : (onPageErase p r s).1.RangedWith q := by
  unfold Machine.onPageErase
  repeat' split
  all_goals first | exact h | exact (h.startOp _).blankPage _

theorem onBootSet : (onBootSet p r s).1.RangedWith q := by
  unfold Machine.onBootSet
  repeat' split
  all_goals dsimp only
  all_goals first | exact h | exact (h.startOp _).modMemory (by exact h.storeCounts)

theorem onReload : (onReload p r s).1.RangedWith q := by
  unfold Machine.onReload
  repeat' split
  all_goals first | exact h | exact ((h.modCtl h.generation).holdAlloc).startOp _

theorem onCounterControl : (onCounterControl p r s).1.RangedWith q := by
  unfold Machine.onCounterControl
  dsimp only
  repeat' split
  all_goals first | exact h | exact { h with }

theorem onEventRead : (onEventRead p r s).1.RangedWith q := by
  unfold Machine.onEventRead
  dsimp only
  split
  · exact h
  · dsimp only
    exact h.modRing _

theorem onCounterRead : (onCounterRead p r s).1.RangedWith q := by
  unfold Machine.onCounterRead
  dsimp only
  split
  · exact h
  · split
    · exact h
    · split
      · exact h
      · rename_i c bs hc
        unfold CounterBank.read at hc
        split at hc
        · simp only [Option.some.injEq, Prod.mk.injEq] at hc
          obtain ⟨rfl, -⟩ := hc
          split
          · exact { h with slotCounters := PerSlot.forall_set _ h.slotCounters (by decide) }
          · exact { h with }
        · split at hc
          · simp only [Option.some.injEq, Prod.mk.injEq] at hc
            obtain ⟨rfl, -⟩ := hc
            split
            · exact { h with overload := Nat.zero_le _, clip := Nat.zero_le _ }
            · exact { h with }
          · cases hc

end Handlers

end State.RangedWith

end Sys2Proof.Machine

namespace Sys2Proof.Machine

/-! ### What a step, a held-off command and a taking can come to -/

/-- A step is the front command's meaning on the queue's rest, or on an empty queue what the part does by itself. -/
theorem step_cases {s t : State} (h : step s = .next t) :
    (s.pending = [] ∧ t = s.idle)
    ∨ ∃ c rest, s.pending = c :: rest ∧ exec c { s with pending := rest } = .next t := by
  unfold step at h
  split at h
  · exact .inl ⟨‹_›, (Host.Outcome.next.inj h).symm⟩
  · exact .inr ⟨_, _, ‹_›, h⟩

/-- A command that a reset holds off leaves the state, or acts outside a reset. -/
theorem State.running_cases {s t : State} {f : State → State} (h : s.running f = .next t) :
    t = s ∨ s.inReset = false ∧ t = f s := by
  have ht : (if s.inReset then s else f s) = t := Host.Outcome.next.inj h
  cases hr : s.inReset with
  | true => exact .inl (by simpa [hr] using ht.symm)
  | false => exact .inr ⟨rfl, by simpa [hr] using ht.symm⟩

/-- A taking leaves the state, or answers the oldest request of the row: refused at its form, or by its owning block. -/
theorem State.take_cases {s t : State} {p : Port} {row : RequestRow} {handler : Port → Request → State → State × Reply}
    (h : s.take p row handler = .next t) :
    t = s ∨ ∃ r, s.mayTake p r ∧ requestRow r = row
      ∧ ((∃ st, formCheck r = some st ∧ t = (s.dequeue p).respond p r ⟨st, s.formBody row⟩)
        ∨ (formCheck r = none
          ∧ t = (handler p r (s.dequeue p)).1.respond p r (handler p r (s.dequeue p)).2)) := by
  by_cases hr : ∃ r, s.mayTake p r ∧ requestRow r = row
  · obtain ⟨r, hm, hrow⟩ := hr
    refine .inr ⟨r, hm, hrow, ?_⟩
    cases hf : formCheck r with
    | some st =>
      rw [State.take_of_form hm hrow hf] at h
      exact .inl ⟨st, rfl, (Host.Outcome.next.inj h).symm⟩
    | none =>
      rw [State.take_of_takes ⟨hm, hrow, hf⟩] at h
      exact .inr ⟨rfl, (Host.Outcome.next.inj h).symm⟩
  · refine .inl ?_
    unfold State.take at h
    rcases State.running_cases h with h | ⟨h0, h⟩
    · exact h
    · rw [h]
      cases hq : (s.ports.get p).requests with
      | nil => rfl
      | cons r l =>
        refine if_neg fun hc => hr ⟨r, ⟨h0, by rw [hq]; rfl, ?_⟩, ?_⟩ <;> simp_all

/-! ### Every step keeps the ranges -/

theorem PerPort.forall_set {α : Type} {P : α → Prop} {x : PerPort α} (h : P x.a ∧ P x.b) (p : Port) {y : α} (hy : P y) :
    P (x.set p y).a ∧ P (x.set p y).b := by
  cases p
  · exact ⟨hy, h.2⟩
  · exact ⟨h.1, hy⟩

theorem PerPort.get_of_both {α : Type} {P : α → Prop} {x : PerPort α} (h : P x.a ∧ P x.b) (p : Port) : P (x.get p) := by
  cases p
  · exact h.1
  · exact h.2

/-- A change of one port keeps the ranges where it keeps the port's. -/
theorem State.Bounded.modPort {s : State} (h : s.Bounded) (p : Port) {f : PortState → PortState}
    (hf : (s.ports.get p).Bounded → (f (s.ports.get p)).Bounded) : (s.modPort p f).Bounded := by
  obtain ⟨hp, hs⟩ := s.bounded_iff.mp h
  exact (State.bounded_iff _).mpr
    ⟨PerPort.forall_set (P := PortState.Bounded) hp p (hf (PerPort.get_of_both hp p)), { hs with ports := rfl }⟩

/-- An operation that leaves the ports alone and keeps the other ranges keeps all. -/
theorem State.Bounded.of_rangedWith {s t : State} (h : s.Bounded)
    (ht : s.RangedWith s.ports → t.RangedWith s.ports) : t.Bounded := by
  obtain ⟨hp, hs⟩ := s.bounded_iff.mp h
  have ht := ht hs
  exact t.bounded_iff.mpr ⟨by rw [ht.ports]; exact hp, { ht with ports := rfl }⟩

/-- An answer finds room where the response queue has a free place. -/
theorem State.Bounded.respond {s : State} (h : s.Bounded) {p : Port} (hroom : (s.ports.get p).responses.length < 8)
    (r : Request) (a : Reply) : (s.respond p r a).Bounded := by
  have h1 : (s.renewLease p a.status).Bounded := h.of_rangedWith fun hs => hs.renewLease p _
  have hports : (s.renewLease p a.status).ports = s.ports := by
    unfold State.renewLease; split <;> rfl
  unfold State.respond
  dsimp only
  split
  · exact h1
  · refine h1.modPort p fun ⟨h2, _, h3⟩ => ⟨h2, ?_, h3⟩
    simp only [hports, List.length_append, List.length_singleton]
    omega

theorem State.Bounded.dequeue {s : State} (h : s.Bounded) (p : Port) : (s.dequeue p).Bounded :=
  h.modPort p fun ⟨h1, h2⟩ => ⟨by simp only [List.length_tail]; omega, h2⟩

/-- A taken request keeps the ranges when its owning block leaves the ports alone and keeps the other ranges. -/
theorem State.Bounded.take {s t : State} (h : s.Bounded) {p : Port} {row : RequestRow}
    {handler : Port → Request → State → State × Reply}
    (hh : ∀ (r : Request) (u : State), u.RangedWith u.ports → (handler p r u).1.RangedWith u.ports)
    (ht : s.take p row handler = .next t) : t.Bounded := by
  rcases State.take_cases ht with rfl | ⟨r, ⟨-, -, hroom⟩, -, ⟨st, -, rfl⟩ | ⟨-, rfl⟩⟩
  · exact h
  · exact (h.dequeue p).respond (by simpa using hroom) r _
  · have hk := hh r _ ((State.bounded_iff _).mp (h.dequeue p)).2
    refine ((h.dequeue p).of_rangedWith fun _ => hk).respond ?_ r _
    rw [hk.ports]
    simpa using hroom

/-- A port as a PORT CLEAR leaves it (R149). -/
def PortState.cleared (x : PortState) : PortState :=
  { x with requests := [], responses := [], frameAtHead := false, badFrames := 0, overruns := 0 }

/-- A PORT CLEAR clears its port; the rest of it leaves the ports alone and keeps the other ranges. -/
theorem State.RangedWith.clearPort {q : PerPort PortState} {s : State} {p : Port}
    (h : (s.modPort p PortState.cleared).RangedWith q) : (s.clearPort p).RangedWith q := by
  have h1 := ((h.modArbiter fun a => { a with flags := a.flags.set p 0 }).giveUp p).modRing fun r =>
    { r with unread := r.unread.set p 0, lost := r.lost.set p 0 }
  unfold State.clearPort
  dsimp only
  split
  · exact (h1.writeAuthority _ _ _).writeFlags _ _ _ _ _
  · exact h1.writeFlags _ _ _ _ _

theorem State.Bounded.takePortClear {s t : State} (h : s.Bounded) {p : Port}
    (ht : s.take p .portClear onPortClear = .next t) : t.Bounded := by
  rcases State.take_cases ht with rfl | ⟨r, ⟨-, -, hroom⟩, -, ⟨st, -, rfl⟩ | ⟨-, rfl⟩⟩
  · exact h
  · exact (h.dequeue p).respond (by simpa using hroom) r _
  · have hc : ((s.dequeue p).modPort p PortState.cleared).Bounded :=
      (h.dequeue p).modPort p fun _ => ⟨Nat.zero_le _, Nat.zero_le _, Nat.zero_le _, Nat.zero_le _⟩
    have hk := State.RangedWith.clearPort ((State.bounded_iff _).mp hc).2
    refine (hc.of_rangedWith fun _ => hk).respond ?_ r _
    show (PerPort.get ((s.dequeue p).clearPort p).ports p).responses.length < 8
    rw [hk.ports]
    simp [State.modPort, PortState.cleared]

theorem PortState.Bounded.discardBad {x : PortState} (h : x.Bounded) : x.discardBad.Bounded := by
  obtain ⟨h1, h2, h3, h4⟩ := h
  refine ⟨h1, ?_, wrap16_le h3, h4⟩
  unfold PortState.discardBad
  dsimp only
  split
  · simp; omega
  · exact h2

theorem PortState.Bounded.begin {x : PortState} (h : x.Bounded) : x.begin.Bounded := h

theorem PortState.Bounded.finish {x : PortState} (h : x.Bounded) : x.finish.Bounded := by
  unfold PortState.finish
  dsimp only
  split
  · exact h.discardBad
  · exact h

theorem PortState.Bounded.offer {x : PortState} (h : x.Bounded) (f : Frame) : (x.offer f).Bounded := by
  obtain ⟨h1, h2, h3, h4⟩ := h
  unfold PortState.offer
  split
  · exact ⟨by simp; omega, h2, h3, h4⟩
  · exact ⟨h1, h2, h3, wrap16_le h4⟩

theorem PortState.Bounded.complete {x : PortState} (h : x.Bounded) (f : Frame) : (x.complete f).Bounded := by
  have h1 : ({ x with receive := .ignoring } : PortState).Bounded := h
  unfold PortState.complete
  dsimp only
  split
  · split
    · exact h1.offer f
    · exact h1.discardBad
  · exact h

theorem PortState.Bounded.tooLong {x : PortState} (h : x.Bounded) (n : Nat) : (x.tooLong n).Bounded := by
  unfold PortState.tooLong
  split
  · exact h.discardBad
  · exact h

theorem PortState.Bounded.shiftedOut {x : PortState} (h : x.Bounded) : x.shiftedOut.Bounded := by
  obtain ⟨h1, h2, h3⟩ := h
  unfold PortState.shiftedOut
  split
  · exact ⟨h1, by simp only [List.length_tail]; omega, h3⟩
  · exact ⟨h1, h2, h3⟩

theorem PortState.Bounded.start {x : PortState} (h : x.Bounded) : x.start.Bounded := by
  unfold PortState.start
  split <;> exact h

theorem PortState.afterReset_bounded (x : PortState) : x.afterReset.Bounded :=
  ⟨Nat.zero_le _, Nat.zero_le _, Nat.zero_le _, Nat.zero_le _⟩

theorem reset_slots_bounded : ∀ i : SlotIx, State.reset.slots[i].Bounded := by decide

theorem reset_levels_bounded : ∀ i : SlotIx, LevelBounded State.reset.extractions[i].lastLevel := by decide

theorem reset_slotCounters_bounded : ∀ i : SlotIx, State.reset.counters.slots[i].Bounded := by decide

/-- A device reset returns every counter, level and queue to its reset value and keeps the store counts. -/
theorem State.Bounded.deviceReset {s : State} (h : s.Bounded) (cause : ResetCause) : (s.deviceReset cause).Bounded := by
  refine (State.bounded_iff _).mpr ⟨⟨PortState.afterReset_bounded _, PortState.afterReset_bounded _⟩, ?_⟩
  constructor
  · rfl
  · exact reset_slots_bounded
  · exact reset_levels_bounded
  · exact show LevelBounded (-200) by decide
  · exact Nat.zero_le _
  · exact Nat.zero_le _
  · intro i
    show s.memory.afterReset.pages[i].storeCount ≤ 16777215
    rw [Memory.afterReset_storeCount]
    exact ((State.bounded_iff _).mp h).2.storeCounts i
  · exact reset_slotCounters_bounded
  · exact Nat.zero_le _
  · exact Nat.zero_le _

/-- A command that a reset holds off keeps the ranges where its action does. -/
theorem State.Bounded.running {s t : State} (h : s.Bounded) {f : State → State} (ht : s.running f = .next t)
    (hf : (f s).Bounded) : t.Bounded := by
  rcases State.running_cases ht with rfl | ⟨-, rfl⟩
  · exact h
  · exact hf

/-- So does one whose action leaves the ports alone and keeps the other ranges. -/
theorem State.Bounded.running_of_rangedWith {s t : State} (h : s.Bounded) {f : State → State}
    (ht : s.running f = .next t) (hf : s.RangedWith s.ports → (f s).RangedWith s.ports) : t.Bounded :=
  h.running ht (h.of_rangedWith hf)

theorem State.Bounded.resetEnd {s t : State} (h : s.Bounded) (ht : execResetEnd s = .next t) : t.Bounded := by
  rw [← Host.Outcome.next.inj ht]
  split
  · exact h.of_rangedWith fun hs => { hs with composite := show LevelBounded (-200) by decide }
  · exact h

theorem State.Bounded.interlockAsserted {s t : State} (h : s.Bounded) (ht : execInterlockAsserted s = .next t) :
    t.Bounded := by
  rw [← Host.Outcome.next.inj ht]
  split
  · exact h
  · split
    · exact h
    · exact h.of_rangedWith fun hs => State.RangedWith.interlockOn { hs with }

theorem State.Bounded.interlockReleased {s t : State} (h : s.Bounded) (ht : execInterlockReleased s = .next t) :
    t.Bounded := by
  rw [← Host.Outcome.next.inj ht]
  split
  · exact h
  · split
    · exact h
    · exact h.of_rangedWith fun hs => State.RangedWith.interlockOff { hs with }

theorem State.Bounded.transferBegin {s t : State} (h : s.Bounded) {p : Port} (ht : execTransferBegin p s = .next t) :
    t.Bounded := by
  rw [← Host.Outcome.next.inj ht]
  refine h.modPort p fun hx => ?_
  split
  · exact hx
  · split
    · exact hx
    · exact hx.begin

theorem State.Bounded.transferEnd {s t : State} (h : s.Bounded) {p : Port} (ht : execTransferEnd p s = .next t) :
    t.Bounded := by
  rw [← Host.Outcome.next.inj ht]
  refine h.modPort p fun hx => ?_
  split
  · exact hx
  · split
    · exact hx
    · exact hx.finish

/-- Every command keeps the ranges. -/
theorem exec_bounded {s t : State} (c : Instr) (h : s.Bounded) (ht : exec c s = .next t) : t.Bounded := by
  cases c with
  | deviceReset cause => rw [← Host.Outcome.next.inj ht]; exact h.deviceReset cause
  | resetEnd => exact h.resetEnd ht
  | interlockAsserted => exact h.interlockAsserted ht
  | interlockReleased => exact h.interlockReleased ht
  | transferBegin p => exact h.transferBegin ht
  | transferEnd p => exact h.transferEnd ht
  | requestFrame p f =>
    exact h.running (f := fun s => s.modPort p fun x => x.complete f) ht (h.modPort p fun hx => hx.complete f)
  | bodyLengthAbove256 p n =>
    exact h.running (f := fun s => s.modPort p fun x => x.tooLong n) ht (h.modPort p fun hx => hx.tooLong n)
  | responseShiftedOut p =>
    exact h.running (f := fun s => s.modPort p fun x => x.shiftedOut) ht (h.modPort p fun hx => hx.shiftedOut)
  | startByte p => exact h.running (f := fun s => s.modPort p fun x => x.start) ht (h.modPort p fun hx => hx.start)
  | identify p => exact h.take (fun r _ hu => hu.onIdentify p r) ht
  | statusRead p => exact h.take (fun r _ hu => hu.onStatusRead p r) ht
  | nop p => exact h.take (fun r _ hu => hu.onNop p r) ht
  | portClear p => exact h.takePortClear ht
  | claimNormal p => exact h.take (fun r _ hu => hu.onClaimNormal p r) ht
  | claimForce p => exact h.take (fun r _ hu => hu.onClaimForce p r) ht
  | release p => exact h.take (fun r _ hu => hu.onRelease p r) ht
  | flagsWrite p => exact h.take (fun r _ hu => hu.onFlagsWrite p r) ht
  | planRead p => exact h.take (fun r _ hu => hu.onPlanRead p r) ht
  | trimLevel p => exact h.take (fun r _ hu => hu.onTrimLevel p r) ht
  | trimFrequency p => exact h.take (fun r _ hu => hu.onTrimFrequency p r) ht
  | slotRead p => exact h.take (fun r _ hu => hu.onSlotRead p r) ht
  | revive p => exact h.take (fun r _ hu => hu.onRevive p r) ht
  | budgetRead p => exact h.take (fun r _ hu => hu.onBudgetRead p r) ht
  | draftCopy p => exact h.take (fun r _ hu => hu.onDraftCopy p r) ht
  | draftPutEntry p => exact h.take (fun r _ hu => hu.onDraftPutEntry p r) ht
  | draftPutHeader p => exact h.take (fun r _ hu => hu.onDraftPutHeader p r) ht
  | draftClear p => exact h.take (fun r _ hu => hu.onDraftClear p r) ht
  | draftGet p => exact h.take (fun r _ hu => hu.onDraftGet p r) ht
  | commit p => exact h.take (fun r _ hu => hu.onCommit p r) ht
  | pageStore p => exact h.take (fun r _ hu => hu.onPageStore p r) ht
  | pageLoad p => exact h.take (fun r _ hu => hu.onPageLoad p r) ht
  | pageErase p => exact h.take (fun r _ hu => hu.onPageErase p r) ht
  | pageInfo p => exact h.take (fun r _ hu => hu.onPageInfo p r) ht
  | bootSet p => exact h.take (fun r _ hu => hu.onBootSet p r) ht
  | bootRead p => exact h.take (fun r _ hu => hu.onBootRead p r) ht
  | reload p => exact h.take (fun r _ hu => hu.onReload p r) ht
  | counterControl p => exact h.take (fun r _ hu => hu.onCounterControl p r) ht
  | counterRead p => exact h.take (fun r _ hu => hu.onCounterRead p r) ht
  | eventRead p => exact h.take (fun r _ hu => hu.onEventRead p r) ht
  | unknownRequest p => exact h.take (fun r _ hu => hu.onUnknown p r) ht
  | levelIntervalExpiry order =>
    exact h.running_of_rangedWith (f := fun s => s.expireInterval order) ht (fun hs => hs.expireInterval order)
  | settlingComplete i =>
    exact h.running_of_rangedWith (f := fun s => s.modExtraction i fun x => { x with settling := none }) ht
      (fun hs => hs.modExtraction i fun _ hx => hx)
  | holdTimerExpiry i => exact h.running_of_rangedWith ht (fun hs => hs.holdOut i)
  | reacquireTimerExpiry i => exact h.running_of_rangedWith ht (fun hs => hs.reacquireOut i)
  | riseCompletion i => exact h.running_of_rangedWith (f := fun s => s.completeRise i) ht (fun hs => hs.completeRise i)
  | fallCompletion i =>
    refine h.running_of_rangedWith ht fun hs => ?_
    split
    · exact hs.completeFall i
    · exact hs
  | resumingRampCompletion =>
    refine h.running_of_rangedWith ht fun hs => ?_
    split
    · exact (hs.modCombiner hs.composite).write _
    · exact hs
  | leaseExpiry =>
    refine h.running_of_rangedWith ht fun hs => ?_
    split
    · exact hs.lapse
    · exact hs
  | contestTimerExpiry =>
    refine h.running_of_rangedWith ht fun hs => ?_
    split
    · exact (hs.modArbiter _).write _
    · exact hs
  | forceWindowExpiry =>
    exact h.running_of_rangedWith (f := fun s => s.modArbiter fun a => { a with forceWindow := none }) ht
      (fun hs => hs.modArbiter _)
  | storeEraseDone => exact h.running_of_rangedWith ht (fun hs => hs.storeErased)
  | storeProgramDone => exact h.running_of_rangedWith ht (fun hs => hs.storeProgrammed)
  | storeVerifyDone intact =>
    exact h.running_of_rangedWith (f := fun s => s.storeVerified intact) ht (fun hs => hs.storeVerified intact)
  | pageEraseDone => exact h.running_of_rangedWith ht (fun hs => hs.pageErased)
  | pageLoadReadDone intact =>
    exact h.running_of_rangedWith (f := fun s => s.pageLoaded intact) ht (fun hs => hs.pageLoaded intact)
  | bootWriteDone intact =>
    exact h.running_of_rangedWith (f := fun s => s.bootWritten intact) ht (fun hs => hs.bootWritten intact)
  | startUpReadEnd x y =>
    exact h.running_of_rangedWith (f := fun s => s.startUpEnd x y) ht (fun hs => hs.startUpEnd x y)
  | reloadReadEnd x y => exact h.running_of_rangedWith (f := fun s => s.reloadEnd x y) ht (fun hs => hs.reloadEnd x y)

/-- Settles O6: a step is a command's or the idle one's, and each keeps the ranges. -/
theorem stepKeepsRanges : Obligations.StepKeepsRanges := by
  intro s t h ht
  rcases step_cases ht with ⟨-, rfl⟩ | ⟨c, rest, -, hc⟩
  · exact h.of_rangedWith fun hs => hs.idle
  · exact exec_bounded c (s := { s with pending := rest }) h hc

end Sys2Proof.Machine

namespace Sys2Proof.Machine

/-! ### After a device reset: invariants, lines and values -/

/-- The default entry is disabled, so the default plan has nothing that could fail a placement test (R26, R30). -/
theorem Plan.default_valid : Plan.default.valid = true := by decide

/-- A reset part follows its plan: STARTING with the Allocator held, every slot OFF on a copy of the default entry. -/
theorem reset_followsPlan : State.reset.FollowsPlan where
  planValid := Plan.default_valid
  controller := by decide
  reads := by decide
  drains := by decide
  copies := by decide
  attempts := by decide
  shares := by decide

theorem reset_page_image : ∀ i : PageIx, State.reset.memory.pages[i].image = none := by decide

theorem reset_recordsInRange : State.reset.RecordsInRange := by
  refine ⟨Plan.default_valid, by decide, by decide, ?_, by decide⟩
  intro i m hm
  rw [reset_page_image i] at hm
  cases hm

/-- Settles O5: the reset state is one state, and each invariant is evaluated on it. -/
theorem resetMeetsTheInvariants : Obligations.ResetMeetsTheInvariants := by
  refine ⟨by decide, ?_, by decide, by decide, by decide, ?_, by decide, ?_, Plan.default_valid, reset_recordsInRange, reset_followsPlan⟩
  · simp [Ring.WellFormed, State.reset, Ring.reset]
  · simp [Arbiter.TimersFit, State.reset, Arbiter.reset]
  · refine ⟨fun _ => rfl, fun p pg h => ?_⟩
    cases p <;> cases h

/-! A device reset (R9, R21, R80, R117, R132). -/

/-- What an interrupted operation leaves of a page (R117). -/
theorem Memory.afterReset_pages (m : Memory) (pg : PageIx) :
    m.afterReset.pages[pg] = (match m.op with
       | some (.store q ph _ _ _) => if q ≠ pg then m.pages[pg] else
           (match ph with
             | .erase => { m.pages[pg] with state := .blank, image := none }
             | .program | .verify => { m.pages[pg] with state := .corrupt })
       | some (.erase q _ _) =>
           if q ≠ pg then m.pages[pg] else { m.pages[pg] with state := .blank, image := none }
       | _ => m.pages[pg]) := by
  have hset (q : PageIx) (f : Page → Page) :
      (m.pages.set q (f m.pages[q]))[pg] = if q ≠ pg then m.pages[pg] else f m.pages[pg] := by
    rw [PerSlot.getElem_set]
    by_cases h : pg = q
    · subst h; simp
    · simp [h, Ne.symm h]
  unfold Memory.afterReset
  rcases m.op with _ | ⟨q, _ | _ | _, _, _, _⟩ | _ | _ | _ | _ | _
  · rfl
  · exact hset q fun x => { x with state := .blank, image := none }
  · exact hset q fun x => { x with state := .corrupt }
  · exact hset q fun x => { x with state := .corrupt }
  · exact hset _ fun x => { x with state := .blank, image := none }
  all_goals rfl

/-- The engine is IDLE after a reset and has no boot outcome (R115, R116). -/
theorem Memory.afterReset_idle (m : Memory) : m.afterReset.op = none ∧ m.afterReset.lastOutcome = none := by
  unfold Memory.afterReset
  dsimp only
  split <;> exact ⟨rfl, rfl⟩

/-- The boot record is nonvolatile; a boot write that is interrupted leaves none (R114, R117). -/
theorem Memory.afterReset_boot (m : Memory) :
    m.afterReset.boot = (match m.op with | some (.bootWrite _ _ _ _) => none | _ => m.boot) := by
  unfold Memory.afterReset
  rcases m.op with _ | ⟨q, _ | _ | _, _, _, _⟩ | _ | _ | _ | _ | _ <;> rfl

/-- In a reset a command that is none of the lines' has no effect. -/
theorem exec_of_reset {s : State} (h : s.inReset = true) {c : Instr} (h1 : ∀ cause, c ≠ .deviceReset cause)
    (h2 : c ≠ .resetEnd) (h3 : c ≠ .interlockAsserted) (h4 : c ≠ .interlockReleased)
    (h5 : ∀ p, c ≠ .transferBegin p ∧ c ≠ .transferEnd p) : exec c s = .next s := by
  cases c with
  | deviceReset cause => exact absurd rfl (h1 cause)
  | resetEnd => exact absurd rfl h2
  | interlockAsserted => exact absurd rfl h3
  | interlockReleased => exact absurd rfl h4
  | transferBegin p => exact absurd rfl (h5 p).1
  | transferEnd p => exact absurd rfl (h5 p).2
  | _ => exact congrArg Host.Outcome.next (if_pos h)

/-- READY outside a reset (R132, R138). -/
theorem State.ready_iff {s : State} (h : s.inReset = false) (p : Port) :
    s.ready p = true ↔ (s.ports.get p).requests.length < 4 := by
  simp [State.ready, h]

/-- ATTN outside a reset (R132, R143). -/
theorem State.attn_iff {s : State} (h : s.inReset = false) (p : Port) :
    s.attn p = true ↔ (s.ports.get p).responses ≠ [] ∨ 0 < s.ring.unread.get p := by
  simp [State.attn, h]

/-- In a reset a select keeps its level alone, whichever it was (R132). -/
theorem execTransferBegin_of_reset {s : State} (h : s.inReset = true) (p : Port) :
    execTransferBegin p s = .next { s with ports := s.ports.set p { s.ports.get p with select := true } } := by
  have hx (x : PortState) : (if x.select then x else if s.inReset then { x with select := true } else x.begin)
      = { x with select := true } := by
    rcases x with ⟨_ | _⟩ <;> simp [h]
  exact congrArg (fun y => Host.Outcome.next { s with ports := s.ports.set p y }) (hx _)

theorem execTransferEnd_of_reset {s : State} (h : s.inReset = true) (p : Port) :
    execTransferEnd p s = .next { s with ports := s.ports.set p { s.ports.get p with select := false } } := by
  have hx (x : PortState) : (if !x.select then x else if s.inReset then { x with select := false } else x.finish)
      = { x with select := false } := by
    rcases x with ⟨_ | _⟩ <;> simp [h]
  exact congrArg (fun y => Host.Outcome.next { s with ports := s.ports.set p y }) (hx _)

/-- In a reset the INTERLOCK line alone changes, whichever level it had (R80). -/
theorem execInterlockAsserted_of_reset {s : State} (h : s.inReset = true) :
    execInterlockAsserted s = .next { s with interlock := true } := by
  unfold execInterlockAsserted
  cases hi : s.interlock
  · simp [h]
  · rw [if_pos rfl, ← hi]

theorem execInterlockReleased_of_reset {s : State} (h : s.inReset = true) :
    execInterlockReleased s = .next { s with interlock := false } := by
  unfold execInterlockReleased
  cases hi : s.interlock
  · rw [Bool.not_false, if_pos rfl, ← hi]
  · simp [h]

/-- Every slot's block of a reset part holds its reset value (R9, R40, R66, R97, R164). -/
theorem reset_slot_values (i : SlotIx) :
    State.reset.slots[i] = Slot.reset ∧ State.reset.extractions[i] = Extraction.reset
      ∧ State.reset.placements[i] = Placement.reset ∧ State.reset.alloc.table[i] = ⟨0, none, 0⟩
      ∧ State.reset.counters.slots[i] = ⟨0, 0, 0, 0, 0, 0⟩
      ∧ State.reset.ctl.drainSet[i] = false ∧ State.reset.ctl.awaiting[i] = false := by
  simp [State.reset, Allocator.reset, CounterBank.reset, Controller.reset]

/-- Settles O57: a device reset is the reset state with what is nonvolatile, and in it only the lines act. -/
theorem deviceResetAndItsEnd : Obligations.DeviceResetAndItsEnd := by
  refine ⟨fun s cause => ⟨s.deviceReset cause, rfl, rfl, rfl, rfl, rfl, fun i => ?_, rfl, fun i => ?_, rfl, rfl, rfl, rfl,
    rfl, rfl, rfl, rfl, rfl, rfl, rfl, rfl, rfl, rfl, rfl, fun p => ?_, rfl, rfl, rfl, rfl, rfl, rfl, ?_, ?_, ?_,
    s.memory.afterReset_pages⟩, fun s p h => ⟨s.ready_iff h p, s.attn_iff h p⟩, fun s h =>
    ⟨congrArg Host.Outcome.next (if_pos h), fun p => ?_, execInterlockAsserted_of_reset h,
      execInterlockReleased_of_reset h, fun p => ⟨execTransferBegin_of_reset h p, execTransferEnd_of_reset h p⟩,
      fun c => exec_of_reset h⟩⟩
  · obtain ⟨h1, h2, h3, h4, h5, -⟩ := reset_slot_values i
    refine ⟨h1, ?_, ?_, ?_, ?_, ?_, ?_, ?_, ?_, ?_, h3, h4, h5⟩
    all_goals exact h2 ▸ rfl
  · obtain ⟨-, -, -, -, -, h6, h7⟩ := reset_slot_values i
    exact ⟨h6, h7⟩
  · cases p <;> rfl
  · exact s.memory.afterReset_idle.1
  · exact s.memory.afterReset_idle.2
  · exact s.memory.afterReset_boot
  · simp [State.ready, State.attn, h]

end Sys2Proof.Machine

namespace Sys2Proof.Machine

/-! ### What is due at a moment, block by block (log entry 4) -/

theorem mem_ite_singleton {α : Type} {b : Prop} [Decidable b] {c d : α} :
    c ∈ (if b then [d] else []) ↔ b ∧ c = d := by
  split <;> simp_all

theorem mem_allSlots (i : SlotIx) : i ∈ allSlots := by revert i; decide

theorem State.mem_dueRequest {s : State} {p : Port} {c : Instr} :
    c ∈ s.dueRequest p ↔ ∃ r rest, (s.ports.get p).requests = r :: rest ∧ (s.ports.get p).responses.length < 8
      ∧ c = takeCommand p (requestRow r) := by
  unfold State.dueRequest
  cases h : (s.ports.get p).requests with
  | nil => simp
  | cons r rest =>
    simp only [mem_ite_singleton]
    constructor
    · rintro ⟨h1, h2⟩
      exact ⟨r, rest, rfl, h1, h2⟩
    · rintro ⟨_, _, h0, h1, h2⟩
      obtain ⟨rfl, -⟩ := List.cons.inj h0
      exact ⟨h1, h2⟩

/-- A slot's due events: settling and timers at 0, and a ramp at its duration (R13, R42, R46, R49). -/
theorem State.mem_dueSlot {s : State} {i : SlotIx} {c : Instr} :
    c ∈ s.dueSlot i ↔
      (s.extractions[i].settling = some 0 ∧ c = .settlingComplete i)
      ∨ (s.slots[i].state = .hold ∧ s.slots[i].hold = some 0 ∧ c = .holdTimerExpiry i)
      ∨ (s.slots[i].state = .muted ∧ s.slots[i].reacquire = some 0 ∧ c = .reacquireTimerExpiry i)
      ∨ ∃ x, s.slots[i].ramp = some x ∧ x.duration ≤ x.elapsed
        ∧ (s.slots[i].state = .rising ∧ c = .riseCompletion i ∨ s.slots[i].state = .falling ∧ c = .fallCompletion i) := by
  simp only [State.dueSlot, List.mem_append, mem_ite_singleton, timedOut, Bool.and_eq_true, decide_eq_true_eq,
    Option.any_eq_true, Ramp.complete]
  constructor
  · rintro ((((h | ⟨⟨h1, h2⟩, h3⟩) | ⟨⟨h1, h2⟩, h3⟩) | ⟨⟨h1, x, h2, h3⟩, h4⟩) | ⟨⟨h1, x, h2, h3⟩, h4⟩)
    · exact .inl h
    · exact .inr (.inl ⟨h1, h2, h3⟩)
    · exact .inr (.inr (.inl ⟨h1, h2, h3⟩))
    · exact .inr (.inr (.inr ⟨x, h2, h3, .inl ⟨h1, h4⟩⟩))
    · exact .inr (.inr (.inr ⟨x, h2, h3, .inr ⟨h1, h4⟩⟩))
  · rintro (h | ⟨h1, h2, h3⟩ | ⟨h1, h2, h3⟩ | ⟨x, h2, h3, ⟨h1, h4⟩ | ⟨h1, h4⟩⟩)
    · exact .inl (.inl (.inl (.inl h)))
    · exact .inl (.inl (.inl (.inr ⟨⟨h1, h2⟩, h3⟩)))
    · exact .inl (.inl (.inr ⟨⟨h1, h2⟩, h3⟩))
    · exact .inl (.inr ⟨⟨h1, x, h2, h3⟩, h4⟩)
    · exact .inr ⟨⟨h1, x, h2, h3⟩, h4⟩

theorem Arbiter.mem_due {a : Arbiter} {c : Instr} :
    c ∈ a.due ↔ ((∃ p, a.authority.holder = some p) ∧ a.lease = some 0 ∧ c = .leaseExpiry)
      ∨ (a.authority = .contested ∧ a.contest = some 0 ∧ c = .contestTimerExpiry)
      ∨ (a.forceWindow = some 0 ∧ c = .forceWindowExpiry) := by
  simp only [Arbiter.due, List.mem_append, mem_ite_singleton, timedOut, Bool.and_eq_true, decide_eq_true_eq, and_assoc,
    or_assoc]
  rw [Option.isSome_iff_exists]

theorem State.mem_dueMemory {s : State} {c : Instr} :
    c ∈ s.dueMemory ↔ ∃ op, s.memory.op = some op ∧ samplesOfMs op.limitMs ≤ s.memory.opElapsed ∧ c ∈ s.completion := by
  unfold State.dueMemory
  cases h : s.memory.op <;> simp

/-- The end of the operation in progress, at its longest time (R116). -/
theorem State.mem_dueMemory_iff {s : State} {c : Instr} :
    c ∈ s.dueMemory ↔
     (let ran (ms : Nat) : Prop := ms * 160000 ≤ s.memory.opElapsed
      let intact : Nat → Bool := Config.cellsIntact (s.sampleClock - s.memory.opElapsed)
      let read : ReadItem → Prop := fun
        | .record => ran 5
        | .primary => ran 10
        | .fallback true => ran 15
        | .fallback false => ran 10
      match s.memory.op with
      | none => False
      | some (.store _ .erase _ _ _) => ran 200 ∧ c = .storeEraseDone
      | some (.store _ .program _ _ _) => ran 150 ∧ c = .storeProgramDone
      | some (.store _ .verify _ _ _) => ran 20 ∧ c = .storeVerifyDone (intact 0)
      | some (.erase _ _ _) => ran 200 ∧ c = .pageEraseDone
      | some (.load _ _ _) => ran 5 ∧ c = .pageLoadReadDone (intact 0)
      | some (.bootWrite _ _ _ _) => ran 60 ∧ c = .bootWriteDone (intact 0)
      | some (.startUpRead item) => read item ∧ c = .startUpReadEnd (intact 0) (intact 1)
      | some (.reloadRead item _ _) => read item ∧ c = .reloadReadEnd (intact 0) (intact 1)) := by
  have key {op : EngineOp} {ms : Nat} {d : Instr} (hop : s.memory.op = some op) (hms : op.limitMs = ms)
      (hd : s.completion = [d]) : c ∈ s.dueMemory ↔ ms * 160000 ≤ s.memory.opElapsed ∧ c = d := by
    simp only [State.mem_dueMemory, hop, hd, Option.some.injEq, exists_eq_left', hms, List.mem_singleton]
    exact Iff.rfl
  rcases h : s.memory.op with _ | ⟨_, _ | _ | _, _, _, _⟩ | _ | _ | _ | ⟨_ | _ | _ | _⟩ | ⟨_ | _ | _ | _, _, _⟩
  · simp [State.mem_dueMemory, h]
  all_goals exact key h rfl (by simp only [State.completion, h, State.readsIntact])

/-- Settles O3: what is due is what each block owes. -/
theorem eventsDue : Obligations.EventsDue := by
  intro s c
  have hslot : c ∈ allSlots.flatMap s.dueSlot ↔ ∃ i : SlotIx, c ∈ s.dueSlot i := by
    simp [List.mem_flatMap, mem_allSlots]
  have hport : (∃ p, c ∈ s.dueRequest p) ↔ c ∈ s.dueRequest .a ∨ c ∈ s.dueRequest .b :=
    ⟨fun ⟨p, h⟩ => by cases p <;> simp [h], fun h => h.elim (fun h => ⟨_, h⟩) fun h => ⟨_, h⟩⟩
  have hramp : c ∈ (if s.combiner.state = .resuming && s.combiner.ramp.any fun r => r.duration ≤ r.elapsed then
      [Instr.resumingRampCompletion] else []) ↔ ∃ x, s.combiner.state = .resuming ∧ s.combiner.ramp = some x
        ∧ x.duration ≤ x.elapsed ∧ c = .resumingRampCompletion := by
    simp only [mem_ite_singleton, Bool.and_eq_true, decide_eq_true_eq, Option.any_eq_true]
    constructor
    · rintro ⟨⟨h1, x, h2, h3⟩, h4⟩
      exact ⟨x, h1, h2, h3, h4⟩
    · rintro ⟨x, h1, h2, h3, h4⟩
      exact ⟨⟨h1, x, h2, h3⟩, h4⟩
  have hinterval : c ∈ s.dueInterval ↔ s.ctl.active.header.levelMs * 160000 ≤ s.intervalElapsed
      ∧ c = .levelIntervalExpiry [] := mem_ite_singleton
  unfold State.due
  rw [List.mem_append, List.mem_append, List.mem_append, List.mem_append, List.mem_append, List.mem_append, ← hport, hslot,
    hramp, hinterval, Arbiter.mem_due]
  simp only [State.mem_dueRequest, State.mem_dueSlot, or_assoc]
  have hmemory := State.mem_dueMemory_iff (s := s) (c := c)
  exact or_congr_right (or_congr_right (or_congr_right (or_congr_right (or_congr_right (or_congr_right
    (or_congr_left hmemory))))))

end Sys2Proof.Machine

namespace Sys2Proof.Machine

/-! ### Settling, rise and fall (R13, R53, R55, R58, R59, R105) -/

/-- Two changes of one slot are one. -/
theorem State.modSlot_modSlot (s : State) (i : SlotIx) (f g : Slot → Slot) :
    (s.modSlot i f).modSlot i g = s.modSlot i fun x => g (f x) := by
  simp [State.modSlot, -Fin.getElem_fin]

/-- A set of slots has members exactly when it holds some slot. -/
theorem members_isEmpty_iff (set : PerSlot Bool) : (members set).isEmpty = true ↔ ¬ ∃ j : SlotIx, set[j] = true := by
  simp [members, List.isEmpty_iff, mem_allSlots, -Fin.getElem_fin]

theorem exec_riseCompletion {s : State} {i : SlotIx} (hr : s.inReset = false) (h1 : s.slots[i].state = .rising)
    (h2 : s.slots[i].ramp ≠ none) :
    exec (.riseCompletion i) s = .next { s with
      slots := s.slots.set i { s.slots[i] with state := .on, ramp := none, gain := s.slots[i].endGain } } := by
  refine (State.running_of_not_reset hr fun s => s.completeRise i).trans
    (congrArg (fun y : Slot => Host.Outcome.next { s with slots := s.slots.set i y }) ?_)
  exact if_pos (by simp only [h1, Option.isSome_iff_ne_none.mpr h2]; rfl)

theorem exec_fallCompletion {s : State} {i : SlotIx} (hr : s.inReset = false) (h1 : s.slots[i].state = .falling)
    (h2 : s.slots[i].ramp ≠ none) : exec (.fallCompletion i) s = .next (s.completeFall i) := by
  refine (State.running_of_not_reset hr _).trans (congrArg Host.Outcome.next ?_)
  exact if_pos (by simp only [h1, Option.isSome_iff_ne_none.mpr h2]; rfl)

theorem State.completeFall_deferred {s : State} {i : SlotIx} (h1 : s.slots[i].state = .falling)
    (hd : s.slots[i].fallDest = some .deferred) :
    s.completeFall i = ({ s with
        alloc := { s.alloc with table := s.alloc.table.set i { s.alloc.table[i] with grant := 0, target := none } }
        slots := s.slots.set i { s.slots[i] with
          state := .deferred, ramp := none, reacquire := none, fallDest := none } } : State).write
        { kind := .slotDeferred, slot := some i, value1 := some s.extractions[i].lastLevel, cause := some .grant } := by
  unfold State.completeFall State.enterDeferred
  simp only [hd, State.modSlot_modSlot]
  unfold State.modSlot
  simp only [h1]
  rfl

/-- A fall towards OFF: OFF, and in DRAINING one slot less is awaited, the last of which raises (R55, R105). -/
theorem State.completeFall_off {s : State} {i : SlotIx} (hd : s.slots[i].fallDest = some .off) :
    s.completeFall i = (if s.ctl.state = .draining && s.ctl.awaiting[i] then
      ((s.enterOff i).modCtl fun c => { c with awaiting := c.awaiting.set i false }).raiseIfDrained else s.enterOff i) := by
  unfold State.completeFall
  simp only [hd]
  rfl

/-- Settles O51: each completion's meaning, and the Controller's part of a fall by whether another slot is awaited. -/
theorem settlingRiseAndFall : Obligations.SettlingRiseAndFall := by
  intro s i hr
  refine ⟨State.running_of_not_reset hr fun s => s.modExtraction i fun x => { x with settling := none }, exec_riseCompletion hr, fun h1 h2 => ⟨fun hd => ?_, fun hd => ⟨?_, ?_⟩⟩⟩
  · rw [exec_fallCompletion hr h1 h2, State.completeFall_deferred h1 hd]
  · intro hn
    rw [exec_fallCompletion hr h1 h2, State.completeFall_off hd, if_neg]
    · rfl
    · rcases hn with h | h <;> simp [h]
  · intro hs ha left waiting
    rw [exec_fallCompletion hr h1 h2, State.completeFall_off hd, if_pos (by simp [hs, ha])]
    change Host.Outcome.next waiting.raiseIfDrained = _
    unfold State.raiseIfDrained
    by_cases he : ∃ j : SlotIx, left[j] = true
    · rw [if_pos he, if_neg fun h => (members_isEmpty_iff left).mp h he]
    · rw [if_neg he, if_pos ((members_isEmpty_iff left).mpr he)]

/-! ### TRIM FREQUENCY (R16, R33, R34, R36) -/

theorem indexOf_val (i : Fin 16) : indexOf i.val = some i := by simp [indexOf]

/-- A holder's trim in READY is not refused for its authority or its moment (R33). -/
theorem State.trimRefusal_of_holder {s : State} {p : Port} (h : s.holder p) (hr : s.ctl.state = .ready) :
    s.trimRefusal p = none := by
  simp [State.trimRefusal, State.authorityRefusal_of_holder h, hr]

/-- The result check passes for a frequency in its band and apart from every other enabled entry (R34). -/
theorem trimReport_eq_none {pl : Plan} {i : SlotIx} {tx : Int}
    (hb : inBand tx pl.header.txCentre pl.entries[i].bwClass)
    (ha : ∀ j : SlotIx, j ≠ i → pl.entries[j].enabled = true →
      apart pl.header.guardKhz tx pl.entries[i].bwClass pl.entries[j].txKhz pl.entries[j].bwClass) :
    trimReport pl i tx = none := by
  have hband : bandTest tx pl.header.txCentre (widthKhz pl.entries[i].bwClass) = true := decide_eq_true hb
  have hconf : trimConflict pl i tx = none := by
    unfold trimConflict
    rw [List.find?_eq_none]
    intro j _ hj
    simp only [ne_eq, decide_not, Bool.and_eq_true, Bool.not_eq_eq_eq_not, Bool.not_true, decide_eq_false_iff_not] at hj
    obtain ⟨⟨hne, hen⟩, hs⟩ := hj
    exact absurd (decide_eq_true (ha j hne hen)) (by simpa [spacingTest] using hs)
  simp [trimReport, hband, hconf, -Fin.getElem_fin]

/-- A TRIM FREQUENCY within its range of delta is accepted for an enabled entry by the result check, for a disabled one by
the range of tx_khz (R34, R36). -/
theorem onTrimFrequency_of_accepted {s : State} {p : Port} {r : Request} {i : SlotIx} (href : s.trimRefusal p = none)
    (hi : u8At r.body 0 = i.val) (hlo : -100 ≤ s8At r.body 1) (hhi : s8At r.body 1 ≤ 100)
    (hok : (s.ctl.active.entries[i].enabled = true
        ∧ trimReport s.ctl.active i (s.ctl.active.entries[i].txKhz + s8At r.body 1) = none)
      ∨ (s.ctl.active.entries[i].enabled = false ∧ 0 ≤ s.ctl.active.entries[i].txKhz + s8At r.body 1
        ∧ s.ctl.active.entries[i].txKhz + s8At r.body 1 ≤ 6000000)) :
    onTrimFrequency p r s = (s.trimFrequency p r.tag i (s8At r.body 1),
      ⟨.ok, be16 (nextGeneration s.ctl.generation)
        ++ be32 (s.ctl.active.entries[i].txKhz + s8At r.body 1 : Int).toNat⟩) := by
  have hrange : ¬ (s8At r.body 1 < -100 || 100 < s8At r.body 1) = true := by
    rw [Bool.or_eq_true, decide_eq_true_eq, decide_eq_true_eq]; omega
  unfold onTrimFrequency
  rw [href]
  simp only [hi, indexOf_val]
  rw [if_neg hrange]
  rcases hok with ⟨hen, hrep⟩ | ⟨hen, h0, h1⟩
  · rw [if_pos hen, hrep]
  · rw [if_neg (by rw [hen]; decide), if_neg]
    rw [Bool.or_eq_true, decide_eq_true_eq, decide_eq_true_eq]
    omega

/-- Settles O31: past the checks the trim is `State.trimFrequency`, whose result the statement writes out. -/
theorem trimFrequency : Obligations.TrimFrequency := by
  intro s p r i ht hh hr hi hlo hhi d tx gen pl hok
  have hdone := onTrimFrequency_of_accepted (s := s.dequeue p) (State.trimRefusal_of_holder hh hr) hi hlo hhi
    (hok.imp (fun ⟨hen, hb, ha⟩ => ⟨hen, trimReport_eq_none hb ha⟩) id)
  refine (State.take_of_takes ht onTrimFrequency).trans ?_
  rw [hdone]
  rfl

end Sys2Proof.Machine

namespace Sys2Proof.Machine

/-! ### Tuning words, targets and levels as integers (R7, R18, R70) -/

/-- The search finds a value at which the predicate holds, if it ends before its fuel does. -/
theorem firstFrom_holds {p : Nat → Bool} {fuel k : Nat} (h : firstFrom p fuel k < k + fuel) :
    p (firstFrom p fuel k) = true := by
  induction fuel generalizing k with
  | zero => simp [firstFrom] at h
  | succ n ih =>
    unfold firstFrom at h ⊢
    by_cases hk : p k = true
    · rw [if_pos hk]; exact hk
    · rw [if_neg hk] at h ⊢
      exact ih (by omega)

/-- The predicate fails at every value tried before the one found. -/
theorem firstFrom_fails {p : Nat → Bool} {fuel k j : Nat} (hk : k ≤ j) (hj : j < firstFrom p fuel k) : p j = false := by
  induction fuel generalizing k with
  | zero => simp [firstFrom] at hj; omega
  | succ n ih =>
    unfold firstFrom at hj
    split at hj
    · omega
    · rcases Nat.eq_or_lt_of_le hk with rfl | hlt
      · exact Bool.eq_false_of_not_eq_true ‹_›
      · exact ih hlt hj

/-- The tuning value is the nearest integer to offset × 2^32 / 160,000 (R1, R7). -/
theorem tuningValue_nearest (offset : Int) :
    2 * (tuningValue offset * 160000 - offset * 4294967296).natAbs ≤ 160000 := by
  unfold tuningValue roundDiv
  split <;> omega

theorem tuningValue_sign (offset : Int) :
    (0 < offset → 0 < tuningValue offset) ∧ (offset < 0 → tuningValue offset < 0) := by
  have := tuningValue_nearest offset
  omega

/-- An offset in the usable band has a tuning word of 32 bits (R4, R7). -/
theorem tuningWord_toInt {offset : Int} (hlo : -76000 ≤ offset) (hhi : offset ≤ 76000) :
    (tuningWord offset).toInt = tuningValue offset := by
  have := tuningValue_nearest offset
  unfold tuningWord
  rw [BitVec.toInt_ofInt]
  exact Int.bmod_eq_of_le (by omega) (by omega)

/-- The drop of a grant of 1 to 1,024 is the least k that its search accepts, and at most 60 (R70). -/
theorem grantDrop_spec {g : Nat} (hg : 1 ≤ g) :
    grantDrop g ≤ 60 ∧ 1024 ^ 40 ≤ g ^ 40 * 10 ^ (2 * grantDrop g + 1)
      ∧ (0 < grantDrop g → g ^ 40 * 10 ^ (2 * grantDrop g - 1) < 1024 ^ 40) := by
  have hle : grantDrop g ≤ 60 := by
    by_contra hc
    have hf : decide (1024 ^ 40 ≤ g ^ 40 * 10 ^ (2 * 60 + 1)) = false :=
      firstFrom_fails (p := fun k => decide (1024 ^ 40 ≤ g ^ 40 * 10 ^ (2 * k + 1))) (fuel := 61) (k := 0)
        (Nat.zero_le 60) (by unfold grantDrop at hc; omega)
    have h1 : 1 ≤ g ^ 40 := Nat.one_le_pow _ _ hg
    have h2 : 1024 ^ 40 ≤ 1 * 10 ^ (2 * 60 + 1) := by norm_num
    exact of_decide_eq_false hf (h2.trans (Nat.mul_le_mul_right _ h1))
  refine ⟨hle, ?_, fun h0 => ?_⟩
  · exact of_decide_eq_true (firstFrom_holds (p := fun k => decide (1024 ^ 40 ≤ g ^ 40 * 10 ^ (2 * k + 1)))
      (fuel := 61) (k := 0) (by unfold grantDrop at hle; omega))
  · have hf : decide (1024 ^ 40 ≤ g ^ 40 * 10 ^ (2 * (grantDrop g - 1) + 1)) = false :=
      firstFrom_fails (p := fun k => decide (1024 ^ 40 ≤ g ^ 40 * 10 ^ (2 * k + 1))) (fuel := 61) (k := 0)
        (Nat.zero_le _) (by unfold grantDrop at h0 ⊢; omega)
    rw [show 2 * grantDrop g - 1 = 2 * (grantDrop g - 1) + 1 by omega]
    exact Nat.lt_of_not_le (of_decide_eq_false hf)

/-- The test by which the level of a power is searched, in terms of the power (R18). -/
theorem level_test_iff {P : Rat} (hP : 0 < P) (k : Nat) :
    P.den ^ 20 ≤ P.num.natAbs ^ 20 * 10 ^ k ↔ 1 ≤ P ^ 20 * 10 ^ k := by
  have hnum : ((P.num.natAbs : Nat) : Rat) = P.num := by
    rw [← Int.cast_natCast, Int.natAbs_of_nonneg (Rat.num_nonneg.mpr hP.le)]
  have hden : (0 : Rat) < (P.den : Rat) ^ 20 := pow_pos (by exact_mod_cast P.den_pos) _
  calc P.den ^ 20 ≤ P.num.natAbs ^ 20 * 10 ^ k
      ↔ (P.den : Rat) ^ 20 ≤ (P.num : Rat) ^ 20 * 10 ^ k := by rw [← hnum]; exact_mod_cast Iff.rfl
    _ ↔ 1 ≤ (P.num : Rat) ^ 20 * 10 ^ k / (P.den : Rat) ^ 20 := (one_le_div hden).symm
    _ ↔ 1 ≤ P ^ 20 * 10 ^ k := by
      rw [mul_div_right_comm, ← div_pow, Rat.num_div_den]

/-- The search for a level accepts no fewer steps once it accepts some (R18). -/
theorem level_test_mono {P : Rat} (hP : 0 < P) {j k : Nat} (hjk : j ≤ k) (h : 1 ≤ P ^ 20 * 10 ^ j) : 1 ≤ P ^ 20 * 10 ^ k :=
  h.trans (mul_le_mul_of_nonneg_left (pow_le_pow_right₀ (by norm_num) hjk) (pow_pos hP _).le)

/-- The level of a power above 0 is −n for the least n with 1 ≤ P^20 × 10^n, and −200 if there is none below 200 (R18). -/
theorem levelOfPower_spec {P : Rat} (hP : 0 < P) :
    ∃ n : Nat, levelOfPower P = -(n : Int) ∧ n ≤ 200 ∧ (n < 200 → 1 ≤ P ^ 20 * 10 ^ n)
      ∧ ∀ j < n, P ^ 20 * 10 ^ j < 1 := by
  refine ⟨firstFrom (fun k => P.den ^ 20 ≤ P.num.natAbs ^ 20 * 10 ^ k) 200 0, ?_, ?_, ?_, ?_⟩
  · unfold levelOfPower
    rw [if_neg (not_le.mpr hP)]
  · exact (firstFrom_bounds _ 200 0).2.trans (by omega)
  · intro h
    exact (level_test_iff hP _).mp (of_decide_eq_true (firstFrom_holds (by omega)))
  · intro j hj
    exact lt_of_not_ge fun h =>
      of_decide_eq_false (firstFrom_fails (Nat.zero_le _) hj) ((level_test_iff hP j).mpr h)

/-- A power below the least of −199 steps has level −200 (R18). -/
theorem levelOfPower_of_small {P : Rat} (hP : 0 < P) (h : P ^ 20 * 10 ^ 199 < 1) : levelOfPower P = -200 := by
  obtain ⟨n, hn, hle, hhold, -⟩ := levelOfPower_spec hP
  have : ¬ n < 200 := fun hlt => absurd (level_test_mono hP (by omega) (hhold hlt)) (not_le.mpr h)
  omega

/-- A power of full scale or more has level 0 (R18). -/
theorem levelOfPower_of_one_le {P : Rat} (h : 1 ≤ P) : levelOfPower P = 0 := by
  obtain ⟨n, hn, -, -, hfail⟩ := levelOfPower_spec (zero_lt_one.trans_le h)
  have : n = 0 := by
    by_contra hne
    have := hfail 0 (by omega)
    rw [pow_zero, mul_one] at this
    exact absurd (one_le_pow₀ h) (not_le.mpr this)
  omega

/-- A level between is the one whose bounds hold the power (R18). -/
theorem levelOfPower_eq_iff {P : Rat} (hP : 0 < P) {k : Nat} (h1 : 1 ≤ k) (h2 : k < 200) :
    levelOfPower P = -(k : Int) ↔ 1 ≤ P ^ 20 * 10 ^ k ∧ P ^ 20 * 10 ^ (k - 1) < 1 := by
  obtain ⟨n, hn, hle, hhold, hfail⟩ := levelOfPower_spec hP
  rw [hn]
  constructor
  · intro h
    obtain rfl : n = k := by omega
    exact ⟨hhold h2, hfail _ (by omega)⟩
  · rintro ⟨hk, hk'⟩
    have hnk : n ≤ k := by
      by_contra hc
      exact absurd (hfail k (by omega)) (not_lt.mpr hk)
    have hkn : ¬ n ≤ k - 1 := fun hc => absurd (level_test_mono hP hc (hhold (by omega))) (not_le.mpr hk')
    omega

/-- Settles O59: each part is the least value that its search accepts. -/
theorem tuningTargetAndInputLevels : Obligations.TuningTargetAndInputLevels := by
  refine ⟨fun offset hlo hhi => ⟨tuningWord_toInt hlo hhi, tuningValue_nearest offset, tuningValue_sign offset⟩,
    ⟨fun c => rfl, fun c g hg _ => ⟨grantDrop g, ?_, grantDrop_spec hg⟩⟩, fun a _ => rfl, ?_, fun P => ⟨?_, ?_, ?_, ?_⟩⟩
  · rw [targetOf, if_neg (by omega)]
  · exact if_pos (by simp [Accum.empty])
  · exact fun h => if_pos h
  · exact levelOfPower_of_small
  · exact levelOfPower_of_one_le
  · exact fun k h1 h2 hP => levelOfPower_eq_iff hP h1 h2

end Sys2Proof.Machine

namespace Sys2Proof.Machine

/-! ### The level interval expiry (R17 to R20, R43, R46, R49, R85) -/

/-- The state t is s but for slots, extractions, Allocator, ring and Counter Bank, and no extraction of it has another last
level or a fresh accumulation: what the actions of a level interval expiry keep. -/
structure State.ActsWithin (s t : State) : Prop where
  frame : t = { s with
    slots := t.slots, extractions := t.extractions, alloc := t.alloc, ring := t.ring, counters := t.counters }
  levels : ∀ i : SlotIx, t.extractions[i].lastLevel = s.extractions[i].lastLevel
  accums : ∀ i : SlotIx, s.extractions[i].accum = .empty → t.extractions[i].accum = .empty

/-- A change of source keeps an empty accumulation (R11). -/
theorem Extraction.select_accum {x : Extraction} (h : x.accum = .empty) (u : InUse) (src : Source) :
    (x.select u src).accum = .empty := by
  unfold Extraction.select
  split
  · rfl
  · exact h

namespace State.ActsWithin

theorem refl (s : State) : s.ActsWithin s := ⟨rfl, fun _ => rfl, fun _ h => h⟩

variable {s t u : State}

theorem trans (h : s.ActsWithin t) (h' : t.ActsWithin u) : s.ActsWithin u where
  frame := by
    calc u = { t with
          slots := u.slots, extractions := u.extractions, alloc := u.alloc, ring := u.ring, counters := u.counters } :=
            h'.frame
      _ = _ := by rw [h.frame]
  levels i := (h'.levels i).trans (h.levels i)
  accums i hi := h'.accums i (h.accums i hi)

/-- What leaves the extractions alone. -/
theorem update (h : s.ActsWithin t) (sl : PerSlot Slot) (al : Allocator) (r : Ring) (c : CounterBank) :
    s.ActsWithin { t with slots := sl, alloc := al, ring := r, counters := c } :=
  h.trans ⟨rfl, fun _ => rfl, fun _ h => h⟩

theorem modSlot (h : s.ActsWithin t) (i : SlotIx) (f : Slot → Slot) : s.ActsWithin (t.modSlot i f) := h.update _ _ _ _

theorem modAlloc (h : s.ActsWithin t) (f : Allocator → Allocator) : s.ActsWithin (t.modAlloc f) := h.update _ _ _ _

theorem write (h : s.ActsWithin t) (n : Notice) : s.ActsWithin (t.write n) := h.update _ _ _ _

theorem writeOpt (h : s.ActsWithin t) (n : Option Notice) : s.ActsWithin (t.writeOpt n) := by
  cases n with
  | none => exact h
  | some n => exact h.write n

theorem count (h : s.ActsWithin t) (k : SlotKind) (i : SlotIx) : s.ActsWithin (t.count k i) := by
  obtain ⟨c, r, e⟩ := t.count_frame k i
  exact e ▸ h.update _ _ _ _

theorem countOverload (h : s.ActsWithin t) : s.ActsWithin t.countOverload := by
  obtain ⟨c, r, e⟩ := t.countOverload_frame
  exact e ▸ h.update _ _ _ _

theorem countClip (h : s.ActsWithin t) : s.ActsWithin t.countClip := by
  obtain ⟨c, r, e⟩ := t.countClip_frame
  exact e ▸ h.update _ _ _ _

theorem selectSource (h : s.ActsWithin t) (i : SlotIx) (src : Source) : s.ActsWithin (t.selectSource i src) := by
  have hx (j : SlotIx) : (t.selectSource i src).extractions[j]
      = if j = i then t.extractions[i].select t.slots[i].inUse src else t.extractions[j] := PerSlot.getElem_set _ _ _ _
  refine h.trans ⟨rfl, fun j => ?_, fun j hj => ?_⟩
  · rw [hx]
    split
    · subst j; exact Extraction.select_lastLevel _ _ _
    · rfl
  · rw [hx]
    split
    · subst j; exact Extraction.select_accum hj _ _
    · exact hj

theorem flipSource (h : s.ActsWithin t) (i : SlotIx) (cause : Cause) : s.ActsWithin (t.flipSource i cause) := by
  unfold State.flipSource
  split
  · exact ((h.count _ _).write _).selectSource _ _
  · exact h

theorem enterRising (h : s.ActsWithin t) (i : SlotIx) : s.ActsWithin (t.enterRising i) := h.modSlot i _

theorem enterDeferred (h : s.ActsWithin t) (i : SlotIx) (cause : Cause) : s.ActsWithin (t.enterDeferred i cause) :=
  h.update _ _ _ _

theorem loseCarrier (h : s.ActsWithin t) (i : SlotIx) (cause : Cause) : s.ActsWithin (t.loseCarrier i cause) := by
  unfold State.loseCarrier
  exact ((((h.modSlot i _).count .losses i).write _).flipSource i .loss).modSlot i _

theorem startRun (h : s.ActsWithin t) : s.ActsWithin t.startRun := by
  obtain ⟨sl, tb, b, r, e⟩ := t.startRun_frame
  exact e ▸ h.update _ _ _ _

theorem enterFailed (h : s.ActsWithin t) (i : SlotIx) : s.ActsWithin (t.enterFailed i) := by
  obtain ⟨sl, tb, b, r, e⟩ := t.enterFailed_frame i
  exact e ▸ h.update _ _ _ _

theorem attempt (h : s.ActsWithin t) (i : SlotIx) : s.ActsWithin (t.attempt i) := by
  unfold State.attempt
  dsimp only
  split
  · exact ((h.modSlot i _).count .attempts i).enterFailed i
  · exact (((h.modSlot i _).count .attempts i).flipSource i _).modSlot i _

theorem levelLoop (h : s.ActsWithin t) (i : SlotIx) (level : Int) : s.ActsWithin (t.levelLoop i level) := by
  unfold State.levelLoop
  dsimp only
  split
  · exact h.count _ _
  · exact h.modSlot i _

theorem carrierAbsentOn (h : s.ActsWithin t) (i : SlotIx) : s.ActsWithin (t.carrierAbsentOn i) := by
  unfold State.carrierAbsentOn
  split
  · exact h.loseCarrier i _
  · exact h.modSlot i _

theorem regain (h : s.ActsWithin t) (i : SlotIx) : s.ActsWithin (t.regain i) := by
  unfold State.regain
  split
  · exact (h.enterRising i).write _
  · exact h.enterDeferred i _

theorem act (h : s.ActsWithin t) (i : SlotIx) (level : Int) : s.ActsWithin (t.act i level) := by
  unfold State.act
  dsimp only
  split
  · split
    · exact h.levelLoop i level
    · exact h.carrierAbsentOn i
  · split
    · exact (h.modSlot i _).count _ _
    · exact h
  · split
    · exact h
    · exact (h.count _ _).loseCarrier i _
  · split
    · exact h.regain i
    · exact h
  all_goals exact h

theorem takeMeasurement (h : s.ActsWithin t) (i : SlotIx) (m : Option (Int × Source)) :
    s.ActsWithin (t.takeMeasurement i m) := by
  unfold State.takeMeasurement
  split
  · exact h
  · split
    · exact h.act i _
    · exact h

theorem changePool (h : s.ActsWithin t) (new : Nat) (n : Option Notice) : s.ActsWithin (t.changePool new n) := by
  unfold State.changePool
  split
  · exact h
  · exact ((h.modAlloc _).writeOpt n).startRun

theorem onOverloaded (h : s.ActsWithin t) : s.ActsWithin t.onOverloaded := by
  unfold State.onOverloaded
  split
  · exact (h.modAlloc _).changePool _ _
  · exact h.modAlloc _

theorem onClean (h : s.ActsWithin t) : s.ActsWithin t.onClean := (h.modAlloc _).changePool _ _

theorem holdOut (h : s.ActsWithin t) (i : SlotIx) : s.ActsWithin (t.holdOut i) := by
  unfold State.holdOut
  split
  · exact h.loseCarrier i _
  · exact h

theorem reacquireOut (h : s.ActsWithin t) (i : SlotIx) : s.ActsWithin (t.reacquireOut i) := by
  unfold State.reacquireOut
  split
  · exact h.attempt i
  · exact h

/-- A change of the combiner on both sides. -/
theorem modCombiner (h : s.ActsWithin t) (f : Combiner → Combiner) : (s.modCombiner f).ActsWithin (t.modCombiner f) where
  frame := by
    calc t.modCombiner f = ({ s with
            slots := t.slots, extractions := t.extractions, alloc := t.alloc, ring := t.ring
            counters := t.counters } : State).modCombiner f := congrArg (State.modCombiner · f) h.frame
      _ = _ := rfl
  levels := h.levels
  accums := h.accums

end State.ActsWithin

/-- The clip record cleared (R85). -/
def State.clipCleared (s : State) : State := s.modCombiner fun c => { c with clip := false }

/-- The combiner's judging acts within the slots, the Allocator, the ring and the counters, and clears the clip record. -/
theorem State.judgeInterval_within (s : State) : s.clipCleared.ActsWithin s.judgeInterval := by
  have hj : s.ActsWithin (if s.overloaded then s.countOverload.onOverloaded else s.onClean) := by
    split
    · exact (State.ActsWithin.refl s).countOverload.onOverloaded
    · exact (State.ActsWithin.refl s).onClean
  unfold State.judgeInterval
  dsimp only
  split
  · split
    · exact hj.countClip.modCombiner _
    · exact hj.modCombiner _
  all_goals exact (State.ActsWithin.refl s).modCombiner _

/-- Every other action acts within them alone. -/
theorem State.turn_within (ms : PerSlot (Option (Int × Source))) (s : State) (a : Turn) :
    (if a = .combiner then s.clipCleared else s).ActsWithin (s.turn ms a) := by
  have hs := State.ActsWithin.refl s
  cases a with
  | judge i => exact hs.takeMeasurement i _
  | combiner => exact s.judgeInterval_within
  | holdOut i => exact hs.holdOut i
  | reacquireOut i => exact hs.reacquireOut i

/-- So do some actions one after another; the clip record is cleared where the combiner judges among them. -/
theorem State.turns_within (ms : PerSlot (Option (Int × Source))) (l : List Turn) (s : State) :
    (if .combiner ∈ l then s.clipCleared else s).ActsWithin (l.foldl (State.turn ms) s) := by
  induction l generalizing s with
  | nil => exact State.ActsWithin.refl s
  | cons a l ih =>
    have ha := s.turn_within ms a
    have hl := ih (s.turn ms a)
    by_cases hc : a = .combiner
    · rw [if_pos (by simp [hc])]
      rw [if_pos hc] at ha
      split at hl
      · exact (ha.modCombiner _).trans hl
      · exact ha.trans hl
    · rw [if_neg hc] at ha
      by_cases hm : .combiner ∈ l
      · rw [if_pos hm] at hl
        rw [if_pos (List.mem_cons_of_mem _ hm)]
        exact (ha.modCombiner _).trans hl
      · rw [if_neg hm] at hl
        rw [if_neg (by simp [Ne.symm hc, hm])]
        exact ha.trans hl

/-- The removal of repetitions leaves none. -/
theorem nodup_eraseDups {α : Type} [DecidableEq α] (l : List α) : l.eraseDups.Nodup := by
  induction hn : l.length using Nat.strongRecOn generalizing l with
  | _ n ih =>
    cases l with
    | nil => exact List.nodup_nil
    | cons a l =>
      rw [List.eraseDups_cons, List.nodup_cons]
      refine ⟨by simp [List.mem_eraseDups], ih _ ?_ _ rfl⟩
      rw [← hn, List.length_cons]
      exact Nat.lt_succ_of_le (List.length_filter_le _ _)

theorem mem_defaultTurns (a : Turn) : a ∈ defaultTurns ↔ a = .combiner ∨ ∃ i, a = .judge i := by
  unfold defaultTurns
  simp only [List.mem_append, List.mem_map, List.mem_singleton, mem_allSlots, true_and, eq_comm, or_comm]

/-- The actions of an expiry: those ordered and those that every expiry has (R17). -/
theorem mem_turnsOf (order : List Turn) (a : Turn) :
    a ∈ turnsOf order ↔ a ∈ order ∨ a = .combiner ∨ ∃ i, a = .judge i := by
  unfold turnsOf
  rw [List.mem_append, List.mem_eraseDups, List.mem_filter, mem_defaultTurns]
  by_cases h : a ∈ order <;> simp [h]

/-- No action is taken twice. -/
theorem nodup_turnsOf (order : List Turn) : (turnsOf order).Nodup := by
  have hdefault : defaultTurns.Nodup := by decide
  refine List.nodup_append'.mpr ⟨nodup_eraseDups order, hdefault.filter _, fun a h1 h2 => ?_⟩
  have h3 := (List.mem_filter.mp h2).2
  simp [List.mem_eraseDups.mp h1] at h3

/-- The measuring of an extraction, by whether it has settled samples (R19). -/
theorem Extraction.measured_eq (x : Extraction) :
    x.measured = if x.tuned = true ∧ 0 < x.accum.count then
      { x with lastLevel := accumLevel x.accum, accum := .empty } else x := by
  rcases x.measured_cases with ⟨h1, h2, -, e⟩ | ⟨h, -, e⟩
  · rw [e, if_pos ⟨h1, h2⟩]
  · rw [e, if_neg h]

theorem Extraction.measurement_eq (x : Extraction) :
    x.measurement = if x.tuned = true ∧ 0 < x.accum.count then some (accumLevel x.accum, x.source) else none := by
  rcases x.measured_cases with ⟨h1, h2, e, -⟩ | ⟨h, e, -⟩
  · rw [e, if_pos ⟨h1, h2⟩]
  · rw [e, if_neg h]

theorem State.measure_extractions (s : State) (i : SlotIx) : s.measure.extractions[i] = s.extractions[i].measured :=
  PerSlot.getElem_ofFn _ _

/-- An expiry measures, and its actions keep the measured levels and empty accumulations and clear the clip record. -/
theorem State.expireInterval_within (s : State) (order : List Turn) :
    s.measure.clipCleared.ActsWithin (s.expireInterval order) := by
  have h := State.turns_within s.measurements (turnsOf order) s.measure
  rwa [if_pos ((mem_turnsOf order _).mpr (.inr (.inl rfl)))] at h

/-- Settles O47: the measuring, then the fold of the actions, each of which acts within the slots, the Allocator, the ring
and the counters. -/
theorem levelIntervalMeasures : Obligations.LevelIntervalMeasures := by
  refine ⟨?_, fun ms u i => ⟨rfl, rfl, rfl, fun hu =>
    ⟨State.running_of_not_reset hu fun s => s.holdOut i, State.running_of_not_reset hu fun s => s.reacquireOut i⟩⟩,
    fun order => ⟨nodup_turnsOf order, mem_turnsOf order, _, rfl, List.filter_sublist⟩⟩
  intro s order hr heard measured
  have hmeasured : measured = s.measure :=
    congrArg (fun v : PerSlot Extraction => { s.measure with extractions := v })
      (PerSlot.ext fun i => by rw [PerSlot.getElem_ofFn, PerSlot.getElem_ofFn, Extraction.measured_eq])
  have hms (i : SlotIx) : s.measurements[i] = s.extractions[i].measurement := PerSlot.getElem_ofFn _ _
  have h := s.expireInterval_within order
  have hx (i : SlotIx) : s.measure.clipCleared.extractions[i] = s.extractions[i].measured := s.measure_extractions i
  refine ⟨s.measurements, fun i => ⟨fun hi => ?_, fun hi => ?_⟩, s.expireInterval order,
    State.running_of_not_reset hr fun s => s.expireInterval order, ?_, ?_, ?_, fun i => ⟨fun hi => ⟨?_, ?_⟩, fun hi => ?_⟩,
    ?_, ?_, ?_, ?_, ?_, ?_, ?_, ?_, ?_, ?_, ?_⟩
  · rw [hms, Extraction.measurement_eq, if_pos hi]
  · rw [hms, Extraction.measurement_eq, if_neg hi]
  · rw [hmeasured]; rfl
  · rw [h.frame]; rfl
  · rw [h.frame]; rfl
  · rw [h.levels, hx, Extraction.measured_eq, if_pos hi]
  · exact h.accums i (by rw [hx, Extraction.measured_eq, if_pos hi])
  · rw [h.levels, hx, Extraction.measured_eq, if_neg hi]
  all_goals rw [h.frame]; rfl

end Sys2Proof.Machine

namespace Sys2Proof.Machine

/-! ### An allocation run, slot by slot (R53 to R58, R61, R68 to R71, R76) -/

/-- What an enabled slot waiting in OFF becomes by a raise run (R53, R61). -/
def Slot.raised (x : Slot) (grant : Nat) (rise : Int) (ramp : Nat) : Slot :=
  if 0 < grant then x.risen rise ramp else { x with state := .deferred, reacquire := none, ramp := none }

/-- The fall of a target, negative for a rise and 0 where either target is absent (R54, R76). -/
def targetDrop (before after : Option Int) : Int :=
  match before, after with
  | some t, some t' => t - t'
  | _, _ => 0

/-- What a slot's record `x` becomes by its action on its record of the grant table (R56, R61). -/
def State.delivered (s : State) (raise : Bool) (before : PerSlot GrantRec) (i : SlotIx) (x : Slot) : Slot :=
  if raise = true ∧ x.state = .off ∧ s.ctl.active.entries[i].enabled = true then
    x.raised s.alloc.table[i].grant (s.riseGain i) s.rampSamples
  else
    x.given s.alloc.table[i].grant (targetDrop before[i].target s.alloc.table[i].target) (s.riseGain i) s.rampSamples

/-- A record without a grant has no target (R66). -/
def State.FreeHasNoTarget (s : State) : Prop :=
  ∀ i : SlotIx, s.alloc.table[i].grant = 0 → s.alloc.table[i].target = none

/-- Writing back an item changes nothing. -/
@[simp] theorem PerSlot.set_getElem_self {α : Type} (v : PerSlot α) (i : SlotIx) : v.set i v[i] = v :=
  PerSlot.ext fun j => by
    rw [PerSlot.getElem_set]
    split
    · subst j; rfl
    · rfl

/-- The grant of a slot without one is released already. -/
theorem State.releaseGrant_of_free {s : State} {i : SlotIx} (hs : s.FreeHasNoTarget) (hg : s.alloc.table[i].grant = 0) :
    s.releaseGrant i = s := by
  have hrec : { s.alloc.table[i] with grant := 0, target := none } = s.alloc.table[i] := by
    rcases h : s.alloc.table[i] with ⟨g, t, sh⟩
    have ht := hs i hg
    rw [h] at hg ht
    simp_all
  have hset : s.releaseGrant i = { s with alloc := { s.alloc with table := s.alloc.table.set i s.alloc.table[i] } } :=
    congrArg (fun v => { s with alloc := { s.alloc with table := s.alloc.table.set i v } }) hrec
  rw [hset, PerSlot.set_getElem_self]

/-- A change of one slot by value. -/
theorem State.modSlot_eq (s : State) (i : SlotIx) (f : Slot → Slot) :
    s.modSlot i f = { s with slots := s.slots.set i (f s.slots[i]) } := rfl

theorem State.setSlot_self (s : State) (i : SlotIx) : { s with slots := s.slots.set i s.slots[i] } = s := by
  rw [PerSlot.set_getElem_self]

/-- A cut of the gain in the words of R54 and R76. -/
theorem Slot.cutGain_targetFall (x : Slot) (before after : Option Int) {grant : Nat} (hg : grant ≠ 0) (rise : Int) (ramp : Nat)
    (hx : x.state = .rising ∨ x.state = .on ∨ x.state = .hold) :
    x.cutGain (targetFall before after) = x.given grant (targetDrop before after) rise ramp := by
  have hmax : targetFall before after = max 0 (targetDrop before after) := by
    cases before <;> cases after <;> rfl
  unfold Slot.cutGain
  rw [hmax]
  by_cases hd : 0 < targetDrop before after
  · rw [if_neg (by omega), max_eq_right hd.le]
    rcases hx with h | h | h <;> simp [Slot.given, h, hg, hd, clampGain, clampInt]
  · rw [if_pos (by omega)]
    rcases hx with h | h | h <;> simp [Slot.given, h, hg, hd]

theorem State.enterDeferred_of_free {s : State} (hs : s.FreeHasNoTarget) {i : SlotIx} (hg : s.alloc.table[i].grant = 0)
    (cause : Cause) :
    s.enterDeferred i cause = (s.modSlot i fun x =>
        { x with state := .deferred, reacquire := none, ramp := none
                 attempts := if x.state = .muted then 0 else x.attempts }).write
      { kind := .slotDeferred, slot := some i, value1 := some s.extractions[i].lastLevel, cause := some cause } := by
  unfold State.enterDeferred
  rw [State.releaseGrant_of_free (s := s.modSlot i _) hs hg]

theorem State.enterFalling_of_free {s : State} (hs : s.FreeHasNoTarget) {i : SlotIx} (hg : s.alloc.table[i].grant = 0)
    (dest : FallDest) :
    s.enterFalling i dest = s.modSlot i fun x =>
      { x with state := .falling, hold := none, ramp := some ⟨.falling, 0, s.rampSamples, x.fallStart⟩
               fallDest := some dest } := by
  unfold State.enterFalling
  rw [State.releaseGrant_of_free (s := s.modSlot i _) hs hg]

/-- The factor a fall starts from (R42). -/
theorem Slot.fallStart_eq (x : Slot) :
    x.fallStart = if x.state = .rising then (x.ramp.map Ramp.factor).getD 1 else 1 := by
  rcases hr : x.ramp <;> rcases hs : x.state <;> simp [Slot.fallStart, hr, hs]

/-- A slot that is not waiting in OFF for a raise is given its grant (R56). -/
theorem State.delivered_of_not_waiting {s : State} {raise : Bool} {before : PerSlot GrantRec} {i : SlotIx} {x : Slot}
    (h : ¬ (raise = true ∧ x.state = .off ∧ s.ctl.active.entries[i].enabled = true)) :
    s.delivered raise before i x = x.given s.alloc.table[i].grant
      (targetDrop before[i].target s.alloc.table[i].target) (s.riseGain i) s.rampSamples := if_neg h

/-- A slot that waits in OFF for a raise is raised (R61). -/
theorem State.delivered_of_waiting {s : State} {raise : Bool} {before : PerSlot GrantRec} {i : SlotIx} {x : Slot}
    (h : raise = true ∧ x.state = .off ∧ s.ctl.active.entries[i].enabled = true) :
    s.delivered raise before i x = x.raised s.alloc.table[i].grant (s.riseGain i) s.rampSamples := if_pos h

/-- A slot in RISING, ON or HOLD falls on a grant of 0, and its gain follows a fall of its target (R54, R55, R76). -/
theorem State.deliver_onAir {s : State} (hs : s.FreeHasNoTarget) (raise : Bool) (before : PerSlot GrantRec) {i : SlotIx}
    (hx : s.slots[i].state = .rising ∨ s.slots[i].state = .on ∨ s.slots[i].state = .hold) :
    (if s.alloc.table[i].grant = 0 then s.enterFalling i .deferred
      else s.modSlot i fun x => x.cutGain (targetFall before[i].target s.alloc.table[i].target))
    = { s with slots := s.slots.set i (s.delivered raise before i s.slots[i]) } := by
  have hoff : ¬ (raise = true ∧ s.slots[i].state = .off ∧ s.ctl.active.entries[i].enabled = true) := by
    rintro ⟨-, h, -⟩
    rcases hx with h' | h' | h' <;> rw [h] at h' <;> cases h'
  rw [State.delivered_of_not_waiting hoff]
  split
  · rename_i hg
    rw [State.enterFalling_of_free hs hg, State.modSlot_eq, Slot.fallStart_eq]
    rcases hx with h | h | h <;> simp [Slot.given, h, hg, -Fin.getElem_fin]
  · rename_i hg
    rw [State.modSlot_eq, Slot.cutGain_targetFall _ _ _ hg (s.riseGain i) s.rampSamples hx]

/-- A slot's action on its grant changes its own record and writes the event of its grant. -/
theorem State.deliver_eq {s : State} (hs : s.FreeHasNoTarget) (raise : Bool) (before : PerSlot GrantRec) (i : SlotIx) :
    State.deliver raise before s i
      = ({ s with slots := s.slots.set i (s.delivered raise before i s.slots[i]) } : State).writeOpt
          (s.grantNotice s raise i) := by
  unfold State.deliver State.grantNotice
  dsimp only
  rcases hx : s.slots[i].state with _ | _ | _ | _ | _ | _ | _ | _ <;> dsimp only
  case rising => exact State.deliver_onAir hs raise before (.inl hx)
  case on => exact State.deliver_onAir hs raise before (.inr (.inl hx))
  case hold => exact State.deliver_onAir hs raise before (.inr (.inr hx))
  case off =>
    have hclaim : (raise && s.claimant i) = true ↔ raise = true ∧ s.ctl.active.entries[i].enabled = true := by
      simp [State.claimant, hx, -Fin.getElem_fin]
    by_cases hr : raise = true ∧ s.ctl.active.entries[i].enabled = true
    · rw [if_pos (hclaim.mpr hr), State.delivered_of_waiting ⟨hr.1, hx, hr.2⟩]
      by_cases hg : 0 < s.alloc.table[i].grant
      · rw [if_pos hg, if_neg (by omega), Slot.raised, if_pos hg]
        rfl
      · have hg0 : s.alloc.table[i].grant = 0 := by omega
        rw [if_neg hg, if_pos ⟨hr.1, hr.2, hg0⟩, State.enterDeferred_of_free hs hg0, Slot.raised, if_neg hg]
        simp only [State.modSlot_eq, hx]
        rfl
    · rw [if_neg fun h => hr (hclaim.mp h), if_neg fun h => hr ⟨h.1, h.2.1⟩,
        State.delivered_of_not_waiting fun h => hr ⟨h.1, h.2.2⟩]
      simp only [Slot.given, hx]
      exact s.setSlot_self i |>.symm
  all_goals rw [State.delivered_of_not_waiting fun ⟨_, h, _⟩ => by rw [hx] at h; cases h]
  case deferred =>
    by_cases hg : 0 < s.alloc.table[i].grant
    · rw [if_pos hg, if_pos hg]
      simp only [Slot.given, hx, if_pos hg]
      rfl
    · rw [if_neg hg, if_neg hg]
      simp only [Slot.given, hx, if_neg hg]
      exact s.setSlot_self i |>.symm
  case muted =>
    by_cases hg : s.alloc.table[i].grant = 0
    · rw [if_pos hg, if_pos hg, State.enterDeferred_of_free hs hg]
      simp only [Slot.given, hx, if_pos hg, State.modSlot_eq]
      rfl
    · rw [if_neg hg, if_neg hg]
      simp only [Slot.given, hx, if_neg hg]
      exact s.setSlot_self i |>.symm
  all_goals
    simp only [Slot.given, hx]
    exact s.setSlot_self i |>.symm

/-- Events written one after another, of one generation. -/
theorem Ring.after_append (r : Ring) (generation : Nat) (ns ms : List Notice) :
    r.after generation (ns ++ ms) = (r.after generation ns).after generation ms := List.foldl_append

theorem State.writeOpt_eq (s : State) (n : Option Notice) :
    s.writeOpt n = { s with ring := s.ring.after s.ctl.generation n.toList } := by
  cases n <;> rfl

/-- The delivery of a run to some slots, one after another: each slot's own action, and the events in the slots' order
(R71; log entry 12). -/
theorem State.deliverList_eq {s : State} (hs : s.FreeHasNoTarget) (raise : Bool) (before : PerSlot GrantRec)
    {l : List SlotIx} (hl : l.Nodup) :
    l.foldl (State.deliver raise before) s = { s with
      slots := Vector.ofFn fun j => if j ∈ l then s.delivered raise before j s.slots[j] else s.slots[j]
      ring := s.ring.after s.ctl.generation (l.filterMap (s.grantNotice s raise)) } := by
  induction l generalizing s with
  | nil =>
    have hsl : (Vector.ofFn fun j : SlotIx => s.slots[j]) = s.slots := PerSlot.ext fun j => PerSlot.getElem_ofFn _ j
    simp only [List.foldl_nil, List.not_mem_nil, if_false, List.filterMap_nil, hsl]
  | cons i l ih =>
    obtain ⟨hi, hl⟩ := List.nodup_cons.mp hl
    let y := s.delivered raise before i s.slots[i]
    let r := s.ring.after s.ctl.generation (s.grantNotice s raise i).toList
    let u : State := { s with slots := s.slots.set i y, ring := r }
    have hu : State.deliver raise before s i = u := by
      rw [State.deliver_eq hs, State.writeOpt_eq]
    have hother {j : SlotIx} (hj : j ∈ l) : u.slots[j] = s.slots[j] :=
      PerSlot.getElem_set_ne _ _ fun h => hi (h ▸ hj)
    have hslots : (Vector.ofFn fun j => if j ∈ l then u.delivered raise before j u.slots[j] else u.slots[j])
        = Vector.ofFn fun j => if j ∈ i :: l then s.delivered raise before j s.slots[j] else s.slots[j] := by
      refine PerSlot.ext fun j => ?_
      rw [PerSlot.getElem_ofFn, PerSlot.getElem_ofFn]
      by_cases hj : j ∈ l
      · rw [if_pos hj, if_pos (List.mem_cons_of_mem _ hj), hother hj]
        rfl
      · rw [if_neg hj]
        by_cases hji : j = i
        · subst hji
          rw [if_pos List.mem_cons_self]
          exact PerSlot.getElem_set_self _ _ _
        · rw [if_neg (by simp [hji, hj])]
          exact PerSlot.getElem_set_ne _ _ hji
    have hnotices : l.filterMap (u.grantNotice u raise) = l.filterMap (s.grantNotice s raise) :=
      List.filterMap_congr fun j hj => by
        unfold State.grantNotice
        rw [hother hj]
    have hring : r.after s.ctl.generation (l.filterMap (s.grantNotice s raise))
        = s.ring.after s.ctl.generation ((i :: l).filterMap (s.grantNotice s raise)) := by
      rw [List.filterMap_cons, ← Ring.after_append]
      cases s.grantNotice s raise i <;> rfl
    calc (i :: l).foldl (State.deliver raise before) s = l.foldl (State.deliver raise before) u := by
          rw [List.foldl_cons, hu]
      _ = _ := ih (s := u) hs hl
      _ = _ := by rw [hslots, hnotices, show u.ring.after u.ctl.generation _ = _ from hring]

theorem nodup_allSlots : allSlots.Nodup := by decide

/-- The grant table that a run writes gives no target without a grant (R66). -/
theorem State.runTable_getElem (s : State) (raise : Bool) (i : SlotIx) :
    (s.runTable raise)[i]
      = ⟨s.runGrant raise i, targetOf s.ctl.active.header.ceiling (s.runGrant raise i), s.share i⟩ :=
  PerSlot.getElem_ofFn _ i

/-- The state in which a run has written its grant table and no slot has acted on it yet. -/
def State.tabled (s : State) (raise : Bool) : State := s.modAlloc fun a => { a with table := s.runTable raise }

theorem State.tabled_free (s : State) (raise : Bool) : (s.tabled raise).FreeHasNoTarget := by
  intro i h
  have hrec : (s.tabled raise).alloc.table[i] = _ := s.runTable_getElem raise i
  rw [hrec] at h ⊢
  exact if_pos h

/-- An allocation run: its grant table, each slot's action on its grant, and the events in ascending index. -/
theorem State.run_eq (s : State) (raise : Bool) :
    s.run raise = { s.tabled raise with
      slots := Vector.ofFn fun i => (s.tabled raise).delivered raise s.alloc.table i s.slots[i]
      ring := s.ring.after s.ctl.generation (allSlots.filterMap ((s.tabled raise).grantNotice (s.tabled raise) raise)) } := by
  have h := State.deliverList_eq (s.tabled_free raise) raise s.alloc.table nodup_allSlots
  simp only [mem_allSlots, if_true] at h
  exact h

theorem State.run_extractions (s : State) (raise : Bool) : (s.run raise).extractions = s.extractions := by
  rw [State.run_eq]; rfl

theorem State.run_placements (s : State) (raise : Bool) : (s.run raise).placements = s.placements := by
  rw [State.run_eq]; rfl

theorem State.run_table (s : State) (raise : Bool) : (s.run raise).alloc.table = s.runTable raise := by
  rw [State.run_eq]; rfl

/-! ### What a run computes depends on the entries, the slots' states and E alone (R67 to R69) -/

section RunGrant

variable {s t : State} (hplan : t.ctl.active = s.ctl.active) (hpool : t.alloc.pool = s.alloc.pool)
  (hstate : ∀ i : SlotIx, t.slots[i].state = s.slots[i].state)
include hplan hstate

theorem State.served_congr (raise : Bool) (i : SlotIx) : t.served raise i = s.served raise i := by
  unfold State.served State.claimant
  rw [hplan, hstate]

theorem State.servedAt_congr (raise : Bool) (p : Nat) : t.servedAt raise p = s.servedAt raise p := by
  funext i
  unfold State.servedAt
  rw [State.served_congr hplan hstate, hplan]

omit hstate in
theorem State.share_congr : t.share = s.share := by
  funext i
  unfold State.share
  rw [hplan]

theorem State.demand_congr (raise : Bool) (p : Nat) : t.demand raise p = s.demand raise p := by
  unfold State.demand
  rw [State.servedAt_congr hplan hstate, State.share_congr hplan]

include hpool

theorem State.remainder_congr (raise : Bool) (p : Nat) : t.remainder raise p = s.remainder raise p := by
  induction p with
  | zero => exact hpool
  | succ p ih => simp only [State.remainder, State.demand_congr hplan hstate, ih]

theorem State.grantAt_congr (raise : Bool) (p : Nat) (i : SlotIx) : t.grantAt raise p i = s.grantAt raise p i := by
  unfold State.grantAt State.shortAt State.leftover
  rw [State.demand_congr hplan hstate, State.remainder_congr hplan hpool hstate, State.servedAt_congr hplan hstate,
    State.share_congr hplan]

theorem State.runGrant_congr (raise : Bool) (i : SlotIx) : t.runGrant raise i = s.runGrant raise i := by
  unfold State.runGrant
  rw [State.served_congr hplan hstate, State.grantAt_congr hplan hpool hstate, hplan]

end RunGrant

/-! ### Raise orders and the raise run (R10, R61, R107) -/

/-- A slot's record as a raise order leaves it (R61). -/
def Slot.ordered (x : Slot) (e : Entry) : Slot := { x with inUse := e.inUse, attempts := 0, hold := none, reacquire := none }

/-- Raise orders to some slots: each takes up its active entry. -/
theorem State.raiseOrders_eq (s : State) {l : List SlotIx} (hl : l.Nodup) :
    l.foldl State.raiseOrder s = { s with
      slots := Vector.ofFn fun j => if j ∈ l then s.slots[j].ordered s.ctl.active.entries[j] else s.slots[j]
      extractions := Vector.ofFn fun j =>
        if j ∈ l then s.extractions[j].adopt s.ctl.active.header s.ctl.active.entries[j] else s.extractions[j]
      placements := Vector.ofFn fun j =>
        if j ∈ l then Placement.adopt s.ctl.active.header s.ctl.active.entries[j] else s.placements[j] } := by
  induction l generalizing s with
  | nil =>
    have hv {α : Type} (v : PerSlot α) : (Vector.ofFn fun j : SlotIx => v[j]) = v :=
      PerSlot.ext fun j => PerSlot.getElem_ofFn _ j
    simp only [List.foldl_nil, List.not_mem_nil, if_false, hv]
  | cons i l ih =>
    obtain ⟨hi, hl⟩ := List.nodup_cons.mp hl
    have hstep {α : Type} (v : PerSlot α) (f : SlotIx → α → α) :
        (Vector.ofFn fun j => if j ∈ l then f j (v.set i (f i v[i]))[j] else (v.set i (f i v[i]))[j] : PerSlot α)
          = Vector.ofFn fun j => if j ∈ i :: l then f j v[j] else v[j] := by
      refine PerSlot.ext fun j => ?_
      rw [PerSlot.getElem_ofFn, PerSlot.getElem_ofFn, PerSlot.getElem_set]
      by_cases hji : j = i
      · subst hji
        simp [hi]
      · simp [hji]
    rw [List.foldl_cons, ih _ hl, ← hstep s.slots fun j x => x.ordered s.ctl.active.entries[j],
      ← hstep s.extractions fun j x => x.adopt s.ctl.active.header s.ctl.active.entries[j],
      ← hstep s.placements fun j _ => Placement.adopt s.ctl.active.header s.ctl.active.entries[j]]
    rfl

/-- An adoption in the words of R10. -/
theorem Extraction.adopt_adopts (x : Extraction) (h : Header) (e : Entry) : x.Adopts (x.adopt h e) h e := by
  unfold Extraction.Adopts Extraction.adopt
  dsimp only
  by_cases he : e.enabled = false
  · simp [he]
  · rw [if_neg he, if_neg (by simpa using he)]
    have hkept : (x.tuned && x.source = .primary && x.offset = offsetOf e.rxKhz h.rxCentre && x.bwClass = e.bwClass) = true
        ↔ x.tuned = true ∧ x.source = .primary ∧ x.offset = (e.rxKhz : Int) - h.rxCentre ∧ x.bwClass = e.bwClass := by
      simp only [Bool.and_eq_true, decide_eq_true_eq, and_assoc]
      exact Iff.rfl
    by_cases hk : x.tuned = true ∧ x.source = .primary ∧ x.offset = (e.rxKhz : Int) - h.rxCentre ∧ x.bwClass = e.bwClass
    · rw [if_pos (hkept.mpr hk)]
      exact ⟨hk.1, hk.2.1, hk.2.2.1, hk.2.2.2, rfl, fun _ => rfl, fun hn => absurd hk hn⟩
    · rw [if_neg fun h => hk (hkept.mp h)]
      exact ⟨rfl, rfl, rfl, rfl, rfl, fun hy => absurd hy hk, fun _ => ⟨rfl, rfl, rfl, rfl, rfl, rfl⟩⟩

theorem Placement.adopt_adopts (h : Header) (e : Entry) : (Placement.adopt h e).Adopts h e := rfl

/-- Raise orders to some slots and the raise run that follows them. -/
def State.raiseSlots (s : State) (l : List SlotIx) : State := (l.foldl State.raiseOrder s).releaseWithRaise

section RaiseSlots

variable {s : State} {l : List SlotIx} (hl : l.Nodup) (hheld : s.alloc.held = true)
  (hoff : ∀ i ∈ l, s.slots[i].state = .off)

/-- The state in which the slots have their raise orders and the Allocator is free. -/
def State.orderedFree (s : State) (l : List SlotIx) : State :=
  (l.foldl State.raiseOrder s).modAlloc fun a => { a with held := false, pendingRun := false }

include hl

theorem State.orderedFree_slots (i : SlotIx) : (s.orderedFree l).slots[i]
    = if i ∈ l then s.slots[i].ordered s.ctl.active.entries[i] else s.slots[i] := by
  unfold State.orderedFree
  rw [State.raiseOrders_eq s hl]
  exact PerSlot.getElem_ofFn _ i

theorem State.orderedFree_extractions (i : SlotIx) : (s.orderedFree l).extractions[i]
    = if i ∈ l then s.extractions[i].adopt s.ctl.active.header s.ctl.active.entries[i] else s.extractions[i] := by
  unfold State.orderedFree
  rw [State.raiseOrders_eq s hl]
  exact PerSlot.getElem_ofFn _ i

theorem State.orderedFree_placements (i : SlotIx) : (s.orderedFree l).placements[i]
    = if i ∈ l then Placement.adopt s.ctl.active.header s.ctl.active.entries[i] else s.placements[i] := by
  unfold State.orderedFree
  rw [State.raiseOrders_eq s hl]
  exact PerSlot.getElem_ofFn _ i

/-- Raise orders change the slots' records and their channels, and nothing else. -/
theorem State.orderedFree_frame : ∃ sl ex pl, s.orderedFree l = { s with
    slots := sl, extractions := ex, placements := pl, alloc := { s.alloc with held := false, pendingRun := false } } := by
  unfold State.orderedFree
  rw [State.raiseOrders_eq s hl]
  exact ⟨_, _, _, rfl⟩

/-- Raise orders leave the slots' states, and so what the run computes. -/
theorem State.orderedFree_runGrant (i : SlotIx) : (s.orderedFree l).runGrant true i = s.runGrant true i := by
  obtain ⟨sl, ex, pl, e⟩ := State.orderedFree_frame (s := s) hl
  refine State.runGrant_congr ?_ ?_ (fun j => ?_) true i
  · rw [e]
  · rw [e]
  · rw [State.orderedFree_slots hl]
    split <;> rfl

include hheld

theorem State.raiseSlots_eq_run : s.raiseSlots l = (s.orderedFree l).run true := by
  have hheld' : (l.foldl State.raiseOrder s).alloc.held = true := by
    rw [State.raiseOrders_eq s hl]
    exact hheld
  exact if_pos hheld'

/-- Raise orders and the raise run change slots, channels, grants and ring, and free the Allocator. -/
theorem State.raiseSlots_frame : s.raiseSlots l = { s with
    slots := (s.raiseSlots l).slots, extractions := (s.raiseSlots l).extractions
    placements := (s.raiseSlots l).placements, ring := (s.raiseSlots l).ring
    alloc := { s.alloc with held := false, pendingRun := false, table := (s.raiseSlots l).alloc.table } } := by
  obtain ⟨sl, ex, pl, e⟩ := State.orderedFree_frame (s := s) hl
  rw [State.raiseSlots_eq_run hl hheld, State.run_eq, e]
  rfl

theorem State.raiseSlots_extractions (i : SlotIx) : (s.raiseSlots l).extractions[i]
    = if i ∈ l then s.extractions[i].adopt s.ctl.active.header s.ctl.active.entries[i] else s.extractions[i] := by
  rw [State.raiseSlots_eq_run hl hheld, State.run_extractions, State.orderedFree_extractions hl]

theorem State.raiseSlots_placements (i : SlotIx) : (s.raiseSlots l).placements[i]
    = if i ∈ l then Placement.adopt s.ctl.active.header s.ctl.active.entries[i] else s.placements[i] := by
  rw [State.raiseSlots_eq_run hl hheld, State.run_placements, State.orderedFree_placements hl]

/-- The grant table is that of the raise run (R70). -/
theorem State.raiseSlots_table (i : SlotIx) : (s.raiseSlots l).alloc.table[i]
    = ⟨s.runGrant true i, targetOf s.ctl.active.header.ceiling (s.runGrant true i), s.ctl.active.entries[i].share⟩ := by
  obtain ⟨sl, ex, pl, e⟩ := State.orderedFree_frame (s := s) hl
  have hctl : (s.orderedFree l).ctl = s.ctl := by rw [e]
  have h := (s.orderedFree l).runTable_getElem true i
  rw [State.orderedFree_runGrant hl, State.share, hctl] at h
  rw [State.raiseSlots_eq_run hl hheld, State.run_eq]
  exact h

/-- The gain a rise of the raise run ends at (R53). -/
theorem State.raiseSlots_rise (i : SlotIx) : ((s.orderedFree l).tabled true).riseGain i
    = max (-80) (min 120 ((targetOf s.ctl.active.header.ceiling (s.runGrant true i)).getD 0
        - (s.raiseSlots l).extractions[i].lastLevel)) := by
  have hrec := State.raiseSlots_table hl hheld i
  rw [State.raiseSlots_eq_run hl hheld, State.run_eq] at hrec ⊢
  have hrec' : ((s.orderedFree l).tabled true).alloc.table[i] = _ := hrec
  unfold State.riseGain State.target
  rw [hrec']
  rfl

/-- Each slot acts on its grant from its record as its order left it. -/
theorem State.raiseSlots_slots (i : SlotIx) : (s.raiseSlots l).slots[i]
    = ((s.orderedFree l).tabled true).delivered true s.alloc.table i
        (if i ∈ l then s.slots[i].ordered s.ctl.active.entries[i] else s.slots[i]) := by
  obtain ⟨sl, ex, pl, e⟩ := State.orderedFree_frame (s := s) hl
  have htable : (s.orderedFree l).alloc.table = s.alloc.table := by rw [e]
  rw [← State.orderedFree_slots hl, ← htable, State.raiseSlots_eq_run hl hheld, State.run_eq]
  exact PerSlot.getElem_ofFn _ i

/-- The events of the raise run, in ascending index (R64; log entry 12). -/
theorem State.raiseSlots_ring : (s.raiseSlots l).ring
    = s.ring.after s.ctl.generation (allSlots.filterMap (s.grantNotice (s.raiseSlots l) true)) := by
  obtain ⟨sl, ex, pl, e⟩ := State.orderedFree_frame (s := s) hl
  have hctl : (s.orderedFree l).ctl = s.ctl := by rw [e]
  have hring : (s.orderedFree l).ring = s.ring := by rw [e]
  have hnotice (i : SlotIx) : ((s.orderedFree l).tabled true).grantNotice ((s.orderedFree l).tabled true) true i
      = s.grantNotice (s.raiseSlots l) true i := by
    have hstate : ((s.orderedFree l).tabled true).slots[i].state = s.slots[i].state := by
      show (s.orderedFree l).slots[i].state = _
      rw [State.orderedFree_slots hl]
      split <;> rfl
    have hctl' : ((s.orderedFree l).tabled true).ctl = s.ctl := hctl
    rw [State.raiseSlots_eq_run hl hheld, State.run_eq]
    unfold State.grantNotice
    rw [hstate, hctl']
  rw [show s.grantNotice (s.raiseSlots l) true = _ from funext fun i => (hnotice i).symm, ← hctl, ← hring,
    State.raiseSlots_eq_run hl hheld, State.run_eq]

/-- The record of the grant table on which the slots act is the one that stays. -/
theorem State.raiseSlots_tabled (i : SlotIx) : ((s.orderedFree l).tabled true).alloc.table[i]
    = ⟨s.runGrant true i, targetOf s.ctl.active.header.ceiling (s.runGrant true i), s.ctl.active.entries[i].share⟩ := by
  rw [← State.raiseSlots_table hl hheld, State.raiseSlots_eq_run hl hheld, State.run_table]
  rfl

omit hheld in
theorem State.raiseSlots_ctl : ((s.orderedFree l).tabled true).ctl = s.ctl := by
  obtain ⟨sl, ex, pl, e⟩ := State.orderedFree_frame (s := s) hl
  rw [e]
  rfl

/-- A slot that was not ordered acts on its grant as in any run (R56, R62). -/
theorem State.raiseSlots_kept {i : SlotIx} (hi : i ∉ l)
    (hw : s.slots[i].state ≠ .off ∨ s.ctl.active.entries[i].enabled = false) :
    (s.raiseSlots l).slots[i] = s.slots[i].given (s.runGrant true i)
      (targetDrop s.alloc.table[i].target (targetOf s.ctl.active.header.ceiling (s.runGrant true i)))
      (max (-80) (min 120 ((targetOf s.ctl.active.header.ceiling (s.runGrant true i)).getD 0 - s.extractions[i].lastLevel)))
      (s.ctl.active.header.rampMs * 160000) := by
  have hctl := State.raiseSlots_ctl (s := s) hl
  have hx : (s.raiseSlots l).extractions[i] = s.extractions[i] := by
    rw [State.raiseSlots_extractions hl hheld, if_neg hi]
  rw [State.raiseSlots_slots hl hheld, if_neg hi, State.delivered_of_not_waiting, State.raiseSlots_rise hl hheld, hx,
    State.raiseSlots_tabled hl hheld, State.rampSamples, hctl]
  · rfl
  · rw [hctl]
    rintro ⟨-, h1, h2⟩
    rcases hw with h | h
    · exact h h1
    · rw [h] at h2; cases h2

include hoff

/-- An ordered slot is raised (R61). -/
theorem State.raiseSlots_raised {i : SlotIx} (hi : i ∈ l) : s.RaisesSlot (s.raiseSlots l) i := by
  have hctl := State.raiseSlots_ctl (s := s) hl
  have hstate : (s.slots[i].ordered s.ctl.active.entries[i]).state = .off := hoff i hi
  refine ⟨State.raiseSlots_table hl hheld i, ?_, ?_, ?_⟩
  · rw [State.raiseSlots_extractions hl hheld, if_pos hi]
    exact Extraction.adopt_adopts _ _ _
  · rw [State.raiseSlots_placements hl hheld, if_pos hi]
    exact Placement.adopt_adopts _ _
  · rw [State.raiseSlots_slots hl hheld, if_pos hi]
    by_cases he : s.ctl.active.entries[i].enabled = true
    · rw [if_pos he, State.delivered_of_waiting ⟨rfl, hstate, by rw [hctl]; exact he⟩, State.raiseSlots_rise hl hheld,
        State.raiseSlots_tabled hl hheld, State.rampSamples, hctl, Slot.raised]
      rfl
    · rw [if_neg he, State.delivered_of_not_waiting fun ⟨_, _, h⟩ => he (by rw [hctl] at h; exact h)]
      unfold Slot.given
      rw [hstate]
      rfl

end RaiseSlots

end Sys2Proof.Machine

namespace Sys2Proof.Machine

/-! ### RAISING (R107, R108) -/

theorem mem_members {set : PerSlot Bool} {i : SlotIx} : i ∈ members set ↔ set[i] = true := by
  simp [members, mem_allSlots, -Fin.getElem_fin]

theorem nodup_members (set : PerSlot Bool) : (members set).Nodup := nodup_allSlots.filter _

/-- The slots of a set that are in a state, counted. -/
theorem State.countIn_eq_card (s : State) (set : PerSlot Bool) (st : SlotState) :
    s.countIn set st = (Finset.univ.filter fun i : SlotIx => set[i] = true ∧ s.slots[i].state = st).card := by
  unfold State.countIn
  rw [← List.toFinset_card_of_nodup (nodup_allSlots.filter _)]
  congr 1
  ext i
  simp [mem_allSlots, -Fin.getElem_fin]

/-- The last of some events written is the last entry of the ring (R170). -/
theorem Ring.after_getLast (r : Ring) (generation : Nat) (ns : List Notice) (n : Notice) :
    ∃ e, (r.after generation (ns ++ [n])).entries.getLast? = some e ∧ e.notice = n := by
  rw [Ring.after_append]
  exact ⟨_, by simp [Ring.write]; rfl, rfl⟩

/-- A change of source, written out (R11). -/
theorem State.selectSource_eq (s : State) (i : SlotIx) (src : Source) :
    s.selectSource i src = { s with extractions := s.extractions.set i (s.extractions[i].select s.slots[i].inUse src) } :=
  rfl

theorem Extraction.select_eq (x : Extraction) (u : InUse) (src : Source) :
    x.select u src = if x.tuned = true ∧ x.source ≠ src then
      { x with source := src, offset := offsetOf (u.freq src) x.centre, word := tuningWord (offsetOf (u.freq src) x.centre)
               phase := 0, accum := .empty, settling := some 16000, history := [] }
      else { x with source := src } := by
  unfold Extraction.select
  by_cases h : x.tuned = true ∧ x.source ≠ src
  · rw [if_pos h, if_pos (by simpa using h)]
    rfl
  · rw [if_neg h, if_neg (by simpa using h)]

/-- The closing event of a change (R107, R108, R111). -/
theorem State.closing_eq (s t : State) :
    s.closing t = (doneNotice s.ctl.change (t.countIn s.ctl.drainSet .rising)
      (t.countIn s.ctl.drainSet .deferred)).toList := by
  unfold State.closing doneNotice
  rcases s.ctl.change with _ | _ | _ | _ <;> rfl

/-- The Controller enters RAISING (R107). -/
def State.inRaising (s : State) : State := s.modCtl fun c => { c with state := .raising }

/-- The state in which RAISING has raised the drained slots. -/
def State.raisedDrained (s : State) : State := s.inRaising.raiseSlots (members s.ctl.drainSet)

/-- The run of RAISING computes what the state before it says. -/
theorem State.inRaising_runGrant (s : State) (raise : Bool) : s.inRaising.runGrant raise = s.runGrant raise :=
  funext fun i => State.runGrant_congr (s := s) (t := s.inRaising) rfl rfl (fun _ => rfl) raise i

/-- A slot's raise and its event are read from fields that the end of a change leaves. -/
theorem State.RaisesSlot.congr {s t t' : State} {i : SlotIx} (h : s.RaisesSlot t i) (h1 : t'.alloc = t.alloc)
    (h2 : t'.extractions = t.extractions) (h3 : t'.placements = t.placements) (h4 : t'.slots = t.slots) :
    s.RaisesSlot t' i := by
  unfold State.RaisesSlot at h ⊢
  rwa [h1, h2, h3, h4]

/-- A raise is read from the active plan, E, the slots and the extractions before it. -/
theorem State.RaisesSlot.congr_left {s s' t : State} {i : SlotIx} (h : s.RaisesSlot t i)
    (h1 : s'.ctl.active = s.ctl.active) (h2 : s'.alloc.pool = s.alloc.pool) (h3 : s'.slots = s.slots)
    (h4 : s'.extractions = s.extractions) : s'.RaisesSlot t i := by
  unfold State.RaisesSlot at h ⊢
  rwa [State.runGrant_congr h1 h2 (fun j => by rw [h3]), h1, h3, h4]

theorem State.grantNotice_congr (s : State) {t t' : State} (h1 : t'.alloc = t.alloc) (h2 : t'.extractions = t.extractions)
    (raise : Bool) : s.grantNotice t' raise = s.grantNotice t raise := by
  funext i
  unfold State.grantNotice
  rw [h1, h2]

section Raise

variable {s : State} (hheld : s.alloc.held = true)
include hheld

/-- RAISING is the raise of the drained slots, READY, and the closing event. -/
theorem State.raise_eq : s.raise = { s.raisedDrained.endChange with
    ring := s.raisedDrained.ring.after s.ctl.generation (s.closing s.raisedDrained) } := by
  have hgen : s.raisedDrained.ctl.generation = s.ctl.generation := by
    rw [State.raisedDrained, State.raiseSlots_frame (s := s.inRaising) (nodup_members _) hheld]
    rfl
  rw [State.closing_eq, ← hgen]
  exact State.writeOpt_eq s.raisedDrained.endChange _

theorem State.raise_alloc : s.raise.alloc = s.raisedDrained.alloc := by rw [State.raise_eq hheld]; rfl

theorem State.raise_slots : s.raise.slots = s.raisedDrained.slots := by rw [State.raise_eq hheld]; rfl

theorem State.raise_extractions : s.raise.extractions = s.raisedDrained.extractions := by
  rw [State.raise_eq hheld]; rfl

theorem State.raise_placements : s.raise.placements = s.raisedDrained.placements := by
  rw [State.raise_eq hheld]; rfl

/-- RAISING changes slots, channels, grants and ring, frees the Allocator and ends the change (R107). -/
theorem State.raise_frame : s.raise = { s with
    slots := s.raise.slots, extractions := s.raise.extractions, placements := s.raise.placements, ring := s.raise.ring
    alloc := { s.alloc with held := false, pendingRun := false, table := s.raise.alloc.table }
    ctl := { s.ctl with state := .ready, drainSet := Vector.replicate 16 false, awaiting := Vector.replicate 16 false
                        incoming := none, change := none } } := by
  have hframe := State.raiseSlots_frame (s := s.inRaising)
    (nodup_members s.ctl.drainSet) hheld
  rw [State.raise_eq hheld, State.raisedDrained, hframe]
  rfl

theorem State.raise_ring : s.raise.ring = s.ring.after s.ctl.generation
    (allSlots.filterMap (s.grantNotice s.raise true) ++ s.closing s.raise) := by
  have hclosing : s.closing s.raise = s.closing s.raisedDrained := by
    unfold State.closing State.countIn
    rw [State.raise_slots hheld]
  have hring : s.raisedDrained.ring = s.ring.after s.ctl.generation
      (allSlots.filterMap (s.grantNotice s.raisedDrained true)) :=
    State.raiseSlots_ring (s := s.inRaising) (nodup_members s.ctl.drainSet) hheld
  rw [hclosing, s.grantNotice_congr (State.raise_alloc hheld) (State.raise_extractions hheld), Ring.after_append, ← hring,
    State.raise_eq hheld]

/-- A slot that is not drained acts on its grant alone (R62). -/
theorem State.raise_kept {i : SlotIx} (hi : s.ctl.drainSet[i] = false) :
    s.raise.extractions[i] = s.extractions[i] ∧ s.raise.placements[i] = s.placements[i]
    ∧ (s.slots[i].state ≠ .off ∨ s.ctl.active.entries[i].enabled = false →
      s.raise.slots[i] = s.slots[i].given (s.runGrant true i)
        (targetDrop s.alloc.table[i].target (targetOf s.ctl.active.header.ceiling (s.runGrant true i)))
        (max (-80) (min 120 ((targetOf s.ctl.active.header.ceiling (s.runGrant true i)).getD 0
          - s.extractions[i].lastLevel)))
        (s.ctl.active.header.rampMs * 160000)) := by
  have hi' : i ∉ members s.ctl.drainSet := fun h => by rw [mem_members, hi] at h; cases h
  rw [State.raise_extractions hheld, State.raise_placements hheld, State.raise_slots hheld, State.raisedDrained,
    State.raiseSlots_extractions (s := s.inRaising) (nodup_members _) hheld, State.raiseSlots_placements (s := s.inRaising) (nodup_members _) hheld,
    if_neg hi', if_neg hi']
  refine ⟨rfl, rfl, fun hw => ?_⟩
  rw [← s.inRaising_runGrant]
  exact State.raiseSlots_kept (s := s.inRaising) (nodup_members _) hheld hi' hw

variable (hoff : ∀ i : SlotIx, s.ctl.drainSet[i] = true → s.slots[i].state = .off)
include hoff

/-- A drained slot is raised (R61, R107). -/
theorem State.raise_raisesSlot {i : SlotIx} (hi : s.ctl.drainSet[i] = true) : s.RaisesSlot s.raise i := by
  have h : s.inRaising.RaisesSlot s.raisedDrained i :=
    State.raiseSlots_raised (s := s.inRaising) (nodup_members _) hheld (fun j hj => hoff j (mem_members.mp hj)) (mem_members.mpr hi)
  exact (h.congr_left (s' := s) rfl rfl rfl rfl).congr (State.raise_alloc hheld) (State.raise_extractions hheld) (State.raise_placements hheld)
    (State.raise_slots hheld)

/-- RAISING in the words of its rules. -/
theorem State.raise_raises : s.Raises s.raise := by
  refine ⟨State.raise_frame hheld, fun i => ⟨?_, State.raise_raisesSlot hheld hoff, State.raise_kept hheld⟩,
    State.raise_ring hheld⟩
  rw [State.raise_alloc hheld, ← s.inRaising_runGrant]
  exact State.raiseSlots_table (s := s.inRaising) (nodup_members _) hheld i

/-- A drained slot's copy and state after RAISING (R40, R61). -/
theorem State.raise_drained {i : SlotIx} (hi : s.ctl.drainSet[i] = true) :
    s.raise.slots[i].inUse = s.ctl.active.entries[i].inUse
    ∧ s.raise.slots[i].state = (if s.ctl.active.entries[i].enabled then
        (if 0 < s.raise.alloc.table[i].grant then .rising else .deferred) else .off) := by
  obtain ⟨htable, -, -, hslot⟩ := State.raise_raisesSlot hheld hoff hi
  rw [hslot, htable]
  split
  · split <;> exact ⟨rfl, rfl⟩
  · exact ⟨rfl, hoff i hi⟩

omit hoff in
/-- The closing event of a change is the last that RAISING writes (R107, R108, R111). -/
theorem State.raise_last {n : Notice} (hn : s.closing s.raise = [n]) :
    ∃ e, s.raise.ring.entries.getLast? = some e ∧ e.notice = n := by
  rw [State.raise_ring hheld, hn]
  exact Ring.after_getLast _ _ _ _

end Raise

/-- Settles O52: RAISING in the words of its rules, the counts of its closing event, and a change of source. -/
theorem raiseInstalls : Obligations.RaiseInstalls := by
  refine ⟨fun s hheld hoff => ⟨State.raise_raises hheld hoff, fun i => State.raise_drained hheld hoff,
    fun p tag hc => State.raise_last hheld ?_, fun p tag hc => State.raise_last hheld ?_⟩, State.countIn_eq_card, ?_⟩
  · unfold State.closing
    rw [hc]
  · unfold State.closing
    rw [hc]
  · intro s i src x u offset
    rw [State.selectSource_eq, Extraction.select_eq]
    cases src <;> rfl

end Sys2Proof.Machine

namespace Sys2Proof.Machine

/-! ### Reading the boot pages (R112, R115, R125) -/

theorem Image.matching_iff (m : Image) : m.matching = true ↔ m.crc = crc32 m.record.imageBytes := by
  simp [Image.matching, eq_comm]

/-- Trying a page in the words of R125. -/
theorem Page.try_tried (x : Page) (intact : Bool) :
    x.Tried intact (x.try intact).result (x.try intact).report (x.try intact).record := by
  unfold Page.Tried
  dsimp only
  refine ⟨fun h => ?_, fun h => ?_, fun h hi => ?_, fun m h hi => ⟨fun hbad => ?_, fun hok hcrc => ⟨fun hv => ?_, fun hv => ?_⟩⟩⟩
  · simp [Page.try, h]
  · simp [Page.try, h]
  · simp [Page.try, h, Page.readRecord, hi]
  · have hread : x.readRecord intact = none := by
      rcases hbad with hb | hb
      · simp [Page.readRecord, hb]
      · have hm : ¬ m.matching = true := fun h => hb (m.matching_iff.mp h)
        simp [Page.readRecord, hi, hm]
    simp [Page.try, h, hread]
  all_goals
    have hread : x.readRecord intact = some m.record := by
      simp [Page.readRecord, hok, hi, m.matching_iff.mpr hcrc]
    simp [Page.try, h, hread, hv]

/-- The words of R125 leave one result. -/
theorem Page.Tried.eq_try {x : Page} {intact : Bool} {result : TryResult} {report : Option Report} {record : Option Plan}
    (h : x.Tried intact result report record) :
    result = (x.try intact).result ∧ report = (x.try intact).report ∧ record = (x.try intact).record := by
  have same {r : TryResult} {p : Option Report} {d : Option Plan} (e : result = r ∧ report = p ∧ record = d)
      (e' : (x.try intact).result = r ∧ (x.try intact).report = p ∧ (x.try intact).record = d) :
      result = (x.try intact).result ∧ report = (x.try intact).report ∧ record = (x.try intact).record :=
    ⟨e.1.trans e'.1.symm, e.2.1.trans e'.2.1.symm, e.2.2.trans e'.2.2.symm⟩
  obtain ⟨hblank, hcorrupt, hempty, hvalid⟩ := h
  obtain ⟨hblank', hcorrupt', hempty', hvalid'⟩ := x.try_tried intact
  rcases hs : x.state
  · exact same (hblank hs) (hblank' hs)
  · rcases hi : x.image with _ | m
    · exact same (hempty hs hi) (hempty' hs hi)
    · obtain ⟨hbad, hgood⟩ := hvalid m hs hi
      obtain ⟨hbad', hgood'⟩ := hvalid' m hs hi
      by_cases hb : intact = false ∨ m.crc ≠ crc32 m.record.imageBytes
      · exact same (hbad hb) (hbad' hb)
      · rw [not_or, not_not, Bool.not_eq_false] at hb
        rcases hv : m.record.valid
        · exact same ((hgood hb.1 hb.2).2 hv) ((hgood' hb.1 hb.2).2 hv)
        · exact same ((hgood hb.1 hb.2).1 hv) ((hgood' hb.1 hb.2).1 hv)
  · exact same (hcorrupt hs) (hcorrupt' hs)

/-- A page that yields a record was used, without a report (R125). -/
theorem Page.try_used {x : Page} {intact : Bool} {pl : Plan} (h : (x.try intact).record = some pl) :
    (x.try intact).result = .used ∧ (x.try intact).report = none := by
  unfold Page.try at h ⊢
  split at h
  · cases h
  · cases h
  · split at h
    · cases h
    · split at h
      · simp_all
      · cases h

section ReadBootPages

variable {m : Memory} {origin : BootOrigin} {x y : Bool}

/-- Without a boot record no page is tried (R125). -/
theorem Memory.readBootPages_none (hb : readBoot m.boot = none) :
    m.readBootPages origin x y = (⟨origin, none, .notNamed, .notNamed, none, none, none⟩, none) := by
  simp only [Memory.readBootPages, hb]

/-- A usable primary is used (R125; log entry 25). -/
theorem Memory.readBootPages_primary {pr : PageIx} {fb : Option PageIx} {pl : Plan} (hb : readBoot m.boot = some (pr, fb))
    (ht : (m.pages[pr].try x).record = some pl) :
    m.readBootPages origin x y = (⟨origin, some (pr, fb), .used, if fb.isSome then .notTried else .notNamed, none, none,
      some pr⟩, some pl) := by
  simp only [Memory.readBootPages, hb, ht]

/-- A primary set aside without a fallback leaves no page (R125). -/
theorem Memory.readBootPages_alone {pr : PageIx} (hb : readBoot m.boot = some (pr, none))
    (ht : (m.pages[pr].try x).record = none) :
    m.readBootPages origin x y = (⟨origin, some (pr, none), (m.pages[pr].try x).result, .notNamed,
      (m.pages[pr].try x).report, none, none⟩, none) := by
  simp only [Memory.readBootPages, hb, ht]

/-- The fallback is tried for a primary set aside (R125). -/
theorem Memory.readBootPages_fallback {pr f : PageIx} (hb : readBoot m.boot = some (pr, some f))
    (ht : (m.pages[pr].try x).record = none) :
    m.readBootPages origin x y = (⟨origin, some (pr, some f), (m.pages[pr].try x).result, (m.pages[f].try y).result,
      (m.pages[pr].try x).report, (m.pages[f].try y).report, (m.pages[f].try y).record.map fun _ => f⟩,
      (m.pages[f].try y).record) := by
  simp only [Memory.readBootPages, hb, ht]

end ReadBootPages

/-- The whole read chooses as R125 says. -/
theorem Memory.readBootPages_chooses (m : Memory) (origin : BootOrigin) (x y : Bool) :
    m.Chooses origin x y (m.readBootPages origin x y).1 (m.readBootPages origin x y).2 := by
  unfold Memory.Chooses
  rcases hb : readBoot m.boot with _ | ⟨pr, fb⟩
  · rw [Memory.readBootPages_none hb]
    exact ⟨rfl, rfl, fun _ => ⟨rfl, rfl, rfl, rfl, rfl, rfl⟩, nofun⟩
  · have hpr := m.pages[pr].try_tried x
    rcases ht : (m.pages[pr].try x).record with _ | pl
    · rw [ht] at hpr
      rcases fb with _ | f
      · rw [Memory.readBootPages_alone hb ht]
        refine ⟨rfl, rfl, nofun, fun pr' fb' h => ?_⟩
        obtain ⟨rfl, rfl⟩ := Prod.mk.inj (Option.some.inj h)
        exact ⟨none, hpr, nofun, fun _ _ => ⟨rfl, rfl, rfl, rfl⟩, nofun⟩
      · rw [Memory.readBootPages_fallback hb ht]
        refine ⟨rfl, rfl, nofun, fun pr' fb' h => ?_⟩
        obtain ⟨rfl, rfl⟩ := Prod.mk.inj (Option.some.inj h)
        refine ⟨none, hpr, nofun, nofun, fun f' _ hf => ?_⟩
        obtain rfl := Option.some.inj hf
        refine ⟨m.pages[f].try_tried y, ?_⟩
        dsimp only
        cases (m.pages[f].try y).record <;> rfl
    · rw [Memory.readBootPages_primary hb ht]
      refine ⟨rfl, rfl, nofun, fun pr' fb' h => ?_⟩
      obtain ⟨rfl, rfl⟩ := Prod.mk.inj (Option.some.inj h)
      obtain ⟨hu, hrep⟩ := Page.try_used ht
      rw [ht, hu, hrep] at hpr
      refine ⟨some pl, hpr, fun pl' h => ?_, nofun, nofun⟩
      obtain rfl := Option.some.inj h
      refine ⟨rfl, rfl, rfl, ?_⟩
      cases fb <;> rfl

@[simp] theorem Memory.markCorrupt_boot (m : Memory) (pg : Option PageIx) (r : TryResult) :
    (m.markCorrupt pg r).boot = m.boot := by
  rw [Memory.markCorrupt_frame]

/-- The end of a read leaves of Plan Memory what R112 and R115 say. -/
theorem State.endRead_readEnds (s : State) {o : BootOutcome} (ho : o.record = readBoot s.memory.boot) :
    s.memory.ReadEnds (s.endRead o).memory o := by
  refine ⟨?_, fun pg => ?_⟩
  · have hboot : (s.endRead o).memory.boot = s.memory.boot :=
      (Memory.markCorrupt_boot _ _ _).trans (Memory.markCorrupt_boot _ _ _)
    rw [← hboot]
    rfl
  · show ((s.memory.markCorrupt _ _).markCorrupt _ _).pages[pg] = _
    rw [Memory.markCorrupt_pages, Memory.markCorrupt_pages, ho]
    rcases readBoot s.memory.boot with _ | ⟨pr, fb⟩
    · simp
    · have hex : (∃ pr' fb', some (pr, fb) = some (pr', fb')
          ∧ (pg = pr' ∧ o.primary = .corrupt ∨ fb' = some pg ∧ o.fallback = .corrupt))
          ↔ pr = pg ∧ o.primary = .corrupt ∨ fb = some pg ∧ o.fallback = .corrupt := by
        simp [eq_comm]
      rw [if_congr hex rfl rfl]
      simp only [Option.map_some, Option.bind_some, Option.some.injEq]
      by_cases h1 : pr = pg ∧ o.primary = .corrupt
      · rw [if_pos h1, if_pos (Or.inl h1), ite_self]
      · simp only [if_neg h1, or_iff_right h1]

/-! ### The end of the start-up read (R127, R128) -/

/-- The cause of STARTED is read from the outcome's two results (R128). -/
theorem State.writeStarted_eq (s : State) (o : BootOutcome) :
    s.writeStarted o = s.write
      { kind := .started
        slot := match o.primaryReport with
          | some rep => some rep.slot
          | none => o.fallbackReport.map fun rep => rep.slot
        value1 := o.used.map fun g => (g.val : Int)
        value2 := some (if s.resetCause = .powerOn then 0 else 1)
        cause := some (if o.primary = .used then .primary else if o.fallback = .used then .fallback else .none) } := by
  have hcode : ((resetCode s.resetCause : Nat) : Int) = if s.resetCause = .powerOn then 0 else 1 := by
    cases s.resetCause <;> rfl
  unfold State.writeStarted
  rw [hcode]
  rfl

/-- A run that is no raise run serves no slot in OFF: it records no grant and no slot acts (R67, R71). -/
theorem State.run_of_off {s : State} (hoff : ∀ i : SlotIx, s.slots[i].state = .off) :
    s.run false = s.modAlloc fun a => { a with table := Vector.ofFn fun i => ⟨0, none, s.share i⟩ } := by
  have hgrant (i : SlotIx) : s.runGrant false i = 0 := by
    unfold State.runGrant State.served
    rw [hoff]
    simp
  have htable : s.runTable false = Vector.ofFn fun i => ⟨0, none, s.share i⟩ := by
    unfold State.runTable
    simp only [hgrant]
    rfl
  have hslots : (Vector.ofFn fun i => (s.tabled false).delivered false s.alloc.table i s.slots[i]) = s.slots :=
    PerSlot.ext fun i => by
      rw [PerSlot.getElem_ofFn, State.delivered_of_not_waiting (by simp)]
      unfold Slot.given
      rw [hoff]
  have hnotices : allSlots.filterMap ((s.tabled false).grantNotice (s.tabled false) false) = [] :=
    List.filterMap_eq_nil_iff.mpr fun i _ => by
      unfold State.grantNotice
      rw [show (s.tabled false).slots[i].state = .off from hoff i]
      simp
  rw [State.run_eq, hslots, hnotices, State.tabled, htable]
  rfl

/-- The release of the Allocator while every slot is OFF: the run that was pending records no grant (R74). -/
theorem State.releaseWithoutRaise_of_off {s : State} (hheld : s.alloc.held = true)
    (hoff : ∀ i : SlotIx, s.slots[i].state = .off) :
    s.releaseWithoutRaise = { s with alloc := { s.alloc with
      held := false, pendingRun := false
      table := if s.alloc.pendingRun then Vector.ofFn fun i => ⟨0, none, s.share i⟩ else s.alloc.table } } := by
  unfold State.releaseWithoutRaise
  rw [if_pos hheld]
  dsimp only
  split
  · exact State.run_of_off hoff
  · rfl

section StartUpInstall

variable {s : State} (hheld : s.alloc.held = true) (hoff : ∀ i : SlotIx, s.slots[i].state = .off) (pl : Plan)

/-- The state in which a start-up has made a plan active (R127). -/
def State.activated (s : State) (pl : Plan) : State :=
  s.modCtl fun c => { c with active := pl, generation := 1, change := some .startUp }

theorem State.startUpInstall_eq (s : State) (pl : Plan) :
    s.startUpInstall pl = ((s.activated pl).raiseSlots allSlots).endChange := rfl

include hheld

/-- A start-up installation makes the plan active with generation 1, and the Controller READY with the Allocator free
(R127). -/
theorem State.startUpInstall_frame : s.startUpInstall pl = { s with
    slots := (s.startUpInstall pl).slots, extractions := (s.startUpInstall pl).extractions
    placements := (s.startUpInstall pl).placements, ring := (s.startUpInstall pl).ring
    alloc := { s.alloc with held := false, pendingRun := false, table := (s.startUpInstall pl).alloc.table }
    ctl := ⟨.ready, pl, 1, none, none, noSlots, noSlots⟩ } := by
  rw [State.startUpInstall_eq, State.raiseSlots_frame (s := s.activated pl) nodup_allSlots hheld]
  rfl

theorem State.startUpInstall_ring : (s.startUpInstall pl).ring = s.ring.after 1 (allSlots.filterMap
    (State.grantNotice { s with ctl := { s.ctl with active := pl } } (s.startUpInstall pl) true)) :=
  State.raiseSlots_ring (s := s.activated pl) nodup_allSlots hheld

include hoff

/-- Every slot is raised (R127). -/
theorem State.startUpInstall_raisesSlot (i : SlotIx) :
    State.RaisesSlot { s with ctl := { s.ctl with active := pl } } (s.startUpInstall pl) i := by
  have h : (s.activated pl).RaisesSlot ((s.activated pl).raiseSlots allSlots) i :=
    State.raiseSlots_raised (s := s.activated pl) nodup_allSlots hheld (fun j _ => hoff j) (mem_allSlots i)
  exact (h.congr_left (s' := { s with ctl := { s.ctl with active := pl } }) rfl rfl rfl rfl).congr
    (t' := s.startUpInstall pl) rfl rfl rfl rfl

end StartUpInstall

/-- The end of a start-up read with a usable page. -/
theorem State.startUpEnd_some {s : State} {item : ReadItem} {x y : Bool} {o : BootOutcome} {pl : Plan}
    (hop : s.memory.op = some (.startUpRead item))
    (hr : s.memory.readBootPages .startUp (item.primaryIntact x) y = (o, some pl)) :
    s.startUpEnd x y = ((s.endRead o).startUpInstall pl).writeStarted o := by
  simp only [State.startUpEnd, hop, hr]

/-- The end of a start-up read without one. -/
theorem State.startUpEnd_none {s : State} {item : ReadItem} {x y : Bool} {o : BootOutcome}
    (hop : s.memory.op = some (.startUpRead item))
    (hr : s.memory.readBootPages .startUp (item.primaryIntact x) y = (o, none)) :
    s.startUpEnd x y = ((s.endRead o).releaseWithoutRaise.endChange).writeStarted o := by
  simp only [State.startUpEnd, hop, hr]

/-- Settles O42: the read chooses, and then a page's record is installed or the Allocator is released. -/
theorem startUpReadEnd : Obligations.StartUpReadEnd := by
  intro s item x y hr hop hheld hoff
  rcases hread : s.memory.readBootPages .startUp (item.primaryIntact x) y with ⟨o, record⟩
  have hchooses := s.memory.readBootPages_chooses .startUp (item.primaryIntact x) y
  rw [hread] at hchooses
  have hends := s.endRead_readEnds (o := o) hchooses.2.1
  have hexec : exec (.startUpReadEnd x y) s = .next (s.startUpEnd x y) :=
    State.running_of_not_reset hr fun s => s.startUpEnd x y
  refine ⟨o, record, _, hexec, hchooses, ?_⟩
  rcases record with _ | pl
  · rw [State.startUpEnd_none hop hread, State.releaseWithoutRaise_of_off (s := s.endRead o) hheld hoff,
      State.writeStarted_eq]
    refine ⟨hends, rfl, rfl, rfl, rfl, ⟨nofun, fun _ => ⟨rfl, rfl, rfl, rfl, rfl, fun i => ?_, rfl⟩⟩, rfl, rfl, rfl, rfl,
      rfl⟩
    show (if s.alloc.pendingRun = true then Vector.ofFn (fun j => (⟨0, none, s.share j⟩ : GrantRec)) else s.alloc.table)[i] = _
    by_cases hp : s.alloc.pendingRun = true
    · rw [if_pos hp, if_pos hp, PerSlot.getElem_ofFn]
      rfl
    · rw [if_neg hp, if_neg hp]
  · have hraised := State.startUpInstall_raisesSlot (s := s.endRead o) hheld hoff pl
    have hring := State.startUpInstall_ring (s := s.endRead o) hheld pl
    have hframe := State.startUpInstall_frame (s := s.endRead o) hheld pl
    rw [State.startUpEnd_some hop hread, State.writeStarted_eq]
    generalize (s.endRead o).startUpInstall pl = u at hraised hring hframe
    have hctl : u.ctl = ⟨.ready, pl, 1, none, none, noSlots, noSlots⟩ := (congrArg State.ctl hframe :)
    have halloc : u.alloc = { s.alloc with held := false, pendingRun := false, table := u.alloc.table } :=
      (congrArg State.alloc hframe :)
    have hmemory : u.memory = (s.endRead o).memory := (congrArg State.memory hframe :)
    refine ⟨hmemory ▸ hends, congrArg Controller.state hctl, congrArg Controller.change hctl,
      congrArg Allocator.held halloc, congrArg Allocator.pendingRun halloc, ⟨fun pl' hpl => ?_, nofun⟩,
      (congrArg State.drafts hframe :), (congrArg State.arbiter hframe :), (congrArg State.combiner hframe :),
      (congrArg State.ports hframe :), (congrArg State.interlock hframe :)⟩
    obtain rfl := Option.some.inj hpl
    refine ⟨congrArg Controller.active hctl, congrArg Controller.generation hctl, fun i => ?_, ?_⟩
    · exact ((hraised i).congr_left (s' := { s with ctl := { s.ctl with active := pl } }) rfl rfl rfl rfl).congr
        rfl rfl rfl rfl
    · have hcause : u.resetCause = s.resetCause := (congrArg State.resetCause hframe :)
      rw [Ring.after_append, ← hcause]
      exact congrArg₂ (fun generation r => Ring.write r generation _) (congrArg Controller.generation hctl) hring

end Sys2Proof.Machine

namespace Sys2Proof.Machine

/-! ### The computed unit complex numbers against sine and cosine (log entry 7)

A phasor is computed in units of 2^-128. Its distance from the unit complex number of its angle is counted in these units:
a halving keeps it below 12, a product adds the factors' distances and 3, so 30 or 100 bits of an angle and a power of 12
bits stay far within the tolerance of 10^-24. -/

/-- The unit of a phasor's components. -/
noncomputable def ulp : ℝ := 1 / 2 ^ 128

theorem ulp_pos : 0 < ulp := by unfold ulp; positivity

theorem ulp_le : ulp ≤ 1 / 10 ^ 38 := by unfold ulp; norm_num

theorem two_pow_mul_ulp : (2 ^ 128 : ℝ) * ulp = 1 := by unfold ulp; norm_num

theorem cast_two_pow_mul_ulp : ((2 ^ 128 : Int) : ℝ) * ulp = 1 := by
  rw [Int.cast_pow, Int.cast_ofNat, two_pow_mul_ulp]

/-- A phasor lies componentwise within e of the unit complex number of an angle. -/
def Phasor.Close (z : Phasor) (θ e : ℝ) : Prop := |z.c * ulp - Real.cos θ| ≤ e ∧ |z.s * ulp - Real.sin θ| ≤ e

theorem Phasor.Close.mono {z : Phasor} {θ e e' : ℝ} (h : z.Close θ e) (he : e ≤ e') : z.Close θ e' :=
  ⟨h.1.trans he, h.2.trans he⟩

/-- The integer part of a square root, in its own words. -/
theorem rootOf_spec {n : Nat} (h : n < 2 ^ 280) : rootOf n * rootOf n ≤ n ∧ n < (rootOf n + 1) * (rootOf n + 1) := by
  refine ⟨?_, Nat.lt_of_not_le fun hle => ?_⟩
  · exact of_decide_eq_true (greatest_holds (fun a => a * a ≤ n) 140 0 (by simp))
  · have hroot : rootOf n + 1 < 2 ^ 140 := by
      by_contra hc
      have := Nat.mul_le_mul (Nat.le_of_not_lt hc) (Nat.le_of_not_lt hc)
      omega
    have hfails := greatest_fails (fun a => a * a ≤ n)
      (fun a b hab hb => by simpa using (Nat.mul_le_mul hab hab).trans (of_decide_eq_true hb)) 140 0 (rootOf n + 1)
      (Nat.lt_succ_self _) (by omega)
    exact of_decide_eq_false hfails hle

/-- A rounded root of a rounded radicand. -/
theorem root_close {k C x c e u : ℝ} (hlo : k * k ≤ (1 + x) / 2) (hhi : (1 + x) / 2 < (k + u) * (k + u))
    (hC : C * C = (1 + c) / 2) (hx : |x - c| ≤ e) (hC0 : 7 / 10 ≤ C) (hk : 0 ≤ k) (hu : 0 ≤ u) (he : e ≤ 1 / 10) :
    |k - C| ≤ e / 2 + u := by
  obtain ⟨hx1, hx2⟩ := abs_le.mp hx
  rw [abs_le]
  constructor
  · by_contra hc
    nlinarith
  · by_contra hc
    nlinarith

/-- A rounded quotient of a rounded dividend and divisor. -/
theorem quotient_close {k C S x s t e u : ℝ} (hlo : 2 * k * t ≤ x) (hhi : x < 2 * k * (t + u)) (hs : s = 2 * C * S)
    (hx : |x - s| ≤ e) (hkC : |k - C| ≤ e / 2 + u) (hS : 0 ≤ S) (hk : 0 ≤ k) (hu : 0 ≤ u) :
    |k * (t - S)| ≤ e / 2 + S * (e / 2 + u) + k * u := by
  obtain ⟨hx1, hx2⟩ := abs_le.mp hx
  obtain ⟨hk1, hk2⟩ := abs_le.mp hkC
  have h1 : S * (k - C) ≤ S * (e / 2 + u) := mul_le_mul_of_nonneg_left hk2 hS
  have h2 : S * -(e / 2 + u) ≤ S * (k - C) := mul_le_mul_of_nonneg_left hk1 hS
  have h3 : 0 ≤ k * u := mul_nonneg hk hu
  rw [abs_le]
  constructor <;> nlinarith

/-- The cosine and sine of half an angle within a quarter turn. -/
theorem half_angle {θ : ℝ} (h0 : 0 ≤ θ) (h1 : θ ≤ Real.pi / 2) :
    Real.cos (θ / 2) * Real.cos (θ / 2) = (1 + Real.cos θ) / 2
    ∧ Real.sin θ = 2 * Real.cos (θ / 2) * Real.sin (θ / 2)
    ∧ 7 / 10 ≤ Real.cos (θ / 2) ∧ 0 ≤ Real.sin (θ / 2) := by
  have hdouble : θ = 2 * (θ / 2) := by ring
  have hcos := Real.cos_two_mul (θ / 2)
  have hsin := Real.sin_two_mul (θ / 2)
  rw [← hdouble] at hcos hsin
  have hpi := Real.pi_pos
  have hc0 : 0 ≤ Real.cos θ := Real.cos_nonneg_of_mem_Icc ⟨by linarith, h1⟩
  have hC0 : 0 ≤ Real.cos (θ / 2) := Real.cos_nonneg_of_mem_Icc ⟨by linarith, by linarith⟩
  refine ⟨by linarith, by linarith, by nlinarith, Real.sin_nonneg_of_nonneg_of_le_pi (by linarith) (by linarith)⟩

/-- What halving computes, in the reals: a rounded root and a rounded quotient. -/
theorem Phasor.half_spec {x : Phasor} (h0 : -2 ^ 127 ≤ x.c) (h1 : x.c ≤ 2 ^ 129) :
    let k : ℝ := x.half.c * ulp
    0 ≤ k ∧ k * k ≤ (1 + x.c * ulp) / 2 ∧ (1 + x.c * ulp) / 2 < (k + ulp) * (k + ulp)
    ∧ (0 < k → 2 * k * (x.half.s * ulp) ≤ x.s * ulp ∧ x.s * ulp < 2 * k * (x.half.s * ulp + ulp)) := by
  obtain ⟨n, hn⟩ : ∃ n : Nat, (2 ^ 128 + x.c).toNat = n := ⟨_, rfl⟩
  have hnc : (n : ℝ) = 2 ^ 128 + x.c := by
    have : (n : Int) = 2 ^ 128 + x.c := by omega
    exact_mod_cast congrArg (Int.cast : Int → ℝ) this
  have hsmall : n * 2 ^ 127 < 2 ^ 280 := by omega
  obtain ⟨hlo, hhi⟩ := rootOf_spec hsmall
  have hc : x.half.c = (rootOf (n * 2 ^ 127) : Int) := by rw [← hn]; rfl
  have hs : x.half.s = x.s * 2 ^ 127 / (rootOf (n * 2 ^ 127) : Int) := by rw [← hn]; rfl
  generalize rootOf (n * 2 ^ 127) = r at hlo hhi hc hs
  have hlo' : (r : ℝ) * r ≤ (2 ^ 128 + x.c) * 2 ^ 127 := by rw [← hnc]; exact_mod_cast hlo
  have hhi' : (2 ^ 128 + x.c) * 2 ^ 127 < ((r : ℝ) + 1) * (r + 1) := by rw [← hnc]; exact_mod_cast hhi
  have hu := ulp_pos
  have hunit := two_pow_mul_ulp
  have hsq : (2 ^ 128 + (x.c : ℝ)) * 2 ^ 127 * (ulp * ulp) = (1 + x.c * ulp) / 2 := by
    linear_combination ((1 + x.c * ulp) / 2 + 2 ^ 127 * ulp) * hunit
  rw [hc, Int.cast_natCast]
  refine ⟨by positivity, ?_, ?_, fun hpos => ?_⟩
  · rw [← hsq]
    nlinarith [mul_le_mul_of_nonneg_right hlo' (mul_pos hu hu).le]
  · rw [← hsq]
    nlinarith [mul_lt_mul_of_pos_right hhi' (mul_pos hu hu)]
  · have hr : (0 : Int) < r := by
      have : (0 : ℝ) < r := pos_of_mul_pos_left hpos hu.le
      exact_mod_cast this
    have hq1 := Int.ediv_mul_le (x.s * 2 ^ 127) hr.ne'
    have hq2 := Int.lt_ediv_add_one_mul_self (x.s * 2 ^ 127) hr
    rw [← hs] at hq1 hq2
    have hq1' : (x.half.s : ℝ) * r ≤ x.s * 2 ^ 127 := by exact_mod_cast hq1
    have hq2' : (x.s : ℝ) * 2 ^ 127 < (x.half.s + 1) * r := by exact_mod_cast hq2
    have hscale : (x.s : ℝ) * ulp = x.s * 2 ^ 127 * (2 * (ulp * ulp)) := by linear_combination (-x.s * ulp) * hunit
    have hpos2 : 0 < 2 * (ulp * ulp) := by positivity
    constructor
    · nlinarith [mul_le_mul_of_nonneg_right hq1' hpos2.le]
    · nlinarith [mul_lt_mul_of_pos_right hq2' hpos2]

/-- The root and the quotient of a halving against the cosine and sine of half the angle. -/
theorem Phasor.Close.half_bound {x : Phasor} {θ e : ℝ} (h : x.Close θ e) (h0 : 0 ≤ θ) (h1 : θ ≤ Real.pi / 2)
    (he : e ≤ 1 / 10) : |x.half.c * ulp - Real.cos (θ / 2)| ≤ e / 2 + ulp
      ∧ |x.half.c * ulp * (x.half.s * ulp - Real.sin (θ / 2))|
        ≤ e / 2 + Real.sin (θ / 2) * (e / 2 + ulp) + x.half.c * ulp * ulp := by
  obtain ⟨hc, hs⟩ := h
  obtain ⟨hcos, hsin, hC, hS⟩ := half_angle h0 h1
  have hrange := abs_le.mp hc
  have hc0 : 0 ≤ Real.cos θ := Real.cos_nonneg_of_mem_Icc ⟨by linarith [Real.pi_pos], h1⟩
  have hc1 := Real.cos_le_one θ
  have hunit := two_pow_mul_ulp
  have hu := ulp_pos
  have hu38 := ulp_le
  have hlo : (-2 ^ 127 : ℝ) ≤ x.c := by nlinarith
  have hhi : (x.c : ℝ) ≤ 2 ^ 129 := by nlinarith
  obtain ⟨hk, hklo, hkhi, hquot⟩ := Phasor.half_spec (x := x) (by exact_mod_cast hlo) (by exact_mod_cast hhi)
  have hroot := root_close hklo hkhi hcos hc hC hk hu.le he
  have hk1 := abs_le.mp hroot
  obtain ⟨hq1, hq2⟩ := hquot (by linarith)
  exact ⟨hroot, quotient_close hq1 hq2 hsin hs hroot hS hk hu.le⟩

/-- A quarter turn is halved within three units. -/
theorem Phasor.eighth_close : Phasor.eighth.Close (Real.pi / 4) (3 * ulp) := by
  have hquarter : Phasor.Close ⟨0, 2 ^ 128⟩ (Real.pi / 2) 0 := by
    constructor
    · simp
    · rw [Real.sin_pi_div_two, cast_two_pow_mul_ulp, sub_self, abs_zero]
  have hangle : Real.pi / 2 / 2 = Real.pi / 4 := by ring
  obtain ⟨hc, hs⟩ := hquarter.half_bound (by positivity) le_rfl (by norm_num)
  obtain ⟨-, -, hC, -⟩ := half_angle (θ := Real.pi / 2) (by positivity) le_rfl
  have heighth : Phasor.half ⟨0, 2 ^ 128⟩ = Phasor.eighth := rfl
  rw [hangle, heighth] at hc hs
  rw [hangle] at hC
  have hu := ulp_pos
  have hu38 := ulp_le
  have hc1 := abs_le.mp hc
  have hS := Real.sin_le_one (Real.pi / 4)
  refine ⟨hc.trans (by linarith), ?_⟩
  have hk : 3 / 5 ≤ (Phasor.eighth.c : ℝ) * ulp := by linarith
  rw [abs_mul, abs_of_nonneg (by linarith)] at hs
  by_contra hcon
  nlinarith

/-- Within an eighth of a turn a halving keeps eight units. -/
theorem Phasor.Close.half {x : Phasor} {θ : ℝ} (h : x.Close θ (8 * ulp)) (h0 : 0 ≤ θ) (h1 : θ ≤ Real.pi / 4) :
    x.half.Close (θ / 2) (8 * ulp) := by
  have hu := ulp_pos
  have hu38 := ulp_le
  have hpi := Real.pi_lt_d2
  obtain ⟨hc, hs⟩ := h.half_bound h0 (by linarith [Real.pi_pos]) (by linarith)
  have hS : Real.sin (θ / 2) ≤ 2 / 5 := (Real.sin_le (by linarith)).trans (by linarith)
  have hS0 : 0 ≤ Real.sin (θ / 2) := Real.sin_nonneg_of_nonneg_of_le_pi (by linarith) (by linarith)
  have hC : 9 / 10 ≤ Real.cos (θ / 2) := by
    have hC0 := Real.cos_nonneg_of_mem_Icc (x := θ / 2) ⟨by linarith, by linarith⟩
    nlinarith [Real.sin_sq_add_cos_sq (θ / 2)]
  refine ⟨hc.trans (by linarith), ?_⟩
  have hk := abs_le.mp hc
  rw [abs_mul, abs_of_nonneg (by linarith)] at hs
  by_contra hcon
  nlinarith

/-! ### Products of phasors -/

/-- A phasor as a complex number. -/
noncomputable def Phasor.value (z : Phasor) : ℂ := ⟨z.c * ulp, z.s * ulp⟩

/-- A phasor lies within n units of the unit complex number of an angle. -/
def Phasor.Within (z : Phasor) (θ : ℝ) (n : ℕ) : Prop := ‖z.value - Complex.exp (θ * Complex.I)‖ ≤ n * ulp

theorem Phasor.Close.within {z : Phasor} {θ : ℝ} (h : z.Close θ (8 * ulp)) : z.Within θ 16 := by
  obtain ⟨hc, hs⟩ := h
  have hbound := Complex.norm_le_abs_re_add_abs_im (z.value - Complex.exp (θ * Complex.I))
  rw [Complex.sub_re, Complex.sub_im, Complex.exp_ofReal_mul_I_re, Complex.exp_ofReal_mul_I_im] at hbound
  unfold Phasor.Within
  calc _ ≤ _ := hbound
    _ ≤ 8 * ulp + 8 * ulp := add_le_add hc hs
    _ = _ := by push_cast; ring

theorem Phasor.Within.mono {z : Phasor} {θ : ℝ} {n m : ℕ} (h : z.Within θ n) (hnm : n ≤ m) : z.Within θ m := by
  have : (n : ℝ) ≤ m := by exact_mod_cast hnm
  exact h.trans (mul_le_mul_of_nonneg_right this ulp_pos.le)

/-- An integer division by 2^128 rounds by less than a unit. -/
theorem ediv_mul_ulp (a : Int) : |((a / 2 ^ 128 : Int) : ℝ) * ulp - a * (ulp * ulp)| ≤ ulp := by
  have h1 : ((a / 2 ^ 128 : Int) : ℝ) * 2 ^ 128 ≤ a := by
    exact_mod_cast Int.ediv_mul_le a (by norm_num : (2 ^ 128 : Int) ≠ 0)
  have h2 : (a : ℝ) < ((a / 2 ^ 128 : Int) + 1) * 2 ^ 128 := by
    exact_mod_cast Int.lt_ediv_add_one_mul_self a (by norm_num : (0 : Int) < 2 ^ 128)
  have hu := ulp_pos
  have hscale : (a : ℝ) * (ulp * ulp) = a / 2 ^ 128 * ulp := by unfold ulp; ring
  have h3 : ((a / 2 ^ 128 : Int) : ℝ) ≤ a / 2 ^ 128 := (le_div_iff₀ (by positivity)).mpr h1
  have h4 : (a : ℝ) / 2 ^ 128 < (a / 2 ^ 128 : Int) + 1 := (div_lt_iff₀ (by positivity)).mpr h2
  rw [hscale, ← sub_mul, abs_mul, abs_of_pos hu]
  exact mul_le_of_le_one_left hu.le (abs_le.mpr ⟨by linarith, by linarith⟩)

/-- A computed product lies within two units of the product. -/
theorem Phasor.value_mul (x y : Phasor) : ‖(x.mul y).value - x.value * y.value‖ ≤ 2 * ulp := by
  have hre := ediv_mul_ulp (x.c * y.c - x.s * y.s)
  have him := ediv_mul_ulp (x.c * y.s + x.s * y.c)
  simp only [Int.cast_sub, Int.cast_add, Int.cast_mul] at hre him
  have hbound := Complex.norm_le_abs_re_add_abs_im ((x.mul y).value - x.value * y.value)
  rw [Complex.sub_re, Complex.sub_im, Complex.mul_re, Complex.mul_im] at hbound
  calc _ ≤ _ := hbound
    _ ≤ ulp + ulp := by
      refine add_le_add (le_of_eq_of_le (congrArg _ ?_) hre) (le_of_eq_of_le (congrArg _ ?_) him)
      · simp only [Phasor.value, Phasor.mul]
        ring
      · simp only [Phasor.value, Phasor.mul]
        ring
    _ = _ := by ring

/-- A product turns by the sum of the angles. -/
theorem Phasor.Within.mul {x y : Phasor} {θ φ : ℝ} {n m : ℕ} (hx : x.Within θ n) (hy : y.Within φ m)
    (hnm : n * m ≤ 2 ^ 128) : (x.mul y).Within (θ + φ) (n + m + 3) := by
  unfold Phasor.Within at hx hy ⊢
  have hsum : Complex.exp ((θ + φ : ℝ) * Complex.I) = Complex.exp (θ * Complex.I) * Complex.exp (φ * Complex.I) := by
    rw [← Complex.exp_add]
    push_cast
    ring_nf
  have hX := Complex.norm_exp_ofReal_mul_I θ
  have hY := Complex.norm_exp_ofReal_mul_I φ
  rw [hsum]
  generalize Complex.exp (θ * Complex.I) = X at hx hX
  generalize Complex.exp (φ * Complex.I) = Y at hy hY
  have hu := ulp_pos
  have hprod : (n * ulp) * (m * ulp) ≤ ulp := by
    have hnm' : (n : ℝ) * m ≤ 2 ^ 128 := by exact_mod_cast hnm
    nlinarith [two_pow_mul_ulp, mul_le_mul_of_nonneg_right hnm' (mul_pos hu hu).le]
  have hparts : (x.mul y).value - X * Y = ((x.mul y).value - x.value * y.value)
      + (x.value - X) * (y.value - Y) + (x.value - X) * Y + X * (y.value - Y) := by ring
  calc ‖(x.mul y).value - X * Y‖
      ≤ ‖(x.mul y).value - x.value * y.value‖ + ‖(x.value - X) * (y.value - Y)‖ + ‖(x.value - X) * Y‖
        + ‖X * (y.value - Y)‖ := by
        rw [hparts]
        exact (norm_add_le _ _).trans (add_le_add ((norm_add_le _ _).trans (add_le_add (norm_add_le _ _) le_rfl)) le_rfl)
    _ ≤ 2 * ulp + (n * ulp) * (m * ulp) + n * ulp + m * ulp := by
        rw [norm_mul, norm_mul, norm_mul, hX, hY, one_mul, mul_one]
        have hprods := mul_le_mul hx hy (norm_nonneg _) (by positivity)
        linarith [x.value_mul y]
    _ ≤ ((n + m + 3 : ℕ) : ℝ) * ulp := by
        push_cast
        linarith

theorem Phasor.value_one : Phasor.value ⟨2 ^ 128, 0⟩ = 1 := by
  apply Complex.ext
  · exact cast_two_pow_mul_ulp
  · exact (congrArg (· * ulp) Int.cast_zero).trans (zero_mul _)

/-- The phasor of no turn. -/
theorem Phasor.within_zero : Phasor.Within ⟨2 ^ 128, 0⟩ 0 0 := by
  unfold Phasor.Within
  rw [Phasor.value_one]
  simp

/-- The product of the turns of the bits of a: a turn of `top` for each 2^(n − 1). -/
theorem Phasor.ofBits_within {n : Nat} {top : Phasor} {θ : ℝ} {a : Nat} (htop : top.Close θ (8 * ulp)) (h0 : 0 ≤ θ)
    (h1 : θ ≤ Real.pi / 4) (hn : n ≤ 100) :
    (Phasor.ofBits n top a).Within (θ * 2 * (a % 2 ^ n : Nat) / 2 ^ n) (19 * n) := by
  induction n generalizing top θ with
  | zero => simpa [Phasor.ofBits, Nat.mod_one] using Phasor.within_zero
  | succ n ih =>
    have hlow := ih (htop.half h0 h1) (by linarith) (by linarith) (by omega)
    have hbits : a % 2 ^ (n + 1) = a % 2 ^ n + 2 ^ n * (a.testBit n).toNat := by
      rw [Nat.mod_pow_succ, Nat.toNat_testBit]
    unfold Phasor.ofBits
    split
    case isTrue hb =>
      rw [hb, Bool.toNat_true, mul_one] at hbits
      have hangle : θ * 2 * ((a % 2 ^ (n + 1) : Nat) : ℝ) / 2 ^ (n + 1) = θ + θ / 2 * 2 * (a % 2 ^ n : Nat) / 2 ^ n := by
        rw [hbits]
        push_cast
        field_simp
        ring
      rw [hangle]
      exact (htop.within.mul hlow (by omega)).mono (by omega)
    case isFalse hb =>
      rw [Bool.eq_false_of_not_eq_true hb, Bool.toNat_false, mul_zero, add_zero] at hbits
      have hangle : θ * 2 * ((a % 2 ^ (n + 1) : Nat) : ℝ) / 2 ^ (n + 1) = θ / 2 * 2 * (a % 2 ^ n : Nat) / 2 ^ n := by
        rw [hbits]
        field_simp
        ring
      rw [hangle]
      exact hlow.mono (by omega)

/-- A power turns by a multiple of the angle. -/
theorem Phasor.pow_within {n : Nat} {z : Phasor} {θ : ℝ} {w k : Nat} (hz : z.Within θ w) (hk : k < 2 ^ n)
    (hw : 2 ^ n * (w + 3) ≤ 2 ^ 60) : (Phasor.pow n z k).Within (k * θ) ((2 ^ n - 1) * (w + 3)) := by
  induction n generalizing z θ w k with
  | zero =>
    obtain rfl : k = 0 := by omega
    simpa [Phasor.pow] using Phasor.within_zero
  | succ n ih =>
    obtain ⟨m, hm⟩ : ∃ m, 2 ^ n = m + 1 := ⟨2 ^ n - 1, (Nat.sub_add_cancel Nat.one_le_two_pow).symm⟩
    rw [pow_succ, hm] at hw hk
    have hw60 : w ≤ 2 ^ 60 := by nlinarith
    have hsquare := hz.mul hz ((Nat.mul_le_mul hw60 hw60).trans (by norm_num))
    have hhalf := ih (k := k / 2) hsquare (by omega) (by rw [hm]; linarith)
    rw [hm, Nat.add_sub_cancel] at hhalf
    rw [pow_succ, hm, show (m + 1) * 2 - 1 = 2 * m + 1 by omega]
    have hsplit : ((k / 2 : Nat) : ℝ) * 2 + (k % 2 : Nat) = k := by exact_mod_cast Nat.div_add_mod' k 2
    unfold Phasor.pow
    split
    case isTrue hodd =>
      have hangle : k * θ = θ + (k / 2 : Nat) * (θ + θ) := by
        rw [hodd, Nat.cast_one] at hsplit
        linear_combination (-θ) * hsplit
      rw [hangle]
      refine (hz.mul hhalf ?_).mono (le_of_eq (by ring))
      have : m * (w + w + 3 + 3) ≤ 2 ^ 60 := by nlinarith
      exact (Nat.mul_le_mul hw60 this).trans (by norm_num)
    case isFalse heven =>
      have hangle : k * θ = (k / 2 : Nat) * (θ + θ) := by
        rw [Nat.mod_two_ne_one.mp heven, Nat.cast_zero] at hsplit
        linear_combination (-θ) * hsplit
      rw [hangle]
      exact hhalf.mono (by nlinarith)

/-- A phasor of an angle is one of a near angle. -/
theorem Phasor.Within.of_angle {z : Phasor} {θ φ : ℝ} {n m : ℕ} (h : z.Within θ n) (hm : |θ - φ| ≤ m * ulp) :
    z.Within φ (n + m) := by
  have hturn : ‖Complex.exp (θ * Complex.I) - Complex.exp (φ * Complex.I)‖ ≤ |θ - φ| := by
    have hsplit : Complex.exp (θ * Complex.I) - Complex.exp (φ * Complex.I)
        = (Complex.exp (Complex.I * (θ - φ : ℝ)) - 1) * Complex.exp (φ * Complex.I) := by
      rw [sub_mul, ← Complex.exp_add, one_mul]
      congr 2
      push_cast
      ring
    rw [hsplit, norm_mul, Complex.norm_exp_ofReal_mul_I, mul_one]
    exact Real.norm_exp_I_mul_ofReal_sub_one_le
  unfold Phasor.Within at h ⊢
  calc _ ≤ _ := norm_sub_le_norm_sub_add_norm_sub _ (Complex.exp (θ * Complex.I)) _
    _ ≤ n * ulp + m * ulp := add_le_add h (hturn.trans hm)
    _ = _ := by push_cast; ring

/-! ### Unit samples -/

/-- A sample lies within twice the tolerance of the unit complex number of an angle. -/
def AtAngle (x : Sample) (θ : ℝ) : Prop :=
  |(x.i : ℝ) - Real.cos θ| ≤ 2 / 10 ^ 24 ∧ |(x.q : ℝ) - Real.sin θ| ≤ 2 / 10 ^ 24

theorem abs_clampRat_le (x : Rat) : |clampRat (-1) 1 x| ≤ 1 :=
  abs_le.mpr ⟨le_max_left _ _, max_le (by norm_num) (min_le_left _ _)⟩

/-- A component with its rest. -/
theorem component_near {a : Int} {c e : ℝ} (rest : Rat) (h : |a * ulp - c| ≤ e) (he : e ≤ 1 / 10 ^ 24) :
    |(((a : Rat) / 2 ^ 128 + tolerance * clampRat (-1) 1 rest : Rat) : ℝ) - c| ≤ 2 / 10 ^ 24 := by
  have hrest : |((clampRat (-1) 1 rest : Rat) : ℝ)| ≤ 1 := by exact_mod_cast abs_clampRat_le rest
  have hcast : (((a : Rat) / 2 ^ 128 + tolerance * clampRat (-1) 1 rest : Rat) : ℝ)
      = a * ulp + 1 / 10 ^ 24 * (clampRat (-1) 1 rest : Rat) := by
    unfold ulp tolerance
    push_cast
    ring
  rw [hcast]
  obtain ⟨h1, h2⟩ := abs_le.mp h
  obtain ⟨h3, h4⟩ := abs_le.mp hrest
  exact abs_le.mpr ⟨by linarith, by linarith⟩

/-- A phasor with its rest. -/
theorem Phasor.Within.sample {z : Phasor} {θ : ℝ} {n : ℕ} (h : z.Within θ n) (hn : n ≤ 10 ^ 14) (rest : Sample) :
    AtAngle (z.sample rest) θ := by
  have hn' : (n : ℝ) ≤ 10 ^ 14 := by exact_mod_cast hn
  have hsmall : n * ulp ≤ 1 / 10 ^ 24 := by
    calc n * ulp ≤ 10 ^ 14 * (1 / 10 ^ 38) := mul_le_mul hn' ulp_le ulp_pos.le (by positivity)
      _ = _ := by norm_num
  have hre := (Complex.abs_re_le_norm _).trans h
  have him := (Complex.abs_im_le_norm _).trans h
  rw [Complex.sub_re, Complex.exp_ofReal_mul_I_re] at hre
  rw [Complex.sub_im, Complex.exp_ofReal_mul_I_im] at him
  exact ⟨component_near rest.i hre hsmall, component_near rest.q him hsmall⟩

theorem atAngle_zero : AtAngle ⟨1, 0⟩ 0 := by
  constructor <;> norm_num

theorem AtAngle.quarterTurn {x : Sample} {θ : ℝ} (h : AtAngle x θ) : AtAngle ⟨-x.q, x.i⟩ (θ + Real.pi / 2) := by
  obtain ⟨hi, hq⟩ := h
  unfold AtAngle
  rw [Real.cos_add_pi_div_two, Real.sin_add_pi_div_two, Rat.cast_neg, neg_sub_neg, abs_sub_comm]
  exact ⟨hq, hi⟩

/-- Quarter turns add quarter turns to the angle. -/
theorem AtAngle.quarterTurns {x : Sample} {θ : ℝ} (h : AtAngle x θ) {k : Nat} (hk : k < 4) :
    AtAngle (quarterTurns k x) (θ + k * (Real.pi / 2)) := by
  have two : θ + (2 : Nat) * (Real.pi / 2) = θ + Real.pi / 2 + Real.pi / 2 := by push_cast; ring
  have three : θ + (3 : Nat) * (Real.pi / 2) = θ + Real.pi / 2 + Real.pi / 2 + Real.pi / 2 := by push_cast; ring
  match k, hk with
  | 0, _ => simpa [Machine.quarterTurns] using h
  | 1, _ =>
    rw [Nat.cast_one, one_mul]
    exact h.quarterTurn
  | 2, _ =>
    rw [two]
    exact h.quarterTurn.quarterTurn
  | 3, _ =>
    have h3 := h.quarterTurn.quarterTurn.quarterTurn
    rw [neg_neg] at h3
    rw [three]
    exact h3

/-- The unit complex number of an accumulator has its angle (log entry 7). -/
theorem unitComplex_atAngle (acc : Word) : AtAngle (unitComplex acc) (2 * Real.pi * acc.toNat / 2 ^ 32) := by
  have hlow : AtAngle (quarterUnit (acc.toNat % 2 ^ 30) (Config.angleRest acc))
      (Real.pi / 4 * 2 * (acc.toNat % 2 ^ 30 : Nat) / 2 ^ 30) := by
    unfold quarterUnit
    split
    case isTrue h =>
      rw [h]
      simpa using atAngle_zero
    case isFalse h =>
      have heighth : Phasor.eighth.Close (Real.pi / 4) (8 * ulp) :=
        Phasor.eighth_close.mono (by linarith [ulp_pos])
      have hbits := Phasor.ofBits_within (n := 30) (a := acc.toNat % 2 ^ 30) heighth (by positivity) le_rfl (by norm_num)
      rw [Nat.mod_mod] at hbits
      exact hbits.sample (by norm_num) _
  have hquarters : acc.toNat / 2 ^ 30 < 4 := by omega
  have hsplit : (acc.toNat : ℝ) = 2 ^ 30 * (acc.toNat / 2 ^ 30 : Nat) + (acc.toNat % 2 ^ 30 : Nat) := by
    exact_mod_cast (Nat.div_add_mod acc.toNat (2 ^ 30)).symm
  have hangle : 2 * Real.pi * acc.toNat / 2 ^ 32 = Real.pi / 4 * 2 * (acc.toNat % 2 ^ 30 : Nat) / 2 ^ 30
      + (acc.toNat / 2 ^ 30 : Nat) * (Real.pi / 2) := by
    rw [hsplit]
    ring
  rw [hangle]
  exact hlow.quarterTurns hquarters

/-- A whole number of turns changes no angle. -/
theorem AtAngle.add_turns {x : Sample} {θ : ℝ} (h : AtAngle x θ) (n : Nat) : AtAngle x (θ + n * (2 * Real.pi)) := by
  unfold AtAngle
  rwa [Real.cos_add_nat_mul_two_pi, Real.sin_add_nat_mul_two_pi]

/-- The filter's smallest turn is a 16,000th; the bits of its fraction that are left out weigh little. -/
theorem Phasor.step_within : Phasor.step.Within (Real.pi / 8000) (1900 + 2 ^ 29) := by
  have heighth : Phasor.eighth.Close (Real.pi / 4) (8 * ulp) := Phasor.eighth_close.mono (by linarith [ulp_pos])
  have hbits := Phasor.ofBits_within (n := 100) (a := 2 ^ 100 / 4000) heighth (by positivity) le_rfl le_rfl
  rw [Nat.mod_eq_of_lt (Nat.div_lt_self (by norm_num) (by norm_num))] at hbits
  refine hbits.of_angle ?_
  have hlo : ((2 ^ 100 / 4000 : Nat) : ℝ) * 4000 ≤ 2 ^ 100 := by norm_num
  have hhi : (2 ^ 100 : ℝ) < ((2 ^ 100 / 4000 : Nat) + 1) * 4000 := by norm_num
  generalize ((2 ^ 100 / 4000 : Nat) : ℝ) = f at hlo hhi
  have hpi0 := Real.pi_pos
  have hpi4 := Real.pi_le_four
  have hunit : ((2 ^ 29 : Nat) : ℝ) * ulp = 2 / 2 ^ 100 := by
    unfold ulp
    norm_num
  have hfactor : Real.pi / 4 * 2 * f / 2 ^ 100 - Real.pi / 8000 = Real.pi * ((f - 2 ^ 100 / 4000) / 2 ^ 101) := by
    ring
  rw [hunit, hfactor, abs_mul, abs_of_pos hpi0]
  have hf : |(f - 2 ^ 100 / 4000) / 2 ^ 101| ≤ 1 / 2 ^ 101 := by
    rw [abs_div, abs_of_pos (by positivity : (0 : ℝ) < 2 ^ 101)]
    exact div_le_div_of_nonneg_right (abs_le.mpr ⟨by linarith, by linarith⟩) (by positivity)
  calc Real.pi * _ ≤ 4 * (1 / 2 ^ 101) := mul_le_mul hpi4 hf (abs_nonneg _) (by norm_num)
    _ = 2 / 2 ^ 100 := by norm_num

/-- The filter's unit complex numbers have their angles (log entry 7). -/
theorem turnUnit_atAngle (k : Nat) : AtAngle (turnUnit k) (2 * Real.pi * k / 16000) := by
  have hlow : AtAngle (if k % 4000 = 0 then ⟨1, 0⟩
      else (Phasor.pow 12 Phasor.step (k % 4000)).sample (Config.turnRest (k % 4000)))
      ((k % 4000 : Nat) * (Real.pi / 8000)) := by
    split
    case isTrue h =>
      rw [h]
      simpa using atAngle_zero
    case isFalse h =>
      have hpow := Phasor.pow_within (n := 12) (k := k % 4000) Phasor.step_within (by omega) (by norm_num)
      exact hpow.sample (by norm_num) _
  have hsplit : (k : ℝ) = 16000 * (k / 16000 : Nat) + 4000 * (k % 16000 / 4000 : Nat) + (k % 4000 : Nat) := by
    have : k = 16000 * (k / 16000) + 4000 * (k % 16000 / 4000) + k % 4000 := by omega
    exact_mod_cast this
  have hangle : 2 * Real.pi * k / 16000 = (k % 4000 : Nat) * (Real.pi / 8000)
      + (k % 16000 / 4000 : Nat) * (Real.pi / 2) + (k / 16000 : Nat) * (2 * Real.pi) := by
    rw [hsplit]
    ring
  rw [hangle]
  exact (hlow.quarterTurns (by omega)).add_turns _

/-- A product of two approximations. -/
theorem mul_near {a A b B : ℝ} (ha : |a - A| ≤ 2 / 10 ^ 24) (hb : |b - B| ≤ 2 / 10 ^ 24) (hA : |A| ≤ 1) (hB : |B| ≤ 1) :
    |a * b - A * B| ≤ 1 / 10 ^ 22 := by
  have hsplit : a * b - A * B = (a - A) * (b - B) + (a - A) * B + A * (b - B) := by ring
  have h1 := mul_le_mul ha hb (abs_nonneg _) (by norm_num)
  have h2 := mul_le_mul ha hB (abs_nonneg _) (by norm_num)
  have h3 := mul_le_mul hA hb (abs_nonneg _) (by norm_num)
  rw [← abs_mul] at h1 h2 h3
  rw [hsplit]
  linarith [abs_add_three ((a - A) * (b - B)) ((a - A) * B) (A * (b - B))]

/-- A unit sample has power 1 to within 10^-20. -/
theorem AtAngle.power {x : Sample} {θ : ℝ} (h : AtAngle x θ) : |x.i ^ 2 + x.q ^ 2 - 1| ≤ 1 / 10 ^ 20 := by
  obtain ⟨hi, hq⟩ := h
  have hii := abs_le.mp (mul_near hi hi (Real.abs_cos_le_one θ) (Real.abs_cos_le_one θ))
  have hqq := abs_le.mp (mul_near hq hq (Real.abs_sin_le_one θ) (Real.abs_sin_le_one θ))
  have hone := Real.sin_sq_add_cos_sq θ
  rw [← Rat.cast_le (K := ℝ)]
  push_cast
  exact abs_le.mpr ⟨by linarith [hii.1, hqq.1], by linarith [hii.2, hqq.2]⟩

/-- A product of unit samples is near the unit sample of the sum of their angles. -/
theorem AtAngle.near_mul {x y z : Sample} {θ φ : ℝ} (hx : AtAngle x θ) (hy : AtAngle y φ) (hz : AtAngle z (θ + φ)) :
    |z.i - (complexMul x y).i| ≤ 1 / 10 ^ 20 ∧ |z.q - (complexMul x y).q| ≤ 1 / 10 ^ 20 := by
  obtain ⟨hxi, hxq⟩ := hx
  obtain ⟨hyi, hyq⟩ := hy
  obtain ⟨hzi, hzq⟩ := hz
  rw [Real.cos_add] at hzi
  rw [Real.sin_add] at hzq
  have hii := abs_le.mp (mul_near hxi hyi (Real.abs_cos_le_one θ) (Real.abs_cos_le_one φ))
  have hqq := abs_le.mp (mul_near hxq hyq (Real.abs_sin_le_one θ) (Real.abs_sin_le_one φ))
  have hiq := abs_le.mp (mul_near hxi hyq (Real.abs_cos_le_one θ) (Real.abs_sin_le_one φ))
  have hqi := abs_le.mp (mul_near hxq hyi (Real.abs_sin_le_one θ) (Real.abs_cos_le_one φ))
  have hi := abs_le.mp hzi
  have hq := abs_le.mp hzq
  unfold complexMul
  rw [← Rat.cast_le (K := ℝ), ← Rat.cast_le (K := ℝ)]
  push_cast
  exact ⟨abs_le.mpr ⟨by linarith [hi.1, hii.2, hqq.1], by linarith [hi.2, hii.1, hqq.2]⟩,
    abs_le.mpr ⟨by linarith [hq.1, hiq.2, hqi.2], by linarith [hq.2, hiq.1, hqi.1]⟩⟩

/-- The sine of a small positive angle: its unit sample is a small turn. -/
theorem AtAngle.small_turn {x : Sample} {θ : ℝ} {b : Rat} (h : AtAngle x θ) (h0 : 1 / 10 ^ 20 ≤ θ) (h1 : θ ≤ 1)
    (hb : θ + 2 / 10 ^ 24 < b) : 0 < x.q ∧ x.q < b := by
  have hpi := Real.pi_gt_three
  have hpi4 := Real.pi_le_four
  have hq := abs_le.mp h.2
  have hlo : 2 / Real.pi * θ ≤ Real.sin θ := Real.mul_le_sin (by linarith) (by linarith)
  have hhalf : 1 / 2 ≤ 2 / Real.pi := by
    rw [le_div_iff₀ Real.pi_pos]
    linarith
  have hslope : 1 / 2 * θ ≤ 2 / Real.pi * θ := mul_le_mul_of_nonneg_right hhalf (by linarith)
  have hhi : Real.sin θ ≤ θ := Real.sin_le (by linarith)
  have hreal : (0 : ℝ) < x.q ∧ (x.q : ℝ) < b := ⟨by linarith [hq.1], by linarith [hq.2]⟩
  exact_mod_cast hreal

end Sys2Proof.Machine

namespace Sys2Proof.Machine

/-! ### Plan Memory over one sample period (R112, R116, R125; log entry 17) -/

/-- A read's item ends at its limit of 5 ms for each item read, or by a free choice. -/
theorem State.itemEnds_iff (s : State) {op : EngineOp} {item : ReadItem} (h : op.readItem = some item) :
    s.itemEnds op = true ↔ 5 * item.count * 160000 ≤ s.memory.opElapsed + 1 ∨ Config.itemEnds s.sampleClock = true := by
  have hlimit : op.limitMs = 5 * item.count := by
    cases op <;> simp_all [EngineOp.readItem, EngineOp.limitMs]
  unfold State.itemEnds samplesOfMs
  rw [hlimit, Bool.or_eq_true, decide_eq_true_iff]
  rfl

/-- Nothing but time passes when no item ends that another follows. -/
theorem State.memoryPeriod_stays {s : State} (h : ∀ item, s.memory.op.bind EngineOp.readItem = some item →
      s.memory.nextItem (s.readsIntact 0) item = none
      ∨ ¬ (5 * item.count * 160000 ≤ s.memory.opElapsed + 1 ∨ Config.itemEnds s.sampleClock = true)) :
    s.memoryPeriod = { s.memory with opElapsed := s.memory.opElapsed + 1 } := by
  rcases s.memoryPeriod_cases with hstays | ⟨op, next, hop, hnext, hends, -⟩
  · exact hstays
  · obtain ⟨item, hitem, hnext⟩ := Option.bind_eq_some_iff.mp hnext
    rcases h item (by rw [hop]; exact hitem) with hnone | hnot
    · rw [hnone] at hnext
      cases hnext
    · exact absurd ((s.itemEnds_iff hitem).mp hends) hnot

/-- A read goes on to the item that follows one that ends. -/
theorem State.memoryPeriod_next {s : State} {item next : ReadItem} (h : s.memory.op.bind EngineOp.readItem = some item)
    (hnext : s.memory.nextItem (s.readsIntact 0) item = some next)
    (hends : 5 * item.count * 160000 ≤ s.memory.opElapsed + 1 ∨ Config.itemEnds s.sampleClock = true) :
    ∃ op, s.memory.op = some op ∧ s.memoryPeriod
      = { s.memory.readOn (s.readsIntact 0) op next with opElapsed := s.memory.opElapsed + 1 } := by
  obtain ⟨op, hop, hitem⟩ := Option.bind_eq_some_iff.mp h
  refine ⟨op, hop, ?_⟩
  unfold State.memoryPeriod
  simp only [hop, hitem, Option.bind_some, hnext, (s.itemEnds_iff hitem).mpr hends, if_true]

/-- The read goes on without marking a page, unless it has read the primary before the fallback. -/
theorem Memory.readOn_of_ne (m : Memory) (intact : Bool) (op : EngineOp) {next : ReadItem} (h : next ≠ .fallback true) :
    m.readOn intact op next = { m with op := some (op.atItem next) } := by
  rcases next with _ | _ | _ | _
  · rfl
  · rfl
  · rfl
  · exact absurd rfl h

/-- A primary whose check does not match is CORRUPT before the fallback is read. -/
theorem Memory.readOn_fallback {m : Memory} {pr : PageIx} {fb : Option PageIx} (hb : readBoot m.boot = some (pr, fb))
    (intact : Bool) (op : EngineOp) :
    m.readOn intact op (.fallback true) = { m with
      op := some (op.atItem (.fallback true))
      pages := if (m.pages[pr].try intact).result = .corrupt then m.pages.set pr { m.pages[pr] with state := .corrupt }
        else m.pages } := by
  simp only [Memory.readOn, hb, Memory.markCorrupt]
  split <;> rfl

section NextItem

variable {m : Memory} {intact : Bool} {pr : PageIx} {fb : Option PageIx}

theorem Memory.fallbackItem_readable (b : Bool) (h : ∃ f, fb = some f ∧ m.pages[f].state = .valid) :
    m.fallbackItem fb b = some (.fallback b) := by
  obtain ⟨f, rfl, hf⟩ := h
  simp only [Memory.fallbackItem, hf, if_true]

theorem Memory.fallbackItem_unreadable (b : Bool) (h : ¬ ∃ f, fb = some f ∧ m.pages[f].state = .valid) :
    m.fallbackItem fb b = none := by
  unfold Memory.fallbackItem
  split
  · rfl
  · exact if_neg fun hf => h ⟨_, rfl, hf⟩

variable (hb : readBoot m.boot = some (pr, fb))
include hb

theorem Memory.nextItem_record : m.nextItem intact .record
    = if m.pages[pr].state = .valid then some .primary else m.fallbackItem fb false := by
  simp only [Memory.nextItem, hb]

theorem Memory.nextItem_primary : m.nextItem intact .primary
    = if (m.pages[pr].try intact).record.isSome then none else m.fallbackItem fb true := by
  simp only [Memory.nextItem, hb]

end NextItem

/-- Plan Memory runs on as R112, R116 and R125 say. -/
theorem State.memoryPeriod_runsOn (s : State) : s.MemoryRunsOn s.memoryPeriod := by
  refine ⟨fun hnone => ?_, fun hnone => ?_, fun b hitem => ?_, fun pr fb hb => ⟨fun hitem => ⟨fun hends => ?_,
    fun hends hvalid => ?_, fun hends hvalid => ⟨fun hread => ?_, fun hread => ?_⟩⟩, fun hitem => ⟨fun hends => ?_,
    fun result report record htried => ⟨fun hlast => ?_, fun hends hrecord hread => ?_⟩⟩⟩⟩
  · exact State.memoryPeriod_stays fun item h => by rw [hnone] at h; cases h
  · exact State.memoryPeriod_stays fun item _ => .inl (by simp only [Memory.nextItem, hnone])
  · refine State.memoryPeriod_stays fun item h => .inl ?_
    obtain rfl := Option.some.inj (hitem.symm.trans h)
    unfold Memory.nextItem
    split <;> rfl
  · refine State.memoryPeriod_stays fun item h => .inr ?_
    obtain rfl := Option.some.inj (hitem.symm.trans h)
    exact hends
  · obtain ⟨op, hop, hm⟩ := State.memoryPeriod_next hitem ((Memory.nextItem_record hb).trans (if_pos hvalid)) hends
    rw [hm, Memory.readOn_of_ne _ _ _ (by simp), hop]
    rfl
  · obtain ⟨op, hop, hm⟩ := State.memoryPeriod_next hitem ((Memory.nextItem_record hb).trans
      ((if_neg hvalid).trans (Memory.fallbackItem_readable false hread))) hends
    rw [hm, Memory.readOn_of_ne _ _ _ (by simp), hop]
    rfl
  · refine State.memoryPeriod_stays fun item h => .inl ?_
    obtain rfl := Option.some.inj (hitem.symm.trans h)
    rw [Memory.nextItem_record hb, if_neg hvalid, Memory.fallbackItem_unreadable false hread]
  · refine State.memoryPeriod_stays fun item h => .inr ?_
    obtain rfl := Option.some.inj (hitem.symm.trans h)
    exact hends
  · obtain ⟨-, -, rfl⟩ := htried.eq_try
    refine State.memoryPeriod_stays fun item h => .inl ?_
    obtain rfl := Option.some.inj (hitem.symm.trans h)
    rw [Memory.nextItem_primary hb]
    rcases hlast with hsome | hread
    · exact if_pos (Option.isSome_iff_ne_none.mpr hsome)
    · rw [Memory.fallbackItem_unreadable true hread, ite_self]
  · obtain ⟨rfl, -, rfl⟩ := htried.eq_try
    have hnone : ¬ (s.memory.pages[pr].try (s.readsIntact 0)).record.isSome = true := by
      rw [State.readsIntact, hrecord]
      simp
    obtain ⟨op, hop, hm⟩ := State.memoryPeriod_next hitem ((Memory.nextItem_primary hb).trans
      ((if_neg hnone).trans (Memory.fallbackItem_readable true hread))) hends
    rw [hm, Memory.readOn_fallback hb, hop]
    rfl

/-! ### The gain factor (R14; log entry 7) -/

/-- The fortieth power that the search for a root compares stays below one that it has passed. -/
theorem powerTest_antitone (n a b : Nat) (hab : a ≤ b) (hb : decide (b ^ 40 ≤ n) = true) : decide (a ^ 40 ≤ n) = true :=
  decide_eq_true ((Nat.pow_le_pow_left hab 40).trans (of_decide_eq_true hb))

theorem pow_pow_le_pow {b m n k : Nat} (hb : 0 < b) (h : m * n ≤ k) : (b ^ m) ^ n ≤ b ^ k := by
  rw [← pow_mul]
  exact Nat.pow_le_pow_right hb h

/-- The 25 decimal places of a fortieth of a decade that the search finds. -/
theorem greatest_fortieth {r a : Nat} (hr : r < 40) (ha : greatest (fun a => a ^ 40 ≤ 10 ^ (960 + r)) 84 0 = a) :
    10 ^ 24 ≤ a ∧ a ^ 40 ≤ 10 ^ (960 + r) ∧ 10 ^ (960 + r) < (a + 1) ^ 40 := by
  have hfails (y : Nat) (hy : a < y) (hlt : y < 2 ^ 84) : ¬ y ^ 40 ≤ 10 ^ (960 + r) :=
    of_decide_eq_false (greatest_fails (fun a => a ^ 40 ≤ 10 ^ (960 + r)) (powerTest_antitone _) 84 0 y
      (by rw [ha]; exact hy) (by rw [Nat.zero_add]; exact hlt))
  refine ⟨Nat.le_of_not_lt fun hlt => hfails (10 ^ 24) hlt (by norm_num) ?_, ?_, Nat.lt_of_not_le fun hle => ?_⟩
  · exact pow_pow_le_pow (by norm_num) (by omega)
  · have h := greatest_holds (fun a => a ^ 40 ≤ 10 ^ (960 + r)) 84 0
      (decide_eq_true (le_of_eq_of_le (zero_pow (by norm_num)) (Nat.zero_le _)))
    rw [ha] at h
    exact of_decide_eq_true h
  · rcases Nat.lt_or_ge (a + 1) (2 ^ 84) with hlt | hge
    · exact hfails (a + 1) (Nat.lt_succ_self a) hlt hle
    · have h25 : 10 ^ 25 ≤ a + 1 := (by norm_num : 10 ^ 25 ≤ 2 ^ 84).trans hge
      have hpow : 10 ^ (25 * 40) ≤ 10 ^ (960 + r) := by
        rw [pow_mul]
        exact (Nat.pow_le_pow_left h25 40).trans hle
      have := (Nat.pow_le_pow_iff_right (by norm_num)).mp hpow
      omega

/-- The tolerance is one in the 24th decimal place. -/
theorem tolerance_pow : tolerance ^ 40 * 10 ^ 960 = 1 := by
  have h : tolerance * 10 ^ 24 = 1 := by unfold tolerance; norm_num
  rw [show (10 : Rat) ^ 960 = (10 ^ 24) ^ 40 from pow_mul 10 24 40, ← mul_pow, h, one_pow]

theorem tolerance_pos : 0 < tolerance := by unfold tolerance; positivity

/-- The factor of r fortieths of a decade, with its tolerance to both sides. -/
theorem fortiethRoot_bounds {r : Nat} (hr : r < 40) : 1 ≤ fortiethRoot r
    ∧ (fortiethRoot r - tolerance) ^ 40 ≤ 10 ^ r ∧ 10 ^ r ≤ (fortiethRoot r + tolerance) ^ 40 := by
  have htol := tolerance_pos
  have htol1 : tolerance * 10 ^ 24 = 1 := by unfold tolerance; norm_num
  unfold fortiethRoot
  split
  case isTrue h =>
    subst h
    have : tolerance ≤ 1 := by unfold tolerance; norm_num
    refine ⟨le_rfl, ?_, ?_⟩
    · rw [pow_zero]
      exact pow_le_one₀ (by linarith) (by linarith)
    · rw [pow_zero]
      exact one_le_pow₀ (by linarith)
  case isFalse h =>
    obtain ⟨a, ha⟩ : ∃ a, greatest (fun a => a ^ 40 ≤ 10 ^ (960 + r)) 84 0 = a := ⟨_, rfl⟩
    obtain ⟨h24, hlo, hhi⟩ := greatest_fortieth hr ha
    rw [ha]
    have hrest0 : 0 ≤ clampRat 0 1 (Config.gainRest r) := le_max_left _ _
    have hrest1 : clampRat 0 1 (Config.gainRest r) ≤ 1 := max_le (by norm_num) (min_le_left _ _)
    generalize clampRat 0 1 (Config.gainRest r) = y at hrest0 hrest1
    have h24' : (10 : Rat) ^ 24 ≤ a := by exact_mod_cast h24
    have hlo' : (a : Rat) ^ 40 ≤ 10 ^ (960 + r) := by exact_mod_cast hlo
    have hhi' : (10 : Rat) ^ (960 + r) ≤ (a + 1) ^ 40 := by exact_mod_cast hhi.le
    have htol40 : 0 ≤ tolerance ^ 40 := by positivity
    have hpow : (10 : Rat) ^ r = tolerance ^ 40 * 10 ^ (960 + r) := by
      rw [pow_add, ← mul_assoc, tolerance_pow, one_mul]
    have hty0 : 0 ≤ tolerance * y := mul_nonneg htol.le hrest0
    have hty1 : tolerance * y ≤ tolerance := mul_le_of_le_one_right htol.le hrest1
    have hat : 1 ≤ a * tolerance := by
      rw [← htol1, mul_comm]
      exact mul_le_mul_of_nonneg_right h24' htol.le
    refine ⟨by linarith, ?_, ?_⟩
    · calc _ ≤ (tolerance * a) ^ 40 := pow_le_pow_left₀ (by linarith) (by linarith) 40
        _ = tolerance ^ 40 * a ^ 40 := mul_pow _ _ _
        _ ≤ _ := by rw [hpow]; exact mul_le_mul_of_nonneg_left hlo' htol40
    · calc _ ≤ tolerance ^ 40 * (a + 1 : Rat) ^ 40 := by rw [hpow]; exact mul_le_mul_of_nonneg_left hhi' htol40
        _ = (tolerance * (a + 1)) ^ 40 := (mul_pow _ _ _).symm
        _ ≤ _ := pow_le_pow_left₀ (by positivity) (by linarith) 40

theorem powerOfTen_eq_zpow (k : Int) : powerOfTen k = (10 : Rat) ^ k := by
  unfold powerOfTen
  split
  case isTrue h => rw [← zpow_natCast, Int.toNat_of_nonneg h]
  case isFalse h =>
    rw [one_div, ← zpow_natCast, Int.toNat_of_nonneg (by omega), zpow_neg, inv_inv]

/-- The powers of ten that a gain in range needs. -/
theorem powerOfTen_bounds {k : Int} (hlo : -2 ≤ k) (hhi : k ≤ 3) : 1 / 100 ≤ powerOfTen k
    ∧ powerOfTen k * tolerance ≤ 1 / 10 ^ 20 ∧ powerOfTen k ^ 40 * 10 ^ 80 = 10 ^ (40 * (k + 2)).toNat := by
  rw [powerOfTen_eq_zpow]
  have h1 : (10 : Rat) ^ (-2 : Int) ≤ 10 ^ k := zpow_le_zpow_right₀ (by norm_num) hlo
  have h2 : (10 : Rat) ^ k ≤ 10 ^ (3 : Int) := zpow_le_zpow_right₀ (by norm_num) hhi
  refine ⟨le_of_eq_of_le (by norm_num) h1, ?_, ?_⟩
  · calc _ ≤ (10 : Rat) ^ (3 : Int) * tolerance := mul_le_mul_of_nonneg_right h2 tolerance_pos.le
      _ ≤ _ := by unfold tolerance; norm_num
  · rw [← zpow_natCast, ← zpow_mul, ← zpow_natCast, ← zpow_natCast, Int.toNat_of_nonneg (by omega),
      ← zpow_add₀ (by norm_num)]
    congr 1
    push_cast
    ring

/-- The gain factor at the whole decades is exact. -/
theorem gainFactor_decade (k : Int) : gainFactor (40 * k) = 10 ^ k := by
  have hdiv : 40 * k / 40 = k := by omega
  have hmod : 40 * k % 40 = 0 := by omega
  have hroot : fortiethRoot (Int.toNat 0) = 1 := if_pos rfl
  unfold gainFactor
  rw [hdiv, hmod, hroot, mul_one, powerOfTen_eq_zpow]

/-- The gain factor at the ends of its table and at no gain (R14). -/
theorem gainFactor_exact : gainFactor (-80) = 1 / 100 ∧ gainFactor 0 = 1 ∧ gainFactor 120 = 1000 := by
  have hlow : (-80 : Int) = 40 * -2 := by norm_num
  have hhigh : (120 : Int) = 40 * 3 := by norm_num
  refine ⟨?_, (gainFactor_decade 0).trans (zpow_zero _), ?_⟩
  · rw [hlow, gainFactor_decade]
    norm_num
  · rw [hhigh, gainFactor_decade]
    norm_num

/-- The gain factor's fortieth power against the power of ten that it stands for. -/
theorem gainFactor_bounds {g : Int} (hlo : -80 ≤ g) (hhi : g ≤ 120) : 0 < gainFactor g
    ∧ (gainFactor g - 1 / 10 ^ 20) ^ 40 * 10 ^ 80 ≤ 10 ^ (g + 80).toNat
    ∧ 10 ^ (g + 80).toNat ≤ (gainFactor g + 1 / 10 ^ 20) ^ 40 * 10 ^ 80 := by
  obtain ⟨hone, hrlo, hrhi⟩ := fortiethRoot_bounds (r := (g % 40).toNat) (by omega)
  obtain ⟨hP100, htol, hpow⟩ := powerOfTen_bounds (k := g / 40) (by omega) (by omega)
  have hP : 0 < powerOfTen (g / 40) := by linarith
  have htol0 := tolerance_pos
  have hexp : (10 : Rat) ^ (g + 80).toNat = powerOfTen (g / 40) ^ 40 * 10 ^ 80 * 10 ^ (g % 40).toNat := by
    rw [hpow, ← pow_add]
    congr 1
    omega
  unfold gainFactor
  rw [hexp]
  generalize powerOfTen (g / 40) = P at hP htol hP100 hpow hexp
  generalize fortiethRoot (g % 40).toNat = x at hone hrlo hrhi
  have hPx : P ≤ P * x := le_mul_of_one_le_right hP.le hone
  have hlower : (P * x - 1 / 10 ^ 20) ^ 40 ≤ (P * (x - tolerance)) ^ 40 :=
    pow_le_pow_left₀ (by linarith) (by linarith) 40
  have hupper : (P * (x + tolerance)) ^ 40 ≤ (P * x + 1 / 10 ^ 20) ^ 40 :=
    pow_le_pow_left₀ (by positivity) (by linarith) 40
  rw [mul_pow] at hlower hupper
  have hP40 : 0 ≤ P ^ 40 := by positivity
  refine ⟨by positivity, ?_, ?_⟩
  · calc _ ≤ P ^ 40 * (x - tolerance) ^ 40 * 10 ^ 80 := mul_le_mul_of_nonneg_right hlower (by norm_num)
      _ ≤ P ^ 40 * 10 ^ (g % 40).toNat * 10 ^ 80 :=
        mul_le_mul_of_nonneg_right (mul_le_mul_of_nonneg_left hrlo hP40) (by norm_num)
      _ = _ := by ring
  · calc _ = P ^ 40 * 10 ^ (g % 40).toNat * 10 ^ 80 := by ring
      _ ≤ P ^ 40 * (x + tolerance) ^ 40 * 10 ^ 80 :=
        mul_le_mul_of_nonneg_right (mul_le_mul_of_nonneg_left hrhi hP40) (by norm_num)
      _ ≤ _ := mul_le_mul_of_nonneg_right hupper (by norm_num)

/-! ### The unit complex numbers of accumulators (R12, R15; log entry 7) -/

/-- The next word of an accumulator is turned further by the turn of word 1, past a whole turn too. -/
theorem unitComplex_succ (acc : Word) : AtAngle (unitComplex (acc + 1))
    (2 * Real.pi * acc.toNat / 2 ^ 32 + 2 * Real.pi * (1 : Word).toNat / 2 ^ 32) := by
  have hone : (1 : Word).toNat = 1 := rfl
  by_cases hlast : acc.toNat + 1 < 2 ^ 32
  · have h := unitComplex_atAngle (acc + 1)
    have hnat : (acc + 1).toNat = acc.toNat + 1 := by
      rw [BitVec.toNat_add, hone, Nat.mod_eq_of_lt hlast]
    have hangle : 2 * Real.pi * (acc.toNat + 1 : Nat) / 2 ^ 32
        = 2 * Real.pi * acc.toNat / 2 ^ 32 + 2 * Real.pi * (1 : Nat) / 2 ^ 32 := by
      push_cast
      ring
    rwa [hnat, hangle] at h
  · have hmax : acc.toNat + 1 = 2 ^ 32 := by omega
    have h := (unitComplex_atAngle (acc + 1)).add_turns 1
    have hnat : (acc + 1).toNat = 0 := by
      rw [BitVec.toNat_add, hone, hmax, Nat.mod_self]
    have hmax' : (acc.toNat : ℝ) + 1 = 2 ^ 32 := by exact_mod_cast hmax
    have hangle : 2 * Real.pi * (0 : Nat) / 2 ^ 32 + (1 : Nat) * (2 * Real.pi)
        = 2 * Real.pi * acc.toNat / 2 ^ 32 + 2 * Real.pi * (1 : Nat) / 2 ^ 32 := by
      push_cast
      linear_combination (-(2 * Real.pi / 2 ^ 32)) * hmax'
    rwa [hnat, hangle] at h

/-- Word 1 is a small turn. -/
theorem unitComplex_one : 0 < (unitComplex 1).q ∧ (unitComplex 1).q < 2 / 10 ^ 9 := by
  have hpi := Real.pi_gt_three
  have hpi2 := Real.pi_lt_d2
  have hone : ((1 : Word).toNat : ℝ) = 1 := Nat.cast_one
  have hangle := unitComplex_atAngle 1
  rw [hone, mul_one] at hangle
  refine hangle.small_turn ?_ ?_ ?_
  · rw [le_div_iff₀ (by positivity)]
    norm_num
    linarith
  · rw [div_le_one (by positivity)]
    linarith
  · have : 2 * Real.pi / 2 ^ 32 ≤ 6.3 / 2 ^ 32 := div_le_div_of_nonneg_right (by linarith) (by positivity)
    push_cast
    refine (add_le_add_left this _).trans_lt ?_
    norm_num

/-- Rotation by no turn and by the quarter turns is exact. -/
theorem rotate_quarters (x : Sample) : rotate x 0 = x ∧ rotate x 0x40000000 = ⟨-x.q, x.i⟩
    ∧ rotate x 0x80000000 = ⟨-x.i, -x.q⟩ ∧ rotate x 0xC0000000 = ⟨x.q, -x.i⟩ := by
  have h0 : unitComplex 0 = ⟨1, 0⟩ := unitComplex_of_quarter rfl
  have h1 : unitComplex 0x40000000 = ⟨-0, 1⟩ := unitComplex_of_quarter rfl
  have h2 : unitComplex 0x80000000 = ⟨-1, -0⟩ := unitComplex_of_quarter rfl
  have h3 : unitComplex 0xC0000000 = ⟨0, -1⟩ := unitComplex_of_quarter rfl
  unfold rotate complexMul
  rw [h0, h1, h2, h3]
  simp

/-! ### The signal path over one sample period (R12 to R15, R78 to R80) -/

/-- A gain stage gives what R14, R41 and R42 say. -/
theorem Slot.output_outputs (x : Slot) (channel : Sample) : x.Outputs channel (x.output channel) := by
  refine ⟨fun h => ?_, fun h => ?_, fun r h hr hdir => ?_, fun r h hr hdir => ?_⟩
  · simp only [List.mem_cons, List.not_mem_nil, or_false] at h
    rcases h with h | h | h | h <;> simp [Slot.output, Slot.condition, h]
  · simp only [List.mem_cons, List.not_mem_nil, or_false] at h
    rcases h with h | h <;> simp [Slot.output, Slot.condition, h]
  · simp [Slot.output, Slot.condition, h, hr, Ramp.factor, hdir]
  · simp [Slot.output, Slot.condition, h, hr, Ramp.factor, hdir]

/-- The composite's sum is that of the placed gain stages. -/
theorem State.compositeSum_composes (s : State) : s.Composes s.compositeSum :=
  ⟨fun i => s.slots[i].output (s.extractions[i].output s.rx), fun i => s.slots[i].output_outputs _, rfl⟩

/-- The bus carries what R80 says. -/
theorem Combiner.gate_sends (c : Combiner) (x : Sample) : c.Sends x (c.gate x) := by
  refine ⟨fun h => ?_, fun h => ?_, fun r h hr => ?_⟩ <;> simp [Combiner.gate, *]

/-- An extraction over one sample period. -/
theorem Extraction.sample_of_tuned {x : Extraction} (h : x.tuned = true) (rx : Sample) : x.sample rx =
    { x with phase := x.phase + x.word, history := x.filtered rx, settling := x.settling.map fun n => n - 1
             accum := if x.settling.isNone then
               accumJoin x.accum ⟨(channelFilter x.bwClass (x.filtered rx)).power, 1⟩ else x.accum } := by
  rcases x.sample_cases rx with ⟨hidle, -⟩ | ⟨-, hx⟩
  · rw [h] at hidle
    cases hidle
  · exact hx

/-- What a tuned extraction's sample period comes to, field by field. -/
theorem Extraction.sample_moves {x e : Extraction} {rx : Sample} (h : x.tuned = true) (he : e = x.sample rx) :
    e.phase = x.phase + x.word ∧ e.history = (rotate rx (-x.phase) :: x.history).take 16000
    ∧ e.settling = x.settling.map (· - 1) ∧ e.lastLevel = x.lastLevel
    ∧ (x.settling ≠ none → e.accum = x.accum)
    ∧ (x.settling = none → let y := channelFilter x.bwClass e.history
      e.accum = ⟨x.accum.sum + (y.i * y.i + y.q * y.q), x.accum.count + 1⟩) := by
  rw [Extraction.sample_of_tuned h] at he
  subst he
  refine ⟨rfl, rfl, rfl, rfl, fun hsettling => if_neg ?_, fun hsettled => ?_⟩
  · rwa [Option.isNone_iff_eq_none]
  · exact if_pos (Option.isNone_iff_eq_none.mpr hsettled)

theorem Extraction.sample_of_idle {x : Extraction} (h : x.tuned = false) (rx : Sample) : x.sample rx = x :=
  if_neg (by rw [h]; exact Bool.false_ne_true)

theorem Placement.sample_of_tuned {x : Placement} (h : x.tuned = true) :
    x.sample = { x with phase := x.phase + x.word } := if_pos h

theorem Placement.sample_of_idle {x : Placement} (h : x.tuned = false) : x.sample = x :=
  if_neg (by rw [h]; exact Bool.false_ne_true)

/-- The clip record is set by a sum that saturates (R79). -/
theorem Combiner.sample_clip (c : Combiner) (sum : Sample) :
    (c.sample sum).clip = true ↔ c.clip = true ∨ Sample.saturate sum ≠ sum := by
  simp [Combiner.sample]

/-- On an empty queue a step is an idle step. -/
theorem step_of_empty {s : State} (hp : s.pending = []) : step s = .next s.idle := by
  simp only [step, hp]

/-- Settles O2: an idle step is a sample period, each block's part of which is read from its own function; the numbers
are bounded against sine, cosine and the powers of ten. -/
theorem emptyQueueStepAndSamplePeriod : Obligations.EmptyQueueStepAndSamplePeriod := by
  refine ⟨fun s hp => ⟨fun hr => ?_, fun c rest hr hd => ?_, fun hr hd => ?_⟩, fun s hp hr hd => ?_,
    fun x acc => ⟨rotate_zero acc, rotate_quarters x⟩, ?_, gainFactor_exact, fun g => gainFactor_bounds⟩
  · rw [step_of_empty hp, State.idle_of_reset hr]
  · rw [step_of_empty hp, State.idle_of_due hr hd]
  · rw [step_of_empty hp, State.idle_of_none hr hd]
  · rw [step_of_empty hp, State.idle_of_none hr hd]
    refine ⟨_, rfl, fun i => ⟨fun htuned => ?_, fun hidle => ?_, fun htuned => ?_,
      fun hidle => ?_, ?_⟩, rfl, ⟨s.compositeSum, s.compositeSum_composes, rfl, s.combiner.sample_clip _,
      s.combiner.gate_sends _⟩, rfl, rfl, rfl, rfl, rfl, rfl, s.memoryPeriod_runsOn, rfl, rfl, rfl, rfl, rfl, rfl, rfl, hp⟩
    · exact Extraction.sample_moves htuned (PerSlot.getElem_ofFn _ _)
    · exact (PerSlot.getElem_ofFn _ _).trans (Extraction.sample_of_idle hidle _)
    · exact (PerSlot.getElem_ofFn _ _).trans (Placement.sample_of_tuned htuned)
    · exact (PerSlot.getElem_ofFn _ _).trans (Placement.sample_of_idle hidle)
    · exact PerSlot.getElem_ofFn _ _
  · intro near
    refine ⟨unitComplex_of_quarter rfl, unitComplex_one.1, unitComplex_one.2, fun acc => ⟨fun x => rfl,
      (unitComplex_atAngle acc).power, ?_⟩⟩
    exact (unitComplex_atAngle acc).near_mul (unitComplex_atAngle 1) (unitComplex_succ acc)

end Sys2Proof.Machine

namespace Sys2Proof.Machine

/-! ### Samples as complex numbers -/

theorem complexMul_zero (x : Sample) : complexMul x .zero = .zero := by
  simp [complexMul, Sample.zero]

theorem zero_complexMul (x : Sample) : complexMul .zero x = .zero := by
  simp [complexMul, Sample.zero]

theorem scale_zero (k : Rat) : Sample.scale k .zero = .zero := by
  simp [Sample.scale, Sample.zero]

/-- A sum over an index is one of components. -/
theorem foldl_add_range (n : Nat) (f : Nat → Sample) : ((List.range n).map f).foldl Sample.add .zero
    = ⟨∑ k ∈ Finset.range n, (f k).i, ∑ k ∈ Finset.range n, (f k).q⟩ := by
  induction n with
  | zero => rfl
  | succ n ih =>
    rw [List.range_succ, List.map_append, List.foldl_append, ih, Finset.sum_range_succ, Finset.sum_range_succ]
    rfl

/-- A sum of silences is silence. -/
theorem foldl_add_of_zero {l : List Sample} (h : ∀ x ∈ l, x = .zero) : l.foldl Sample.add .zero = .zero := by
  induction l with
  | nil => rfl
  | cons x l ih =>
    have hx : Sample.add .zero x = .zero := by
      rw [h x List.mem_cons_self]
      simp [Sample.add, Sample.zero]
    rw [List.foldl_cons, hx]
    exact ih fun y hy => h y (List.mem_cons_of_mem x hy)

/-- A quarter turn more. -/
theorem quarterTurns_succ (k : Nat) (x : Sample) :
    quarterTurns ((k + 1) % 4) x = ⟨-(quarterTurns (k % 4) x).q, (quarterTurns (k % 4) x).i⟩ := by
  have hk : k % 4 < 4 := Nat.mod_lt _ (by norm_num)
  rw [← Nat.mod_add_mod]
  generalize k % 4 = j at hk
  match j, hk with
  | 0, _ => rfl
  | 1, _ => rfl
  | 2, _ => simp [quarterTurns]
  | 3, _ => simp [quarterTurns]

/-- Quarter turns of one factor are quarter turns of the other. -/
theorem complexMul_quarterTurns (k : Nat) (x y : Sample) :
    complexMul (quarterTurns k x) y = complexMul x (quarterTurns k y) := by
  unfold quarterTurns complexMul
  split
  · rfl
  all_goals
    congr 1 <;> ring

/-! ### The filter's unit complex numbers (R12; log entry 7) -/

theorem turnUnit_mod (k : Nat) : turnUnit (k % 16000) = turnUnit k := by
  unfold turnUnit
  rw [Nat.mod_mod, Nat.mod_mod_of_dvd k (by norm_num : 4000 ∣ 16000)]

/-- A quarter of the turn further they are the same up to a quarter turn. -/
theorem turnUnit_add_quarter (k : Nat) : turnUnit (k + 4000) = ⟨-(turnUnit k).q, (turnUnit k).i⟩ := by
  have hquarter : (k + 4000) % 16000 / 4000 = (k % 16000 / 4000 + 1) % 4 := by omega
  have hsame : k % 16000 / 4000 = k % 16000 / 4000 % 4 := by omega
  unfold turnUnit
  rw [hquarter, Nat.add_mod_right, quarterTurns_succ, ← hsame]

/-- The unit complex number of any whole number of 16,000ths of a turn. -/
def turnAt (n : Int) : Sample := turnUnit (n % 16000).toNat

theorem turnAt_add_quarter (n : Int) : turnAt (n + 4000) = ⟨-(turnAt n).q, (turnAt n).i⟩ := by
  have hmod : ((n + 4000) % 16000).toNat = ((n % 16000).toNat + 4000) % 16000 := by omega
  unfold turnAt
  rw [hmod, turnUnit_mod, turnUnit_add_quarter]

theorem turnAt_add_quarters (n : Int) (b : Nat) : turnAt (n + 4000 * b) = quarterTurns (b % 4) (turnAt n) := by
  induction b with
  | zero => simp [quarterTurns]
  | succ b ih =>
    have hnext : n + 4000 * (b + 1 : Nat) = n + 4000 * b + 4000 := by push_cast; ring
    rw [hnext, turnAt_add_quarter, ih, quarterTurns_succ]

theorem turnAt_add_half (n : Int) : turnAt (n + 8000) = ⟨-(turnAt n).i, -(turnAt n).q⟩ :=
  turnAt_add_quarters n 2

theorem turnAt_add_turns (n k : Int) : turnAt (n + 16000 * k) = turnAt n := by
  unfold turnAt
  rw [Int.add_mul_emod_self_left]

/-! ### Sums of unit complex numbers that cancel -/

/-- A sum over a period does not depend on where it begins. -/
theorem sum_range_shift {f : Nat → Rat} {n : Nat} (hf : ∀ k, f (k + n) = f k) (j : Nat) :
    ∑ k ∈ Finset.range n, f (k + j) = ∑ k ∈ Finset.range n, f k := by
  induction j with
  | zero => rfl
  | succ j ih =>
    have h1 := Finset.sum_range_succ (fun k => f (k + j)) n
    have h2 := Finset.sum_range_succ' (fun k => f (k + j)) n
    have h3 : f (n + j) = f (0 + j) := by rw [Nat.zero_add, Nat.add_comm, hf]
    have h4 : ∑ k ∈ Finset.range n, f (k + (j + 1)) = ∑ k ∈ Finset.range n, f (k + 1 + j) :=
      Finset.sum_congr rfl fun k _ => by rw [Nat.add_right_comm, Nat.add_assoc]
    linarith

/-- A periodic sum whose terms change their sign some way on is 0. -/
theorem sum_range_cancel {f : Nat → Rat} {n j : Nat} (hf : ∀ k, f (k + n) = f k) (hj : ∀ k, f (k + j) = -f k) :
    ∑ k ∈ Finset.range n, f k = 0 := by
  have hshift := sum_range_shift hf j
  have hneg : ∑ k ∈ Finset.range n, f (k + j) = -∑ k ∈ Finset.range n, f k := by
    rw [← Finset.sum_neg_distrib]
    exact Finset.sum_congr rfl fun k _ => hj k
  linarith

/-- Multiples of a frequency that 128 does not divide come to half a turn. -/
theorem exists_half_turn {m : Int} (hm : ¬ 128 ∣ m) : ∃ (j : Nat) (t : Int), m * j = 8000 + 16000 * t := by
  obtain ⟨e, he⟩ : (Int.gcd m 16000 : Int) ∣ 16000 := Int.gcd_dvd_right ..
  have hdm : (Int.gcd m 16000 : Int) ∣ m := Int.gcd_dvd_left ..
  have heven : 2 ∣ e := by
    by_contra hodd
    have hcop : IsCoprime (128 : Int) e := by
      have h2 : IsCoprime (2 : Int) e := (Int.prime_two.coprime_iff_not_dvd).mpr hodd
      exact h2.pow_left (m := 7)
    have h128 : (128 : Int) ∣ Int.gcd m 16000 := hcop.dvd_of_dvd_mul_right (he ▸ by norm_num)
    exact hm (h128.trans hdm)
  obtain ⟨d, rfl⟩ := heven
  have hbezout := Int.gcd_eq_gcd_ab m 16000
  have h8000 : (8000 : Int) = Int.gcd m 16000 * d := by linarith
  obtain ⟨j, hj⟩ : ∃ j : Nat, (j : Int) = (Int.gcdA m 16000 * d) % 16000 :=
    ⟨_, Int.toNat_of_nonneg (Int.emod_nonneg _ (by norm_num))⟩
  refine ⟨j, -(Int.gcdB m 16000 * d) - m * (Int.gcdA m 16000 * d / 16000), ?_⟩
  have hdiv := Int.emod_add_mul_ediv (Int.gcdA m 16000 * d) 16000
  rw [hj, h8000, hbezout]
  linear_combination m * hdiv

/-- The turns of such a frequency cancel. -/
theorem sum_turns {m : Int} (hm : ¬ 128 ∣ m) : ∑ k ∈ Finset.range 16000, (turnAt (m * k)).i = 0
    ∧ ∑ k ∈ Finset.range 16000, (turnAt (m * k)).q = 0 := by
  obtain ⟨j, t, hj⟩ := exists_half_turn hm
  have hperiod (k : Nat) : turnAt (m * (k + 16000 : Nat)) = turnAt (m * k) := by
    rw [← turnAt_add_turns (m * k) m]
    congr 1
    push_cast
    ring
  have hhalf (k : Nat) : turnAt (m * (k + j : Nat)) = ⟨-(turnAt (m * k)).i, -(turnAt (m * k)).q⟩ := by
    rw [← turnAt_add_half, ← turnAt_add_turns (m * k + 8000) t]
    congr 1
    push_cast
    linear_combination hj
  exact ⟨sum_range_cancel (j := j) (fun k => by rw [hperiod]) (fun k => by rw [hhalf]),
    sum_range_cancel (j := j) (fun k => by rw [hperiod]) (fun k => by rw [hhalf])⟩

/-! ### What a filter holds of a frequency (R12; log entry 7) -/

/-- The frequency's part of the samples that an index gives. -/
theorem binOf_range (n : Nat) (g : Nat → Sample) (m : Int) : binOf ((List.range n).map g) m
    = Sample.scale (1 / 16000) ⟨∑ k ∈ Finset.range n, (complexMul (g k) (turnAt (m * k))).i,
      ∑ k ∈ Finset.range n, (complexMul (g k) (turnAt (m * k))).q⟩ := by
  have hmap (f : Nat → Sample → Sample) :
      ((List.range n).map g).mapIdx f = (List.range n).map fun k => f k (g k) :=
    List.ext_getElem (by simp) fun k _ _ => by simp
  rw [← foldl_add_range]
  unfold binOf
  rw [hmap]
  rfl

/-- Its part of samples that a turn of a frequency apart from it makes of one sample is nothing. -/
theorem binOf_of_turning {m n : Int} {x : Sample} {g : Nat → Sample} (hn : ¬ 128 ∣ n)
    (hg : ∀ k, complexMul (g k) (turnAt (m * k)) = complexMul x (turnAt (n * k))) :
    binOf ((List.range 16000).map g) m = .zero := by
  obtain ⟨hi, hq⟩ := sum_turns hn
  have hsumi : ∑ k ∈ Finset.range 16000, (complexMul (g k) (turnAt (m * k))).i = 0 := by
    calc _ = ∑ k ∈ Finset.range 16000, (x.i * (turnAt (n * k)).i - x.q * (turnAt (n * k)).q) :=
          Finset.sum_congr rfl fun k _ => congrArg Sample.i (hg k)
      _ = x.i * ∑ k ∈ Finset.range 16000, (turnAt (n * k)).i - x.q * ∑ k ∈ Finset.range 16000, (turnAt (n * k)).q := by
          rw [Finset.sum_sub_distrib, Finset.mul_sum, Finset.mul_sum]
      _ = 0 := by rw [hi, hq, mul_zero, mul_zero, sub_zero]
  have hsumq : ∑ k ∈ Finset.range 16000, (complexMul (g k) (turnAt (m * k))).q = 0 := by
    calc _ = ∑ k ∈ Finset.range 16000, (x.i * (turnAt (n * k)).q + x.q * (turnAt (n * k)).i) :=
          Finset.sum_congr rfl fun k _ => congrArg Sample.q (hg k)
      _ = x.i * ∑ k ∈ Finset.range 16000, (turnAt (n * k)).q + x.q * ∑ k ∈ Finset.range 16000, (turnAt (n * k)).i := by
          rw [Finset.sum_add_distrib, Finset.mul_sum, Finset.mul_sum]
      _ = 0 := by rw [hi, hq, mul_zero, mul_zero, add_zero]
  rw [binOf_range, hsumi, hsumq]
  exact scale_zero _

/-- A steady sample is all at offset zero. -/
theorem binOf_steady_zero (x : Sample) : binOf ((List.range 16000).map fun _ => x) 0 = x := by
  have hone (k : Nat) : complexMul x (turnAt (0 * k)) = x := by
    have : turnAt (0 * k) = ⟨1, 0⟩ := by
      rw [zero_mul]
      exact turnUnit_of_quarter rfl
    rw [this]
    simp [complexMul]
  rw [binOf_range, Finset.sum_congr rfl fun k _ => congrArg Sample.i (hone k),
    Finset.sum_congr rfl fun k _ => congrArg Sample.q (hone k), Finset.sum_const, Finset.sum_const, Finset.card_range]
  have hmean (a : Rat) : 1 / 16000 * ((16000 : Nat) • a) = a := by
    rw [nsmul_eq_mul, Nat.cast_ofNat, ← mul_assoc, one_div_mul_cancel (by norm_num), one_mul]
  unfold Sample.scale
  rw [hmean, hmean]

/-- A sample more, as the oldest, joins each frequency by its turn to the newest. -/
theorem binOf_append (h : List Sample) (x : Sample) (m : Int) : binOf (h ++ [x]) m = Sample.add (binOf h m)
    (Sample.scale (1 / 16000) (complexMul x (turnUnit ((m * h.length) % 16000).toNat))) := by
  have hscale (k : Rat) (a b : Sample) : Sample.scale k (Sample.add a b) = Sample.add (Sample.scale k a) (Sample.scale k b) := by
    simp [Sample.scale, Sample.add, mul_add]
  unfold binOf
  rw [List.mapIdx_concat, List.foldl_append, ← hscale]
  rfl

theorem binOf_silence (n : Nat) (m : Int) : binOf (List.replicate n .zero) m = .zero := by
  have hterms : ((List.replicate n Sample.zero).mapIdx fun k x => complexMul x (turnUnit ((m * k) % 16000).toNat)).foldl
      Sample.add .zero = .zero := by
    refine foldl_add_of_zero fun y hy => ?_
    obtain ⟨k, hk, rfl⟩ := List.mem_mapIdx.mp hy
    rw [List.getElem_replicate, zero_complexMul]
  unfold binOf
  rw [hterms, scale_zero]

/-! ### The filter's shape (R3, R12) -/

theorem filterBins_eq (c : Fin 4) : filterBins c
    = (List.range (2 * (edgeBin c + 3) + 1)).map fun k : Nat => (k : Int) - (edgeBin c + 3 : Nat) := by
  simp [filterBins, List.map_eq_flatMap, List.flatMap_assoc]

theorem mem_filterBins {c : Fin 4} {m : Int} : m ∈ filterBins c ↔ m.natAbs ≤ edgeBin c + 3 := by
  rw [filterBins_eq, List.mem_map]
  constructor
  · rintro ⟨k, hk, rfl⟩
    rw [List.mem_range] at hk
    omega
  · intro h
    exact ⟨(m + (edgeBin c + 3)).toNat, by rw [List.mem_range]; omega, by omega⟩

theorem natAbs_le_iff (c : Fin 4) (m : Int) : m.natAbs ≤ edgeBin c + 3 ↔ 10 * m.natAbs < widthKhz c / 2 + 40 := by
  unfold edgeBin
  omega

theorem filterShape_of_le {c : Fin 4} {m : Nat} (h : m ≤ edgeBin c) : filterShape c m = 1 := by
  unfold filterShape
  rw [Nat.sub_eq_zero_of_le h]
  rfl

theorem filterShape_of_ge {c : Fin 4} {m : Nat} (h : edgeBin c + 4 ≤ m) : filterShape c m = 0 := by
  obtain ⟨k, hk⟩ : ∃ k, m - edgeBin c = k + 4 := ⟨m - edgeBin c - 4, by omega⟩
  unfold filterShape
  rw [hk]
  rfl

/-- The shape falls. -/
theorem filterShape_succ_le (c : Fin 4) (m : Nat) : filterShape c (m + 1) ≤ filterShape c m := by
  rcases Nat.lt_or_ge m (edgeBin c) with hlt | hge
  · rw [filterShape_of_le hlt, filterShape_of_le hlt.le]
  · obtain ⟨k, rfl⟩ := Nat.exists_eq_add_of_le hge
    have h1 : edgeBin c + k + 1 - edgeBin c = k + 1 := by omega
    have h2 : edgeBin c + k - edgeBin c = k := by omega
    unfold filterShape
    rw [h1, h2]
    match k with
    | 0 => norm_num
    | 1 => norm_num
    | 2 => norm_num
    | 3 => norm_num
    | k + 4 => exact le_rfl

/-- The gain keeps to the shape, with the sign of the delay. -/
theorem filterGain_near (c : Fin 4) (m : Int) :
    |filterGain c m - (-1) ^ m.natAbs * filterShape c m.natAbs| ≤ 1 / 10000 := by
  have hsign : (if m % 2 = 0 then 1 else -1 : Rat) = (-1) ^ m.natAbs := by
    split
    case isTrue h => exact (Even.neg_one_pow (Int.natAbs_even.mpr (Int.even_iff.mpr h))).symm
    case isFalse h => exact (Odd.neg_one_pow (Int.natAbs_odd.mpr (Int.odd_iff.mpr (by omega)))).symm
  unfold filterGain filterRipple
  rw [hsign, ← mul_sub, add_sub_cancel_left, abs_mul, abs_pow, abs_neg, abs_one, one_pow, one_mul, abs_mul]
  exact le_of_le_of_eq (mul_le_mul_of_nonneg_left (abs_clampRat_le _) (abs_nonneg _)) (by norm_num)

/-! ### The filter's output (R12) -/

/-- The output is read from the frequencies that the filter passes. -/
theorem channelFilter_congr {c : Fin 4} {h k : List Sample} (hbins : ∀ m ∈ filterBins c, binOf h m = binOf k m) :
    channelFilter c h = channelFilter c k := by
  unfold channelFilter
  rw [List.map_congr_left fun m hm => by rw [hbins m hm]]

/-- Samples that hold nothing of those frequencies are rejected. -/
theorem channelFilter_of_nothing {c : Fin 4} {h : List Sample} (hbins : ∀ m ∈ filterBins c, binOf h m = .zero) :
    channelFilter c h = .zero := by
  unfold channelFilter
  rw [foldl_add_of_zero, complexMul_zero]
  intro y hy
  obtain ⟨m, hm, rfl⟩ := List.mem_map.mp hy
  rw [hbins m hm, scale_zero]

/-- A sum over those frequencies of which only offset zero counts. -/
theorem foldl_add_filterBins {c : Fin 4} {f : Int → Sample} (hf : ∀ m ∈ filterBins c, m ≠ 0 → f m = .zero) :
    ((filterBins c).map f).foldl Sample.add .zero = f 0 := by
  have hterm (k : Nat) (hk : k ∈ Finset.range (2 * (edgeBin c + 3) + 1)) (hne : k ≠ edgeBin c + 3) :
      (f ∘ fun k : Nat => (k : Int) - (edgeBin c + 3 : Nat)) k = .zero := by
    have hlt := Finset.mem_range.mp hk
    rw [Function.comp_apply]
    exact hf _ (mem_filterBins.mpr (by omega)) (by omega)
  have hcentre : ((edgeBin c + 3 : Nat) : Int) - (edgeBin c + 3 : Nat) = 0 := sub_self _
  have hmem : edgeBin c + 3 ∈ Finset.range (2 * (edgeBin c + 3) + 1) := Finset.mem_range.mpr (by omega)
  rw [filterBins_eq, List.map_map, foldl_add_range,
    Finset.sum_eq_single_of_mem _ hmem fun k hk hne => congrArg Sample.i (hterm k hk hne),
    Finset.sum_eq_single_of_mem _ hmem fun k hk hne => congrArg Sample.q (hterm k hk hne), Function.comp_apply, hcentre]

/-- Samples that hold of them only offset zero pass by the gain there. -/
theorem channelFilter_of_steady {c : Fin 4} {h : List Sample} {x : Sample} (hzero : binOf h 0 = x)
    (hbins : ∀ m ∈ filterBins c, m ≠ 0 → binOf h m = .zero) :
    channelFilter c h = complexMul (unitComplex (Config.filterPhase c)) (Sample.scale (filterGain c 0) x) := by
  unfold channelFilter
  rw [foldl_add_filterBins fun m hm hne => by rw [hbins m hm hne, scale_zero], hzero]

/-- The narrower classes pass frequencies that 128 does not divide, but offset zero. -/
theorem not_dvd_of_mem_filterBins {c : Fin 4} {m : Int} (hc : widthKhz c ≤ 2000) (hm : m ∈ filterBins c) (hne : m ≠ 0) :
    ¬ 128 ∣ m := by
  have hlt := (natAbs_le_iff c m).mp (mem_filterBins.mp hm)
  omega

/-- Samples that turn by quarters lie 40 MHz apart from steady ones. -/
theorem binOf_quarters {j : Nat} {m : Int} (x : Sample) (hm : ¬ 128 ∣ m + 4000 * j) :
    binOf ((List.range 16000).map fun k => quarterTurns (j * k % 4) x) m = .zero := by
  refine binOf_of_turning (x := x) hm fun k => ?_
  have hangle : (m + 4000 * j) * k = m * k + 4000 * (j * k : Nat) := by push_cast; ring
  rw [complexMul_quarterTurns, hangle, turnAt_add_quarters]

/-! ### The samples that the filter holds (R12, R13) -/

theorem take_append_take (l m : List Sample) (n : Nat) : (l ++ m.take n).take n = (l ++ m).take n := by
  rw [List.take_append, List.take_append, List.take_take, Nat.min_eq_left (Nat.sub_le _ _)]

theorem Extraction.sample_tuned {x : Extraction} (h : x.tuned = true) (rx : Sample) : (x.sample rx).tuned = true := by
  rw [Extraction.sample_of_tuned h]
  exact h

theorem Extraction.sample_word {x : Extraction} (h : x.tuned = true) (rx : Sample) : (x.sample rx).word = x.word := by
  rw [Extraction.sample_of_tuned h]

/-- The filter after some samples: each moved by the accumulator that those before it left. -/
theorem Extraction.history_foldl {x : Extraction} {rx : List Sample} (h : x.tuned = true)
    (hlen : x.history.length ≤ 16000) : (rx.foldl Extraction.sample x).history =
      ((rx.mapIdx fun k y => rotate y (-(x.phase + x.word * BitVec.ofNat 32 k))).reverse ++ x.history).take 16000 := by
  induction rx generalizing x with
  | nil => exact (List.take_of_length_le hlen).symm
  | cons r rx ih =>
    obtain ⟨hphase, hhistory, -⟩ := Extraction.sample_moves h (rfl : x.sample r = x.sample r)
    have hlen' : (x.sample r).history.length ≤ 16000 := by
      rw [hhistory]
      exact List.length_take_le _ _
    have hword (k : Nat) : x.phase + x.word + x.word * BitVec.ofNat 32 k = x.phase + x.word * BitVec.ofNat 32 (k + 1) := by
      have hone : x.word * BitVec.ofNat 32 1 = x.word := BitVec.mul_one x.word
      rw [BitVec.ofNat_add, mul_add, hone, add_assoc, add_comm x.word]
    have hfirst : x.phase + x.word * BitVec.ofNat 32 0 = x.phase := by
      simp
    rw [List.foldl_cons, ih (Extraction.sample_tuned h r) hlen', hphase, hhistory, Extraction.sample_word h,
      take_append_take, List.mapIdx_cons, List.reverse_cons, List.append_assoc, hfirst]
    simp only [hword, List.singleton_append]

/-- After a retune it holds the samples since then alone. -/
theorem Extraction.history_after_retune {x : Extraction} {rx : List Sample} (h : x.tuned = true) (offset : Int) :
    (rx.foldl Extraction.sample (x.retune offset)).history
      = (rx.mapIdx fun k y => rotate y (-(tuningWord offset * BitVec.ofNat 32 k))).reverse.take 16000 := by
  rw [Extraction.history_foldl (x := x.retune offset) h (Nat.zero_le _)]
  have hphase (k : Nat) : (x.retune offset).phase + (x.retune offset).word * BitVec.ofNat 32 k
      = tuningWord offset * BitVec.ofNat 32 k := BitVec.zero_add _
  have hempty : (x.retune offset).history = [] := rfl
  simp only [hphase, hempty, List.append_nil]

/-- The filter's smallest turn is a small one. -/
theorem turnUnit_one : 0 < (turnUnit 1).q ∧ (turnUnit 1).q < 1 / 1000 := by
  have hpi := Real.pi_gt_three
  have hpi2 := Real.pi_lt_d2
  have hangle := turnUnit_atAngle 1
  rw [Nat.cast_one, mul_one] at hangle
  refine hangle.small_turn ?_ ?_ ?_
  · rw [le_div_iff₀ (by positivity)]
    norm_num
    linarith
  · rw [div_le_one (by positivity)]
    linarith
  · have : 2 * Real.pi / 16000 ≤ 6.3 / 16000 := div_le_div_of_nonneg_right (by linarith) (by positivity)
    push_cast
    refine (add_le_add_left this _).trans_lt ?_
    norm_num

/-- A 16,000th more turns by the smallest turn. -/
theorem turnUnit_succ (k : Nat) : |(turnUnit (k + 1)).i - (complexMul (turnUnit k) (turnUnit 1)).i| ≤ 1 / 10 ^ 20
    ∧ |(turnUnit (k + 1)).q - (complexMul (turnUnit k) (turnUnit 1)).q| ≤ 1 / 10 ^ 20 := by
  have hangle : 2 * Real.pi * (k + 1 : Nat) / 16000 = 2 * Real.pi * k / 16000 + 2 * Real.pi * (1 : Nat) / 16000 := by
    push_cast
    ring
  exact (turnUnit_atAngle k).near_mul (turnUnit_atAngle 1) (hangle ▸ turnUnit_atAngle (k + 1))

/-- Settles O4: the filter's output is read from the bins of the samples it holds; the turns of a bin cancel unless
128 divides its distance. -/
theorem channelFilterPassband : Obligations.ChannelFilterPassband := by
  refine ⟨fun x rx => ⟨fun h => if_neg (by rw [h]; exact Bool.false_ne_true), fun h => if_pos h⟩,
    fun x rx h => ⟨Extraction.history_foldl h, Extraction.history_after_retune h⟩, fun c h => rfl,
    fun c m => ⟨mem_filterBins.trans (natAbs_le_iff c m), fun h => filterShape_of_le ?_, fun h => filterShape_of_ge ?_,
      filterShape_succ_le c _, filterGain_near c m⟩,
    fun c h k hbins => channelFilter_congr fun m hm => hbins m ((natAbs_le_iff c m).mp (mem_filterBins.mp hm)),
    fun c n => channelFilter_of_nothing fun m _ => binOf_silence n m, fun h x m _ => binOf_append h x m,
    fun c x hc => ?_, fun x j hj1 hj3 => channelFilter_of_nothing fun m hm => binOf_quarters x ?_, ?_⟩
  · unfold edgeBin
    omega
  · unfold edgeBin
    omega
  · have hsteady : List.replicate 16000 x = (List.range 16000).map fun _ => x := by
      rw [List.map_const', List.length_range]
    rw [hsteady]
    refine channelFilter_of_steady (binOf_steady_zero x) fun m hm hne => ?_
    exact binOf_of_turning (not_dvd_of_mem_filterBins hc hm hne) fun k => rfl
  · have hlt := (natAbs_le_iff 0 m).mp (mem_filterBins.mp hm)
    have hwidth : widthKhz 0 = 200 := rfl
    omega
  · intro near
    refine ⟨turnUnit_of_quarter rfl, turnUnit_one.1, turnUnit_one.2, fun k => ⟨turnUnit_add_quarter k, ?_,
      turnUnit_succ k⟩⟩
    have hpower := (turnUnit_atAngle k).power
    rwa [sq, sq] at hpower

end Sys2Proof.Machine

namespace Sys2Proof.Machine

/-! ### Validation (R4 to R6, R30, R31) -/

theorem pairwise_allSlots : allSlots.Pairwise (· < ·) := by decide

/-- In the list of all slots, those before one are those below it. -/
theorem mem_before_of_lt {l₁ l₂ : List SlotIx} {i j : SlotIx} (h : allSlots = l₁ ++ i :: l₂) (hj : j < i) : j ∈ l₁ := by
  have hsorted := pairwise_allSlots
  rw [h, List.pairwise_append, List.pairwise_cons] at hsorted
  obtain ⟨-, ⟨hafter, -⟩, -⟩ := hsorted
  have hmem := mem_allSlots j
  rw [h, List.mem_append, List.mem_cons] at hmem
  rcases hmem with hbefore | rfl | hlater
  · exact hbefore
  · exact absurd hj (lt_irrefl _)
  · exact absurd hj (hafter j hlater).asymm

section Reports

variable (pl : Plan) (i : SlotIx)

theorem rxTest_iff : rxTest pl.header pl.entries[i] = true ↔ pl.RxOk i := decide_eq_true_iff

theorem txTest_iff : txTest pl.header pl.entries[i] = true ↔ pl.TxOk i := decide_eq_true_iff

theorem entrySpacing_iff (j : SlotIx) : entrySpacing pl i j = true ↔ pl.Apart i j := decide_eq_true_iff

/-- The alternate test of an entry by its two parts (R5). -/
theorem altTest_eq : altTest pl.header pl.entries[i]
    = if ¬ pl.AltBandOk i then some .altBand else if ¬ pl.AltDiffers i then some .altSame else none := by
  unfold altTest Plan.AltBandOk Plan.AltDiffers
  rcases pl.entries[i].altRxKhz with _ | f
  · simp
  · simp [bandTest, inBand]

/-- Two transmit frequencies that keep a guard keep it either way round. -/
theorem apart_symm {guard : Nat} {f f' : Int} {c c' : Fin 4} (h : apart guard f c f' c') : apart guard f' c' f c := by
  unfold apart at *
  omega

theorem spacingFailure_eq_none :
    spacingFailure pl i = none ↔ ∀ j : SlotIx, i < j → pl.entries[j].enabled = true → pl.Apart i j := by
  unfold spacingFailure
  rw [List.find?_eq_none]
  refine ⟨fun h j hij hj => ?_, fun h j _ hj => ?_⟩
  · by_contra hclose
    exact h j (mem_allSlots j) (by simp [hij, hj, mt (entrySpacing_iff pl i j).mp hclose, -Fin.getElem_fin])
  · simp only [Bool.and_eq_true, decide_eq_true_eq, Bool.not_eq_true'] at hj
    obtain ⟨⟨hij, hen⟩, hclose⟩ := hj
    rw [(entrySpacing_iff pl i j).mpr (h j hij hen)] at hclose
    cases hclose

theorem spacingFailure_eq_some {pl : Plan} {i j : SlotIx} (h : spacingFailure pl i = some j) :
    i < j ∧ pl.entries[j].enabled = true ∧ ¬ pl.Apart i j
      ∧ ∀ k : SlotIx, i < k → k < j → pl.entries[k].enabled = true → pl.Apart i k := by
  obtain ⟨hj, l₁, l₂, hl, hbefore⟩ := List.find?_eq_some_iff_append.mp h
  simp only [Bool.and_eq_true, decide_eq_true_eq, Bool.not_eq_true'] at hj
  obtain ⟨⟨hij, hen⟩, hclose⟩ := hj
  refine ⟨hij, hen, fun hap => ?_, fun k hik hkj hk => ?_⟩
  · rw [(entrySpacing_iff pl i j).mpr hap] at hclose
    cases hclose
  · by_contra hap
    have hpass := hbefore k (mem_before_of_lt hl hkj)
    rw [Bool.not_eq_true'] at hpass
    simp [hik, hk, mt (entrySpacing_iff pl i k).mp hap, -Fin.getElem_fin] at hpass

/-- The tests that one entry is put to, in the order of R31. -/
theorem entryReport_eq : entryReport pl i
    = if pl.RxOk i then
        if pl.TxOk i then
          if pl.AltBandOk i then
            if pl.AltDiffers i then (spacingFailure pl i).map fun j => ⟨.txSpacing, i, some j⟩
            else some ⟨.altSame, i, none⟩
          else some ⟨.altBand, i, none⟩
        else some ⟨.txBand, i, none⟩
      else some ⟨.rxBand, i, none⟩ := by
  unfold entryReport
  rw [altTest_eq]
  by_cases hrx : pl.RxOk i
  · rw [if_neg (by simp [(rxTest_iff pl i).mpr hrx, -Fin.getElem_fin]), if_pos hrx]
    by_cases htx : pl.TxOk i
    · rw [if_neg (by simp [(txTest_iff pl i).mpr htx, -Fin.getElem_fin]), if_pos htx]
      by_cases hband : pl.AltBandOk i
      · by_cases halt : pl.AltDiffers i
        · rw [if_neg (not_not.mpr hband), if_neg (not_not.mpr halt), if_pos hband, if_pos halt]
        · rw [if_neg (not_not.mpr hband), if_pos halt, if_pos hband, if_neg halt]
      · rw [if_pos hband, if_neg hband]
    · rw [if_pos (by simp [mt (txTest_iff pl i).mp htx, -Fin.getElem_fin]), if_neg htx]
  · rw [if_pos (by simp [mt (rxTest_iff pl i).mp hrx, -Fin.getElem_fin]), if_neg hrx]

theorem entryReport_eq_none : entryReport pl i = none ↔ pl.Passes i := by
  rw [entryReport_eq, Plan.Passes, ← spacingFailure_eq_none]
  split_ifs with hrx htx hband halt
  · rw [Option.map_eq_none_iff]
    exact ⟨fun h => ⟨hrx, htx, hband, halt, h⟩, fun ⟨_, _, _, _, h⟩ => h⟩
  · exact iff_of_false nofun fun ⟨_, _, _, h, _⟩ => halt h
  · exact iff_of_false nofun fun ⟨_, _, h, _⟩ => hband h
  · exact iff_of_false nofun fun ⟨_, h, _⟩ => htx h
  · exact iff_of_false nofun fun ⟨h, _⟩ => hrx h

/-- A report of an entry names it and its first failure. -/
theorem entryReport_eq_some {pl : Plan} {i : SlotIx} {rep : Report} (h : entryReport pl i = some rep) :
    rep.slot = i ∧ pl.Reports rep := by
  rw [entryReport_eq] at h
  split_ifs at h with hrx htx hband halt
  · obtain ⟨j, hj, rfl⟩ := Option.map_eq_some_iff.mp h
    exact ⟨rfl, hrx, htx, hband, halt, j, rfl, spacingFailure_eq_some hj⟩
  all_goals obtain rfl := Option.some.inj h
  · exact ⟨rfl, hrx, htx, hband, halt, rfl⟩
  · exact ⟨rfl, hrx, htx, hband, rfl⟩
  · exact ⟨rfl, hrx, htx, rfl⟩
  · exact ⟨rfl, hrx, rfl⟩

end Reports

/-- A plan has no report when every enabled entry passes its tests (R30). -/
theorem Plan.report_eq_none (pl : Plan) :
    pl.report = none ↔ ∀ i : SlotIx, pl.entries[i].enabled = true → pl.Passes i := by
  unfold Plan.report
  simp only [List.findSome?_eq_none_iff, mem_allSlots, forall_const, ite_eq_right_iff, entryReport_eq_none]

/-- The tests made under each enabled index, with every other enabled entry in place of the later ones (R30). -/
theorem Plan.report_eq_none_iff (pl : Plan) :
    pl.report = none ↔ ∀ i : SlotIx, pl.entries[i].enabled = true →
      pl.RxOk i ∧ pl.TxOk i ∧ pl.AltBandOk i ∧ pl.AltDiffers i
      ∧ ∀ j : SlotIx, i ≠ j → pl.entries[j].enabled = true → pl.Apart i j := by
  rw [Plan.report_eq_none]
  refine ⟨fun h i hi => ?_, fun h i hi => ?_⟩
  · obtain ⟨hrx, htx, hband, halt, hlater⟩ := h i hi
    refine ⟨hrx, htx, hband, halt, fun j hij hj => ?_⟩
    rcases lt_or_gt_of_ne hij with hlt | hgt
    · exact hlater j hlt hj
    · obtain ⟨-, -, -, -, hlater'⟩ := h j hj
      exact apart_symm (hlater' i hgt hi)
  · obtain ⟨hrx, htx, hband, halt, hother⟩ := h i hi
    exact ⟨hrx, htx, hband, halt, fun j hij hj => hother j (ne_of_lt hij) hj⟩

/-- Settles O60: the search over the entries stops at the first that fails, and the tests of one entry at its first
failure. -/
theorem validationReports : Obligations.ValidationReports := by
  refine fun pl => ⟨pl.report_eq_none_iff, fun rep hrep => ?_⟩
  obtain ⟨l₁, i, l₂, hl, hi, hbefore⟩ := List.findSome?_eq_some_iff.mp hrep
  split at hi
  · obtain ⟨rfl, hreports⟩ := entryReport_eq_some hi
    refine ⟨‹_›, hreports, fun j hj hen => (entryReport_eq_none pl j).mp ?_⟩
    simpa only [hen, if_true] using hbefore j (mem_before_of_lt hl hj)
  · cases hi

end Sys2Proof.Machine

namespace Sys2Proof.Machine

/-! ### Reading requests (R32, R65, R89, R96, R122, R124, R146 to R148) -/

/-- A taken request whose owning block leaves the state changes its port's queues and the lease (R139, R140, R155). -/
theorem State.take_of_reading {s t : State} {p : Port} {row : RequestRow}
    {handler : Port → Request → State → State × Reply} (hread : ∀ (r : Request) (u : State), (handler p r u).1 = u)
    (h : s.take p row handler = .next t) :
    t = { s with
      ports := s.ports.set p { s.ports.get p with
        requests := (t.ports.get p).requests, responses := (t.ports.get p).responses }
      arbiter := { s.arbiter with lease := t.arbiter.lease } } := by
  have hanswer (r : Request) (a : Reply) : (s.dequeue p).respond p r a = { s with
      ports := s.ports.set p { s.ports.get p with
        requests := (((s.dequeue p).respond p r a).ports.get p).requests
        responses := (((s.dequeue p).respond p r a).ports.get p).responses }
      arbiter := { s.arbiter with lease := ((s.dequeue p).respond p r a).arbiter.lease } } := by
    obtain ⟨lease, rs, hrespond⟩ := (s.dequeue p).respond_frame p r a
    rw [hrespond]
    simp only [State.dequeue_ports, PerPort.set_set, PerPort.get_set_self]
    rfl
  rcases State.take_cases h with rfl | ⟨r, -, -, ⟨st, -, rfl⟩ | ⟨-, rfl⟩⟩
  · show t = { t with ports := t.ports.set p (t.ports.get p) }
    rw [PerPort.set_get]
  · exact hanswer r _
  · rw [hread]
    exact hanswer r _

theorem onPlanRead_state (p : Port) (r : Request) (s : State) : (onPlanRead p r s).1 = s := by
  unfold onPlanRead
  dsimp only
  split_ifs <;> rfl

theorem onDraftGet_state (p : Port) (r : Request) (s : State) : (onDraftGet p r s).1 = s := by
  unfold onDraftGet
  dsimp only
  split_ifs <;> rfl

theorem onSlotRead_state (p : Port) (r : Request) (s : State) : (onSlotRead p r s).1 = s := by
  unfold onSlotRead
  split <;> rfl

theorem onPageInfo_state (p : Port) (r : Request) (s : State) : (onPageInfo p r s).1 = s := by
  unfold onPageInfo
  split <;> rfl

/-- Settles O14: each reading row's block answers from the state and leaves it. -/
theorem readingRequestsChangeNothingElse : Obligations.ReadingRequestsChangeNothingElse := by
  intro p row s t hrow h
  cases row with
  | identify => exact State.take_of_reading (fun _ _ => rfl) h
  | statusRead => exact State.take_of_reading (fun _ _ => rfl) h
  | nop => exact State.take_of_reading (fun _ _ => rfl) h
  | planRead => exact State.take_of_reading (onPlanRead_state p) h
  | slotRead => exact State.take_of_reading (onSlotRead_state p) h
  | budgetRead => exact State.take_of_reading (fun _ _ => rfl) h
  | draftGet => exact State.take_of_reading (onDraftGet_state p) h
  | pageInfo => exact State.take_of_reading (onPageInfo_state p) h
  | bootRead => exact State.take_of_reading (fun _ _ => rfl) h
  | _ => cases hrow

/-! ### Headers and runs of entries as bytes (R32, R96, R177) -/

theorem labelBytes_length (l : Label) : (labelBytes l).length = 13 := by
  cases l <;> simp [labelBytes]

/-- An entry is 33 bytes, whatever its fields (R177). -/
theorem Entry.bytes_length (e : Entry) : e.bytes.length = 33 := by
  simp [Entry.bytes, be32, be16, signed16, labelBytes_length]

/-- Of blocks of one length written one after another, the block at a place stands at that many lengths. -/
theorem take_drop_flatMap {α β : Type} {n : Nat} (f : α → List β) (l : List α) (hf : ∀ a ∈ l, (f a).length = n)
    {k : Nat} (hk : k < l.length) : ((l.flatMap f).drop (n * k)).take n = f l[k] := by
  induction l generalizing k with
  | nil => simp at hk
  | cons a l ih =>
    have ha : (f a).length = n := hf a List.mem_cons_self
    rw [List.flatMap_cons]
    cases k with
    | zero => rw [Nat.mul_zero, List.drop_zero, ← ha, List.take_left, List.getElem_cons_zero]
    | succ k =>
      have hskip : n * (k + 1) = (f a).length + n * k := by rw [ha]; ring
      rw [hskip, List.drop_append, List.drop_eq_nil_of_le (by omega), Nat.add_sub_cancel_left, List.nil_append,
        ih (fun b hb => hf b (List.mem_cons_of_mem a hb)) (Nat.lt_of_succ_lt_succ hk), List.getElem_cons_succ]

theorem Plan.entryRun_length (pl : Plan) (start count : Nat) : (pl.entryRun start count).length = 33 * count := by
  simp [Plan.entryRun, List.length_flatMap, Entry.bytes_length, Nat.mul_comm]

/-- The entry at a place of a run, which passes from entry 15 to entry 0 (R32, R96). -/
theorem Plan.entryRun_at (pl : Plan) {start count k : Nat} (hk : k < count) {i : SlotIx} (hi : i.val = (start + k) % 16) :
    ((pl.entryRun start count).drop (33 * k)).take 33 = pl.entries[i].bytes := by
  obtain rfl : (Fin.ofNat 16 (start + k) : SlotIx) = i := Fin.ext hi.symm
  unfold Plan.entryRun
  rw [take_drop_flatMap _ _ (fun _ _ => Entry.bytes_length _) (by simpa using hk), List.getElem_range]

/-- A response body of a lead and a run of entries. -/
theorem Plan.entryRun_body (pl : Plan) (lead : List Byte) (start count : Nat) :
    (lead ++ pl.entryRun start count).length = lead.length + 33 * count
    ∧ (lead ++ pl.entryRun start count).take lead.length = lead
    ∧ ∀ k < count, ∀ i : SlotIx, i.val = (start + k) % 16 →
      ((lead ++ pl.entryRun start count).drop (lead.length + 33 * k)).take 33 = pl.entries[i].bytes := by
  refine ⟨by rw [List.length_append, Plan.entryRun_length], List.take_left, fun k hk i hi => ?_⟩
  rw [List.drop_append, List.drop_eq_nil_of_le (Nat.le_add_right _ _), Nat.add_sub_cancel_left, List.nil_append,
    pl.entryRun_at hk hi]

theorem runInRange_iff (start count : Nat) : runInRange start count = true ↔ start ≤ 15 ∧ 1 ≤ count ∧ count ≤ 16 := by
  simp [runInRange, and_assoc]

/-! ### PLAN READ (R32) -/

section PlanRead

variable {s : State} {p : Port} {r : Request}

theorem onPlanRead_header (h : u8At r.body 0 = 0) : onPlanRead p r s
    = (s, ⟨.ok, be16 s.ctl.generation ++ [byteOf s.ctl.state.code] ++ s.ctl.active.header.bytes⟩) := by
  simp [onPlanRead, h]

theorem onPlanRead_entries (h : u8At r.body 0 = 1) (hrun : runInRange (u8At r.body 1) (u8At r.body 2) = true) :
    onPlanRead p r s = (s, ⟨.ok, be16 s.ctl.generation ++ [byteOf s.ctl.state.code]
      ++ s.ctl.active.entryRun (u8At r.body 1) (u8At r.body 2)⟩) := by
  simp [onPlanRead, h, hrun]

theorem onPlanRead_refused (h : 1 < u8At r.body 0
      ∨ u8At r.body 0 = 1 ∧ ¬ runInRange (u8At r.body 1) (u8At r.body 2) = true) :
    onPlanRead p r s = (s, refuse .badArgument) := by
  rcases h with h | ⟨h, hrun⟩
  · simp [onPlanRead, h]
  · simp [onPlanRead, h, hrun]

end PlanRead

/-! ### DRAFT GET (R96) -/

section DraftGet

variable {s : State} {p q : Port} {r : Request}

/-- What a DRAFT GET response says first of the draft it reads: whether it is LOADING, and its page (R96; log entry 27). -/
def Draft.lead (d : Draft) : List Byte := [if d.loading.isSome then 1 else 0, optByte (d.loading.map Fin.val)]

/-- The draft that the selector names (R96). -/
theorem draftSelected (hq : u8At r.body 0 = 0 ∧ q = p ∨ u8At r.body 0 = 1 ∧ q = p.other) :
    (if u8At r.body 0 = 0 then p else p.other) = q ∧ ¬ 1 < u8At r.body 0 := by
  rcases hq with ⟨h, rfl⟩ | ⟨h, rfl⟩ <;> simp [h]

theorem onDraftGet_header (hq : u8At r.body 0 = 0 ∧ q = p ∨ u8At r.body 0 = 1 ∧ q = p.other) (h : u8At r.body 1 = 0) :
    onDraftGet p r s = (s, ⟨.ok, (s.drafts.get q).lead ++ (s.drafts.get q).plan.header.bytes⟩) := by
  obtain ⟨hsel, hle⟩ := draftSelected hq
  simp only [onDraftGet, hsel, hle, h, if_false, if_true]
  rfl

theorem onDraftGet_entries (hq : u8At r.body 0 = 0 ∧ q = p ∨ u8At r.body 0 = 1 ∧ q = p.other) (h : u8At r.body 1 = 1)
    (hrun : runInRange (u8At r.body 2) (u8At r.body 3) = true) : onDraftGet p r s
    = (s, ⟨.ok, (s.drafts.get q).lead ++ (s.drafts.get q).plan.entryRun (u8At r.body 2) (u8At r.body 3)⟩) := by
  obtain ⟨hsel, hle⟩ := draftSelected hq
  simp only [onDraftGet, hsel, hle, h, hrun, if_false, if_true]
  rfl

theorem onDraftGet_refused (h : 1 < u8At r.body 0 ∨ 1 < u8At r.body 1
      ∨ u8At r.body 1 = 1 ∧ ¬ runInRange (u8At r.body 2) (u8At r.body 3) = true) :
    onDraftGet p r s = (s, refuse .badArgument) := by
  rcases h with h | h | ⟨h, hrun⟩
  · simp [onDraftGet, h]
  · simp [onDraftGet, h]
  · simp [onDraftGet, h, hrun]

end DraftGet

/-- Settles O19: both requests answer a lead and the header or a run, or refuse by their selectors and run. -/
theorem planReadAndDraftGet : Obligations.PlanReadAndDraftGet := by
  have hnot {start count : Nat} (h : 15 < start ∨ count = 0 ∨ 16 < count) : ¬ runInRange start count = true := by
    rw [runInRange_iff]; omega
  refine ⟨fun s p r ht => ⟨fun h => ?_, fun h h1 h2 h3 => ?_, fun h => ?_⟩, fun s p r ht h => ?_,
    fun s p r q ht hq => ⟨fun h => ?_, fun h h1 h2 h3 => ?_⟩⟩
  · exact (State.take_of_takes ht onPlanRead).trans (by rw [onPlanRead_header h]; rfl)
  · refine ⟨be16 s.ctl.generation ++ [byteOf s.ctl.state.code] ++ s.ctl.active.entryRun (u8At r.body 1) (u8At r.body 2),
      (State.take_of_takes ht onPlanRead).trans ?_, ?_⟩
    · rw [onPlanRead_entries h ((runInRange_iff _ _).mpr ⟨h1, h2, h3⟩)]
      rfl
    · exact Plan.entryRun_body s.ctl.active (be16 s.ctl.generation ++ [byteOf s.ctl.state.code]) _ _
  · refine (State.take_of_takes ht onPlanRead).trans ?_
    rw [onPlanRead_refused (h.imp_right (And.imp_right hnot))]
    rfl
  · refine (State.take_of_takes ht onDraftGet).trans ?_
    rw [onDraftGet_refused (h.imp_right (Or.imp_right (And.imp_right hnot)))]
    rfl
  · exact (State.take_of_takes ht onDraftGet).trans (by rw [onDraftGet_header hq h]; rfl)
  · refine ⟨(s.drafts.get q).lead ++ (s.drafts.get q).plan.entryRun (u8At r.body 2) (u8At r.body 3),
      (State.take_of_takes ht onDraftGet).trans ?_, ?_⟩
    · rw [onDraftGet_entries hq h ((runInRange_iff _ _).mpr ⟨h1, h2, h3⟩)]
      rfl
    · exact Plan.entryRun_body (s.drafts.get q).plan (s.drafts.get q).lead _ _

end Sys2Proof.Machine

namespace Sys2Proof.Machine

/-! ### TRIM LEVEL (R33, R35, R39) -/

theorem indexOf_of_le {n : Nat} (h : 15 < n) : indexOf n = none := by
  simp only [indexOf, dif_neg (show ¬ n < 16 by omega)]

/-- A delta in range is accepted (R35). -/
theorem onTrimLevel_of_accepted {s : State} {p : Port} {r : Request} {i : SlotIx} (href : s.trimRefusal p = none)
    (hi : u8At r.body 0 = i.val) (hlo : -1024 ≤ s16At r.body 1) (hhi : s16At r.body 1 ≤ 1024) :
    onTrimLevel p r s = (s.trimLevel p r.tag i (s16At r.body 1),
      ⟨if (s.share i : Int) + s16At r.body 1 < 0 ∨ 1024 < (s.share i : Int) + s16At r.body 1 then .okClamped else .ok,
        be16 (nextGeneration s.ctl.generation) ++ be16 (trimmedShare (s.share i) (s16At r.body 1))⟩) := by
  have hrange : ¬ (s16At r.body 1 < -1024 ∨ 1024 < s16At r.body 1) := by omega
  simp only [onTrimLevel, href, hi, indexOf_val, if_neg hrange, Bool.or_eq_true, decide_eq_true_eq]

/-- Settles O30: past the checks the trim is `State.trimLevel`, whose result the statement writes out. -/
theorem trimLevel : Obligations.TrimLevel := by
  intro s p r i ht hh hr hi hlo hhi sum share gen t
  refine (State.take_of_takes ht onTrimLevel).trans ?_
  rw [onTrimLevel_of_accepted (s := s.dequeue p) (State.trimRefusal_of_holder hh hr) hi hlo hhi]
  rfl

/-! ### Refused trims (R33, R34) -/

section TrimRefusals

variable {s : State} {p : Port} {r : Request}

/-- A holder's trim outside READY is refused (R33). -/
theorem State.trimRefusal_of_busy (h : s.holder p) (hr : s.ctl.state ≠ .ready) :
    s.trimRefusal p = some ⟨.busyPlan, be16 s.ctl.generation ++ [byteOf s.ctl.state.code]⟩ := by
  simp [State.trimRefusal, State.authorityRefusal_of_holder h, hr, State.planBody]

theorem onTrimLevel_of_refusal {a : Reply} (h : s.trimRefusal p = some a) : onTrimLevel p r s = (s, a) := by
  simp only [onTrimLevel, h]

theorem onTrimFrequency_of_refusal {a : Reply} (h : s.trimRefusal p = some a) : onTrimFrequency p r s = (s, a) := by
  simp only [onTrimFrequency, h]

variable (href : s.trimRefusal p = none)
include href

/-- A slot above 15 or a delta out of range (R33, R35). -/
theorem onTrimLevel_of_argument (h : 15 < u8At r.body 0 ∨ s16At r.body 1 < -1024 ∨ 1024 < s16At r.body 1) :
    onTrimLevel p r s = (s, refuse .badArgument) := by
  unfold onTrimLevel
  rw [href]
  rcases h with h | h
  · rw [indexOf_of_le h]
  · cases indexOf (u8At r.body 0) with
    | none => rfl
    | some i => exact if_pos (by rwa [Bool.or_eq_true, decide_eq_true_eq, decide_eq_true_eq])

/-- A slot above 15 or a delta out of range (R33, R36). -/
theorem onTrimFrequency_of_argument (h : 15 < u8At r.body 0 ∨ s8At r.body 1 < -100 ∨ 100 < s8At r.body 1) :
    onTrimFrequency p r s = (s, refuse .badArgument) := by
  unfold onTrimFrequency
  rw [href]
  rcases h with h | h
  · rw [indexOf_of_le h]
  · cases indexOf (u8At r.body 0) with
    | none => rfl
    | some i => exact if_pos (by rwa [Bool.or_eq_true, decide_eq_true_eq, decide_eq_true_eq])

variable {i : SlotIx} (hi : u8At r.body 0 = i.val) (hlo : -100 ≤ s8At r.body 1) (hhi : s8At r.body 1 ≤ 100)
include hi hlo hhi

/-- An enabled entry whose new frequency fails the result check (R34). -/
theorem onTrimFrequency_of_report {rep : Report} (hen : s.ctl.active.entries[i].enabled = true)
    (hrep : trimReport s.ctl.active i (s.ctl.active.entries[i].txKhz + s8At r.body 1) = some rep) :
    onTrimFrequency p r s = (s, ⟨.invalidPlan, be16 s.ctl.generation ++ rep.bytes⟩) := by
  have hrange : ¬ (s8At r.body 1 < -100 || 100 < s8At r.body 1) = true := by
    rw [Bool.or_eq_true, decide_eq_true_eq, decide_eq_true_eq]; omega
  simp only [onTrimFrequency, href, hi, indexOf_val, if_neg hrange, hen, if_true, hrep]

/-- A disabled entry whose new frequency leaves 0 to 6,000,000 (R34). -/
theorem onTrimFrequency_of_range (hen : s.ctl.active.entries[i].enabled = false)
    (hout : (s.ctl.active.entries[i].txKhz : Int) + s8At r.body 1 < 0
      ∨ 6000000 < (s.ctl.active.entries[i].txKhz : Int) + s8At r.body 1) :
    onTrimFrequency p r s = (s, refuse .badArgument) := by
  have hrange : ¬ (s8At r.body 1 < -100 || 100 < s8At r.body 1) = true := by
    rw [Bool.or_eq_true, decide_eq_true_eq, decide_eq_true_eq]; omega
  have hout' : ((s.ctl.active.entries[i].txKhz : Int) + s8At r.body 1 < 0
      || 6000000 < (s.ctl.active.entries[i].txKhz : Int) + s8At r.body 1) = true := by
    rwa [Bool.or_eq_true, decide_eq_true_eq, decide_eq_true_eq]
  simp only [onTrimFrequency, href, hi, indexOf_val, if_neg hrange, hen, Bool.false_eq_true, if_false, if_pos hout']

end TrimRefusals

/-- The result check finds a frequency out of its band first (R34). -/
theorem trimReport_of_band {pl : Plan} {i : SlotIx} {tx : Int}
    (hb : ¬ inBand tx pl.header.txCentre pl.entries[i].bwClass) : trimReport pl i tx = some ⟨.txBand, i, none⟩ := by
  have hband : bandTest tx pl.header.txCentre (widthKhz pl.entries[i].bwClass) = false := decide_eq_false hb
  unfold trimReport
  rw [hband]
  rfl

/-- Then the least other enabled entry that it stands too close to (R34). -/
theorem trimReport_of_spacing {pl : Plan} {i j : SlotIx} {tx : Int}
    (hb : inBand tx pl.header.txCentre pl.entries[i].bwClass) (hj : j ≠ i) (hen : pl.entries[j].enabled = true)
    (hclose : ¬ apart pl.header.guardKhz tx pl.entries[i].bwClass pl.entries[j].txKhz pl.entries[j].bwClass)
    (hleast : ∀ k : SlotIx, k < j → k ≠ i → pl.entries[k].enabled = true →
      apart pl.header.guardKhz tx pl.entries[i].bwClass pl.entries[k].txKhz pl.entries[k].bwClass) :
    trimReport pl i tx = some ⟨.txSpacing, i, some j⟩ := by
  have hband : bandTest tx pl.header.txCentre (widthKhz pl.entries[i].bwClass) = true := decide_eq_true hb
  have hconf : trimConflict pl i tx = some j := by
    obtain ⟨l₁, l₂, hl⟩ := List.append_of_mem (mem_allSlots j)
    refine List.find?_eq_some_iff_append.mpr ⟨?_, l₁, l₂, hl, fun k hk => ?_⟩
    · simp [hj, hen, spacingTest, hclose, -Fin.getElem_fin]
    · have hkj : k < j := by
        have hsorted := pairwise_allSlots
        rw [hl, List.pairwise_append] at hsorted
        obtain ⟨-, -, hlt⟩ := hsorted
        exact hlt k hk j List.mem_cons_self
      by_cases hki : k = i
      · simp [hki]
      · cases hek : pl.entries[k].enabled
        · simp [-Fin.getElem_fin]
        · simp [spacingTest, hleast k hkj hki hek, -Fin.getElem_fin]
  unfold trimReport
  rw [hband, hconf]
  rfl

/-! ### Refused commits (R98) -/

section CommitRefusals

variable {s : State} {p : Port} {r : Request} {expected : Option Nat} (hh : s.holder p)

theorem onCommit_of_refusal {a : Reply} (h : s.commitRefusal p (expectedGeneration r.body) = some a) :
    onCommit p r s = (s, a) := by
  simp only [onCommit, h]

include hh

theorem State.commitRefusal_of_starting (h : s.ctl.state = .starting) :
    s.commitRefusal p expected = some ⟨.notReady, s.planBody⟩ := by
  simp only [State.commitRefusal, State.authorityRefusal_of_holder hh, if_pos h]

theorem State.commitRefusal_of_busy (h0 : s.ctl.state ≠ .starting) (h : s.ctl.state ≠ .ready) :
    s.commitRefusal p expected = some ⟨.busyPlan, s.planBody⟩ := by
  simp only [State.commitRefusal, State.authorityRefusal_of_holder hh, if_neg h0, if_pos h]

variable (hr : s.ctl.state = .ready)
include hr

theorem State.commitRefusal_of_loading {pg : PageIx} (h : (s.drafts.get p).loading = some pg) :
    s.commitRefusal p expected = some ⟨.draftBusy, be16 s.ctl.generation ++ [byteOf pg.val]⟩ := by
  simp [State.commitRefusal, State.authorityRefusal_of_holder hh, hr, State.draftRefusal, h, State.withGeneration]

variable (hd : (s.drafts.get p).loading = none)
include hd

theorem State.commitRefusal_of_stale (h : expected.any fun g => g ≠ s.ctl.generation) :
    s.commitRefusal p expected = some ⟨.stale, be16 s.ctl.generation⟩ := by
  have hdraft : s.draftRefusal p = none := by simp [State.draftRefusal, hd]
  simp only [State.commitRefusal, State.authorityRefusal_of_holder hh, hr, hdraft, if_pos h, reduceCtorEq, if_false, ne_eq,
    not_true]

theorem State.commitRefusal_of_report (h : ¬ (expected.any fun g => g ≠ s.ctl.generation) = true) {rep : Report}
    (hrep : (s.drafts.get p).plan.report = some rep) :
    s.commitRefusal p expected = some ⟨.invalidPlan, be16 s.ctl.generation ++ rep.bytes⟩ := by
  have hdraft : s.draftRefusal p = none := by simp [State.draftRefusal, hd]
  have hvalid : (s.drafts.get p).plan.valid = false := by simp [Plan.valid, hrep]
  simp only [State.commitRefusal, State.authorityRefusal_of_holder hh, hr, hdraft, if_neg h, reduceCtorEq, if_false, ne_eq,
    not_true, hvalid, Bool.not_false, if_true, hrep, reportBytes]

end CommitRefusals

/-- The expected generation of a COMMIT differs when its body has two bytes that name another (R98, R176). -/
theorem expectedGeneration_any (b : List Byte) (g : Nat) :
    ((expectedGeneration b).any fun x => x ≠ g) = true ↔ b.length = 2 ∧ u16At b 0 ≠ g := by
  unfold expectedGeneration
  split <;> simp_all

/-- Settles O32: each refusal is the first check that fails. -/
theorem trimAndCommitRefusals : Obligations.TrimAndCommitRefusals := by
  have takes {s : State} {p : Port} {row : RequestRow} {r : Request} {a : Reply}
      {handler : Port → Request → State → State × Reply} (ht : s.takes p row r)
      (h : handler p r (s.dequeue p) = (s.dequeue p, a)) :
      s.take p row handler = .next ((s.dequeue p).respond p r a) := by
    rw [State.take_of_takes ht, h]
  refine ⟨fun s p r hh => ⟨fun row hrow ht hr => ?_, fun ht hr h => ?_, fun ht hr h => ?_, fun i ht hr hi hlo hhi => ?_⟩,
    fun s p r ht hh => ⟨fun h => ?_, fun h0 h => ?_, fun hr pg h => ?_, fun hr hd hlen h => ?_,
      fun hr hd hgen rep hrep => ?_⟩⟩
  · have hbusy := State.trimRefusal_of_busy (s := s.dequeue p) hh hr
    rcases List.mem_pair.mp hrow with rfl | rfl
    · exact takes ht (onTrimLevel_of_refusal hbusy)
    · exact takes ht (onTrimFrequency_of_refusal hbusy)
  · exact takes ht (onTrimLevel_of_argument (State.trimRefusal_of_holder hh hr) h)
  · exact takes ht (onTrimFrequency_of_argument (State.trimRefusal_of_holder hh hr) h)
  · have href : (s.dequeue p).trimRefusal p = none := State.trimRefusal_of_holder hh hr
    refine ⟨fun hen hb => ?_, fun j hen hb hj henj hclose hleast => ?_, fun hen hout => ?_⟩
    · exact takes ht (onTrimFrequency_of_report href hi hlo hhi hen (trimReport_of_band hb))
    · exact takes ht (onTrimFrequency_of_report href hi hlo hhi hen (trimReport_of_spacing hb hj henj hclose hleast))
    · exact takes ht (onTrimFrequency_of_range href hi hlo hhi hen hout)
  · have href := State.commitRefusal_of_starting (s := s.dequeue p) (expected := expectedGeneration r.body) hh h
    have hbody : (s.dequeue p).planBody = be16 s.ctl.generation ++ [0] := by
      unfold State.planBody
      rw [State.dequeue_ctl, h]
      rfl
    rw [hbody] at href
    exact takes ht (onCommit_of_refusal href)
  · exact takes ht (onCommit_of_refusal (State.commitRefusal_of_busy (s := s.dequeue p) hh h0 h))
  · exact takes ht (onCommit_of_refusal (State.commitRefusal_of_loading (s := s.dequeue p) hh hr h))
  · exact takes ht (onCommit_of_refusal (State.commitRefusal_of_stale (s := s.dequeue p) hh hr hd
      ((expectedGeneration_any _ _).mpr ⟨hlen, h⟩)))
  · refine takes ht (onCommit_of_refusal (State.commitRefusal_of_report (s := s.dequeue p) hh hr hd ?_ hrep))
    rw [expectedGeneration_any]
    exact fun ⟨hlen, hne⟩ => hne (hgen hlen)

end Sys2Proof.Machine

namespace Sys2Proof.Machine

/-! ### What a command does to the plan records, the slots, the Allocator, the Controller and Plan Memory -/

/-- Two states agree on the reset, the slots, the Allocator, the Controller, the drafts and Plan Memory. -/
structure State.Alike (s t : State) : Prop where
  inReset : t.inReset = s.inReset
  slots : t.slots = s.slots
  alloc : t.alloc = s.alloc
  ctl : t.ctl = s.ctl
  drafts : t.drafts = s.drafts
  memory : t.memory = s.memory

namespace State.Alike

theorem refl (s : State) : s.Alike s := ⟨rfl, rfl, rfl, rfl, rfl, rfl⟩

variable {s t u : State}

theorem trans (h : s.Alike t) (h' : t.Alike u) : s.Alike u :=
  ⟨h'.inReset.trans h.inReset, h'.slots.trans h.slots, h'.alloc.trans h.alloc, h'.ctl.trans h.ctl,
    h'.drafts.trans h.drafts, h'.memory.trans h.memory⟩

/-- The blocks that the two states need not agree on. -/
theorem others (s : State) (pending : List Instr) (interlock : Bool) (extractions : PerSlot Extraction)
    (combiner : Combiner) (ports : PerPort PortState) (arbiter : Arbiter) (ring : Ring) (counters : CounterBank) :
    s.Alike { s with
      pending := pending, interlock := interlock, extractions := extractions, combiner := combiner, ports := ports
      arbiter := arbiter, ring := ring, counters := counters } := ⟨rfl, rfl, rfl, rfl, rfl, rfl⟩

theorem modPort (s : State) (p : Port) (f : PortState → PortState) : s.Alike (s.modPort p f) :=
  others s _ _ _ _ _ _ _ _

theorem modArbiter (s : State) (f : Arbiter → Arbiter) : s.Alike (s.modArbiter f) := others s _ _ _ _ _ _ _ _

theorem modCombiner (s : State) (f : Combiner → Combiner) : s.Alike (s.modCombiner f) := others s _ _ _ _ _ _ _ _

theorem modExtraction (s : State) (i : SlotIx) (f : Extraction → Extraction) : s.Alike (s.modExtraction i f) :=
  others s _ _ _ _ _ _ _ _

theorem modRing (s : State) (f : Ring → Ring) : s.Alike (s.modRing f) := others s _ _ _ _ _ _ _ _

theorem write (s : State) (n : Notice) : s.Alike (s.write n) := modRing s _

theorem dequeue (s : State) (p : Port) : s.Alike (s.dequeue p) := modPort s _ _

theorem respond (s : State) (p : Port) (r : Request) (a : Reply) : s.Alike (s.respond p r a) := by
  obtain ⟨lease, rs, e⟩ := s.respond_frame p r a
  rw [e]
  exact others s _ _ _ _ _ _ _ _

theorem renewLease (s : State) (p : Port) (st : Status) : s.Alike (s.renewLease p st) := by
  unfold State.renewLease
  split
  · exact modArbiter s _
  · exact refl s

theorem giveUp (s : State) (p : Port) : s.Alike (s.giveUp p) := by
  unfold State.giveUp
  split
  · exact modArbiter s _
  · exact refl s

theorem writeFlags (s : State) (p : Port) (tag : Option Byte) (old new : BitVec 4) (cause : Cause) :
    s.Alike (s.writeFlags p tag old new cause) := by
  unfold State.writeFlags
  split
  · exact refl s
  · exact write s _

theorem clearPort (s : State) (p : Port) : s.Alike (s.clearPort p) := by
  have hqueues := modPort s p fun x =>
    { x with requests := [], responses := [], frameAtHead := false, badFrames := 0, overruns := 0 }
  have hcleared := ((hqueues.trans (modArbiter _ fun a => { a with flags := a.flags.set p 0 })).trans
    (giveUp _ p)).trans (modRing _ fun r => { r with unread := r.unread.set p 0, lost := r.lost.set p 0 })
  unfold State.clearPort
  dsimp only
  split
  · exact (hcleared.trans (write _ _)).trans (writeFlags _ _ _ _ _ _)
  · exact hcleared.trans (writeFlags _ _ _ _ _ _)

theorem lapse (s : State) : s.Alike s.lapse := by
  unfold State.lapse
  split
  · exact (modArbiter s _).trans (write _ _)
  all_goals exact refl s

theorem interlockOn (s : State) : s.Alike s.interlockOn := by
  unfold State.interlockOn
  split
  iterate 2 exact (modCombiner s _).trans (write _ _)
  exact refl s

theorem interlockOff (s : State) : s.Alike s.interlockOff := by
  unfold State.interlockOff
  split
  · exact (modCombiner s _).trans (write _ _)
  all_goals exact refl s

/-! The owning blocks of the requests that leave these blocks alone. -/

section Handlers

variable (p : Port) (r : Request) (s : State)

theorem of_eq {s t : State} (h : t = s) : s.Alike t := h ▸ refl t

theorem onClaimNormal : s.Alike (onClaimNormal p r s).1 := by
  unfold Machine.onClaimNormal State.withView
  split
  · exact refl s
  · split
    · exact (modArbiter s _).trans (write _ _)
    · split
      · exact renewLease s p _
      · exact refl s
    · exact refl s

theorem onClaimForce : s.Alike (onClaimForce p r s).1 := by
  unfold Machine.onClaimForce State.withView
  split
  · exact (modArbiter s _).trans (write _ _)
  · exact refl s
  · split
    · exact renewLease s p _
    · split <;> exact (modArbiter s _).trans (write _ _)

theorem onRelease : s.Alike (onRelease p r s).1 := by
  unfold Machine.onRelease State.withView
  split
  · exact (giveUp s p).trans (write _ _)
  · exact refl s

theorem onFlagsWrite : s.Alike (onFlagsWrite p r s).1 := by
  unfold Machine.onFlagsWrite
  split
  · exact refl s
  · exact (modArbiter s _).trans (writeFlags _ _ _ _ _ _)

theorem onCounterControl : s.Alike (onCounterControl p r s).1 := by
  unfold Machine.onCounterControl
  dsimp only
  split
  · exact refl s
  · split
    · exact refl s
    · exact others s _ _ _ _ _ _ _ _

theorem onCounterRead : s.Alike (onCounterRead p r s).1 := by
  unfold Machine.onCounterRead
  dsimp only
  split
  · exact refl s
  · split
    · exact refl s
    · split
      · exact refl s
      · exact others s _ _ _ _ _ _ _ _

theorem onEventRead : s.Alike (onEventRead p r s).1 := by
  unfold Machine.onEventRead
  dsimp only
  split
  · exact refl s
  · exact others s _ _ _ _ _ _ _ _

end Handlers

end State.Alike

/-- The part comes up: the engine reads for a start-up (R116, R125). -/
def State.comeUp (s : State) : State :=
  { s with inReset := false, memory := { s.memory with op := some (.startUpRead .record), opElapsed := 0 } }

/-- An accepted RELOAD (R129). -/
def State.beginReload (s : State) (p : Port) (tag : Byte) : State :=
  (s.modCtl fun c => { c with state := .loading, change := some (.reload p tag) }).holdAlloc.startOp
    (.reloadRead .record p tag)

/-- The transmit frequency that an accepted TRIM FREQUENCY gives an entry: for an enabled entry it passes the result check,
for a disabled one it lies in its range (R34). -/
def Plan.AdmitsTx (pl : Plan) (i : SlotIx) (tx : Int) : Prop :=
  pl.entries[i].enabled = true ∧ trimReport pl i tx = none
  ∨ pl.entries[i].enabled = false ∧ 0 ≤ tx ∧ tx ≤ 6000000

/-- All that a command can do to the reset, the slots, the Allocator, the Controller, the drafts and Plan Memory, with what
the command's checks say where it does it. -/
inductive Does : Instr → State → State → Prop where
  | nothing (c : Instr) (s : State) : Does c s s
  | deviceReset (cause : ResetCause) (s : State) : Does (.deviceReset cause) s (s.deviceReset cause)
  | resetEnd (s : State) : s.inReset = true → Does .resetEnd s s.comeUp
  | trimLevel (p : Port) (tag : Byte) (i : SlotIx) (delta : Int) (s : State) : s.ctl.state = .ready →
    Does (.trimLevel p) s (s.trimLevel p tag i delta)
  | trimFrequency (p : Port) (tag : Byte) (i : SlotIx) (delta : Int) (s : State) : s.ctl.state = .ready →
    s.ctl.active.AdmitsTx i (s.ctl.active.entries[i].txKhz + delta) →
    Does (.trimFrequency p) s (s.trimFrequency p tag i delta)
  | revive (p : Port) (tag : Byte) (i : SlotIx) (s : State) : s.slots[i].state = .failed →
    Does (.revive p) s (s.reviveSlot i (some p) (some tag) .request)
  | draftCopy (p : Port) (s : State) : Does (.draftCopy p) s (s.setDraft p s.ctl.active)
  | draftClear (p : Port) (s : State) : Does (.draftClear p) s (s.setDraft p Plan.default)
  | draftPutEntry (p : Port) (b : List Byte) (s : State) : entryRefusal b = none →
    Does (.draftPutEntry p) s (s.modDraft p fun d => { d with plan := { d.plan with
      entries := d.plan.entries.set (Fin.ofNat 16 (u8At b 0) : SlotIx) (entryStored b) } })
  | draftPutHeader (p : Port) (b : List Byte) (s : State) : headerRefusal b = none →
    Does (.draftPutHeader p) s (s.modDraft p fun d => { d with plan := { d.plan with header := headerStored b } })
  | commit (p : Port) (tag : Byte) (s : State) : s.ctl.state = .ready → (s.drafts.get p).plan.valid = true →
    Does (.commit p) s (s.install (s.drafts.get p).plan (.commit p tag))
  | pageStore (p : Port) (tag : Byte) (pg : PageIx) (snapshot : Plan) (s : State) : s.memory.op = none →
    snapshot = (s.drafts.get p).plan ∨ snapshot = s.ctl.active →
    Does (.pageStore p) s ((s.startOp (.store pg .erase snapshot p tag)).blankPage pg)
  | pageLoad (p : Port) (tag : Byte) (pg : PageIx) (s : State) : s.memory.op = none →
    Does (.pageLoad p) s ((s.startOp (.load pg p tag)).modDraft p fun d => { d with loading := some pg })
  | pageErase (p : Port) (tag : Byte) (pg : PageIx) (s : State) : s.memory.op = none →
    Does (.pageErase p) s ((s.startOp (.erase pg p tag)).blankPage pg)
  | bootSet (p : Port) (tag : Byte) (pr : PageIx) (fb : Option PageIx) (s : State) : s.memory.op = none →
    Does (.bootSet p) s ((s.startOp (.bootWrite pr fb p tag)).modMemory fun m => { m with boot := none })
  | reload (p : Port) (tag : Byte) (s : State) : s.ctl.state = .ready → s.memory.op = none →
    Does (.reload p) s (s.beginReload p tag)
  | levelIntervalExpiry (order : List Turn) (s : State) : Does (.levelIntervalExpiry order) s (s.expireInterval order)
  | holdTimerExpiry (i : SlotIx) (s : State) : Does (.holdTimerExpiry i) s (s.holdOut i)
  | reacquireTimerExpiry (i : SlotIx) (s : State) : Does (.reacquireTimerExpiry i) s (s.reacquireOut i)
  | riseCompletion (i : SlotIx) (s : State) : Does (.riseCompletion i) s (s.completeRise i)
  | fallCompletion (i : SlotIx) (s : State) : s.slots[i].state = .falling → Does (.fallCompletion i) s (s.completeFall i)
  | storeEraseDone (s : State) : Does .storeEraseDone s s.storeErased
  | storeProgramDone (s : State) : Does .storeProgramDone s s.storeProgrammed
  | storeVerifyDone (intact : Bool) (s : State) : Does (.storeVerifyDone intact) s (s.storeVerified intact)
  | pageEraseDone (s : State) : Does .pageEraseDone s s.pageErased
  | pageLoadReadDone (intact : Bool) (s : State) : Does (.pageLoadReadDone intact) s (s.pageLoaded intact)
  | bootWriteDone (intact : Bool) (s : State) : Does (.bootWriteDone intact) s (s.bootWritten intact)
  | startUpReadEnd (x y : Bool) (s : State) : s.inReset = false → Does (.startUpReadEnd x y) s (s.startUpEnd x y)
  | reloadReadEnd (x y : Bool) (s : State) : Does (.reloadReadEnd x y) s (s.reloadEnd x y)

/-- A command comes from one state to another by what it does, up to the blocks that `State.Alike` leaves out. -/
def Comes (c : Instr) (s t : State) : Prop := ∃ u v : State, s.Alike u ∧ Does c u v ∧ v.Alike t

theorem Does.comes {c : Instr} {s t : State} (h : Does c s t) : Comes c s t := ⟨s, t, .refl s, h, .refl t⟩

theorem Comes.of_alike {c : Instr} {s t : State} (h : s.Alike t) : Comes c s t := ⟨s, s, .refl s, .nothing _ s, h⟩

/-- A taken request comes to what its owning block makes of the state. -/
theorem State.take_comes {c : Instr} {s t : State} {p : Port} {row : RequestRow}
    {handler : Port → Request → State → State × Reply} (hh : ∀ (r : Request) (u : State), Comes c u (handler p r u).1)
    (h : s.take p row handler = .next t) : Comes c s t := by
  rcases State.take_cases h with rfl | ⟨r, -, -, ⟨st, -, rfl⟩ | ⟨-, rfl⟩⟩
  · exact Comes.of_alike (.refl _)
  · exact Comes.of_alike ((State.Alike.dequeue s p).trans (.respond _ _ _ _))
  · obtain ⟨u, v, hu, hdoes, hv⟩ := hh r (s.dequeue p)
    exact ⟨u, v, (State.Alike.dequeue s p).trans hu, hdoes, hv.trans (.respond _ _ _ _)⟩

/-- A command that a reset holds off comes to what its action makes of the state. -/
theorem State.running_comes {c : Instr} {s t : State} {f : State → State} (hf : Comes c s (f s))
    (h : s.running f = .next t) : Comes c s t := by
  rcases State.running_cases h with rfl | ⟨-, rfl⟩
  · exact Comes.of_alike (.refl _)
  · exact hf

/-! The owning blocks that act on these blocks. -/

section Handlers

variable (p : Port) (r : Request) (s : State)

theorem State.ready_of_trimRefusal {s : State} {p : Port} (h : s.trimRefusal p = none) : s.ctl.state = .ready := by
  unfold State.trimRefusal at h
  split at h
  · cases h
  · by_contra hr
    rw [if_neg hr] at h
    cases h

theorem onTrimLevel_comes : Comes (.trimLevel p) s (onTrimLevel p r s).1 := by
  unfold onTrimLevel
  split
  · exact Comes.of_alike (.refl s)
  · rename_i href
    dsimp only
    split
    · exact Comes.of_alike (.refl s)
    · split
      · exact Comes.of_alike (.refl s)
      · exact (Does.trimLevel p r.tag _ _ s (State.ready_of_trimRefusal href)).comes

theorem onTrimFrequency_comes : Comes (.trimFrequency p) s (onTrimFrequency p r s).1 := by
  unfold onTrimFrequency
  split
  · exact Comes.of_alike (.refl s)
  · rename_i href
    have hready := State.ready_of_trimRefusal href
    dsimp only
    split
    · exact Comes.of_alike (.refl s)
    · split
      · exact Comes.of_alike (.refl s)
      · split
        · split
          · exact Comes.of_alike (.refl s)
          · exact (Does.trimFrequency p r.tag _ _ s hready (.inl ⟨‹_›, ‹_›⟩)).comes
        · split
          · exact Comes.of_alike (.refl s)
          · rename_i hen hrange
            rw [Bool.or_eq_true, decide_eq_true_eq, decide_eq_true_eq, not_or, not_lt, not_lt] at hrange
            exact (Does.trimFrequency p r.tag _ _ s hready (.inr ⟨Bool.not_eq_true _ ▸ hen, hrange⟩)).comes

theorem onRevive_comes : Comes (.revive p) s (onRevive p r s).1 := by
  unfold onRevive
  split
  · exact Comes.of_alike (.refl s)
  · split
    · exact Comes.of_alike (.refl s)
    · split
      · exact (Does.revive p r.tag _ s ‹_›).comes
      · exact Comes.of_alike (.refl s)

theorem State.editDraft_comes {c : Instr} {f : State → State × Reply} (hf : Comes c s (f s).1) :
    Comes c s (s.editDraft p f).1 := by
  unfold State.editDraft
  split
  · exact Comes.of_alike (.refl s)
  · exact hf

theorem onDraftPutEntry_comes : Comes (.draftPutEntry p) s (onDraftPutEntry p r s).1 := by
  refine State.editDraft_comes p s ?_
  split
  · exact Comes.of_alike (.refl s)
  · exact (Does.draftPutEntry p r.body s ‹_›).comes

theorem onDraftPutHeader_comes : Comes (.draftPutHeader p) s (onDraftPutHeader p r s).1 := by
  refine State.editDraft_comes p s ?_
  split
  · exact Comes.of_alike (.refl s)
  · exact (Does.draftPutHeader p r.body s ‹_›).comes

/-- A COMMIT that no check refuses finds READY and a valid draft (R98). -/
theorem State.valid_of_commitRefusal {s : State} {p : Port} {expected : Option Nat} (h : s.commitRefusal p expected = none) :
    s.ctl.state = .ready ∧ (s.drafts.get p).plan.valid = true := by
  unfold State.commitRefusal at h
  split at h
  · cases h
  · split at h
    · cases h
    · split at h
      · cases h
      · rename_i hready
        split at h
        · cases h
        · split_ifs at h with hstale hvalid
          exact ⟨not_not.mp hready, by simpa using hvalid⟩

theorem onCommit_comes : Comes (.commit p) s (onCommit p r s).1 := by
  unfold onCommit
  split
  · exact Comes.of_alike (.refl s)
  · obtain ⟨hready, hvalid⟩ := State.valid_of_commitRefusal ‹_›
    dsimp only
    exact (Does.commit p r.tag s hready hvalid).comes

theorem onPageStore_comes : Comes (.pageStore p) s (onPageStore p r s).1 := by
  unfold onPageStore
  split
  · exact Comes.of_alike (.refl s)
  · split
    · exact Comes.of_alike (.refl s)
    · split
      · exact Comes.of_alike (.refl s)
      · split
        · exact Comes.of_alike (.refl s)
        · refine (Does.pageStore p r.tag _ _ s (by simpa using ‹¬ s.memory.op.isSome = true›) ?_).comes
          split
          · exact .inl rfl
          · exact .inr rfl

theorem onPageLoad_comes : Comes (.pageLoad p) s (onPageLoad p r s).1 := by
  unfold onPageLoad
  split
  · exact Comes.of_alike (.refl s)
  · split
    · exact Comes.of_alike (.refl s)
    · split
      · exact Comes.of_alike (.refl s)
      · exact Comes.of_alike (.refl s)
      · exact (Does.pageLoad p r.tag _ s (by simpa using ‹¬ s.memory.op.isSome = true›)).comes

theorem onPageErase_comes : Comes (.pageErase p) s (onPageErase p r s).1 := by
  unfold onPageErase
  split
  · exact Comes.of_alike (.refl s)
  · split
    · exact Comes.of_alike (.refl s)
    · split
      · exact Comes.of_alike (.refl s)
      · exact (Does.pageErase p r.tag _ s (by simpa using ‹¬ s.memory.op.isSome = true›)).comes

theorem onBootSet_comes : Comes (.bootSet p) s (onBootSet p r s).1 := by
  unfold onBootSet
  split
  · exact Comes.of_alike (.refl s)
  · split
    · exact Comes.of_alike (.refl s)
    · split
      · exact Comes.of_alike (.refl s)
      · split
        · exact Comes.of_alike (.refl s)
        · exact (Does.bootSet p r.tag _ _ s (by simpa using ‹¬ s.memory.op.isSome = true›)).comes

theorem onReload_comes : Comes (.reload p) s (onReload p r s).1 := by
  unfold onReload
  split
  · exact Comes.of_alike (.refl s)
  · split_ifs with hready hop
    · exact Comes.of_alike (.refl s)
    · exact Comes.of_alike (.refl s)
    · exact (Does.reload p r.tag s (not_not.mp hready) (by simpa using hop)).comes

end Handlers

/-- What the commands of the lines come to (R81, R82, R117, R133). -/
theorem execResetEnd_comes {s t : State} (h : execResetEnd s = .next t) : Comes .resetEnd s t := by
  rw [← Host.Outcome.next.inj h]
  split
  · exact ⟨s, s.comeUp, .refl s, .resetEnd s ‹_›, ⟨rfl, rfl, rfl, rfl, rfl, rfl⟩⟩
  · exact Comes.of_alike (.refl s)

theorem execInterlockAsserted_alike {s t : State} (h : execInterlockAsserted s = .next t) : s.Alike t := by
  have hline : s.Alike { s with interlock := true } := .others s _ _ _ _ _ _ _ _
  rw [← Host.Outcome.next.inj h]
  split_ifs
  · exact .refl s
  · exact hline
  · exact hline.trans (.interlockOn _)

theorem execInterlockReleased_alike {s t : State} (h : execInterlockReleased s = .next t) : s.Alike t := by
  have hline : s.Alike { s with interlock := false } := .others s _ _ _ _ _ _ _ _
  rw [← Host.Outcome.next.inj h]
  split_ifs
  · exact .refl s
  · exact hline
  · exact hline.trans (.interlockOff _)

/-- Every command comes to what it does. -/
theorem exec_comes {c : Instr} {s t : State} (h : exec c s = .next t) : Comes c s t := by
  have same {c : Instr} {p : Port} {row : RequestRow} {handler : Port → Request → State → State × Reply}
      (hh : ∀ (r : Request) (u : State), u.Alike (handler p r u).1) (h : s.take p row handler = .next t) : Comes c s t :=
    State.take_comes (fun r u => Comes.of_alike (hh r u)) h
  have port {c : Instr} (p : Port) {f : PortState → PortState} (h : s.running (fun s => s.modPort p f) = .next t) :
      Comes c s t := State.running_comes (Comes.of_alike (.modPort s p f)) h
  cases c with
  | deviceReset cause => exact Host.Outcome.next.inj h ▸ (Does.deviceReset cause s).comes
  | resetEnd => exact execResetEnd_comes h
  | interlockAsserted => exact Comes.of_alike (execInterlockAsserted_alike h)
  | interlockReleased => exact Comes.of_alike (execInterlockReleased_alike h)
  | transferBegin p => exact Comes.of_alike (Host.Outcome.next.inj h ▸ .modPort s p _)
  | transferEnd p => exact Comes.of_alike (Host.Outcome.next.inj h ▸ .modPort s p _)
  | requestFrame p f => exact port p h
  | bodyLengthAbove256 p n => exact port p h
  | responseShiftedOut p => exact port p h
  | startByte p => exact port p h
  | identify p => exact same (fun _ u => .refl u) h
  | statusRead p => exact same (fun _ u => .refl u) h
  | nop p => exact same (fun _ u => .refl u) h
  | portClear p => exact same (fun _ u => .clearPort u p) h
  | claimNormal p => exact same (State.Alike.onClaimNormal p) h
  | claimForce p => exact same (State.Alike.onClaimForce p) h
  | release p => exact same (State.Alike.onRelease p) h
  | flagsWrite p => exact same (State.Alike.onFlagsWrite p) h
  | planRead p => exact same (fun r u => .of_eq (onPlanRead_state p r u)) h
  | trimLevel p => exact State.take_comes (onTrimLevel_comes p) h
  | trimFrequency p => exact State.take_comes (onTrimFrequency_comes p) h
  | slotRead p => exact same (fun r u => .of_eq (onSlotRead_state p r u)) h
  | revive p => exact State.take_comes (onRevive_comes p) h
  | budgetRead p => exact same (fun _ u => .refl u) h
  | draftCopy p => exact State.take_comes (fun _ u => State.editDraft_comes p u (Does.draftCopy p u).comes) h
  | draftPutEntry p => exact State.take_comes (onDraftPutEntry_comes p) h
  | draftPutHeader p => exact State.take_comes (onDraftPutHeader_comes p) h
  | draftClear p => exact State.take_comes (fun _ u => State.editDraft_comes p u (Does.draftClear p u).comes) h
  | draftGet p => exact same (fun r u => .of_eq (onDraftGet_state p r u)) h
  | commit p => exact State.take_comes (onCommit_comes p) h
  | pageStore p => exact State.take_comes (onPageStore_comes p) h
  | pageLoad p => exact State.take_comes (onPageLoad_comes p) h
  | pageErase p => exact State.take_comes (onPageErase_comes p) h
  | pageInfo p => exact same (fun r u => .of_eq (onPageInfo_state p r u)) h
  | bootSet p => exact State.take_comes (onBootSet_comes p) h
  | bootRead p => exact same (fun _ u => .refl u) h
  | reload p => exact State.take_comes (onReload_comes p) h
  | counterControl p => exact same (State.Alike.onCounterControl p) h
  | counterRead p => exact same (State.Alike.onCounterRead p) h
  | eventRead p => exact same (State.Alike.onEventRead p) h
  | unknownRequest p => exact same (fun _ u => .refl u) h
  | levelIntervalExpiry order =>
    exact State.running_comes (f := fun s => s.expireInterval order) (Does.levelIntervalExpiry order s).comes h
  | settlingComplete i =>
    exact State.running_comes (f := fun s => s.modExtraction i fun x => { x with settling := none })
      (Comes.of_alike (.modExtraction s i _)) h
  | holdTimerExpiry i => exact State.running_comes (Does.holdTimerExpiry i s).comes h
  | reacquireTimerExpiry i => exact State.running_comes (Does.reacquireTimerExpiry i s).comes h
  | riseCompletion i =>
    exact State.running_comes (f := fun s => s.completeRise i) (Does.riseCompletion i s).comes h
  | fallCompletion i =>
    refine State.running_comes ?_ h
    split
    · rename_i hfall
      rw [Bool.and_eq_true, decide_eq_true_eq] at hfall
      obtain ⟨hstate, -⟩ := hfall
      exact (Does.fallCompletion i s hstate).comes
    · exact Comes.of_alike (.refl s)
  | resumingRampCompletion =>
    refine State.running_comes (Comes.of_alike ?_) h
    split
    · exact (State.Alike.modCombiner s _).trans (.write _ _)
    · exact .refl s
  | leaseExpiry =>
    refine State.running_comes (Comes.of_alike ?_) h
    split
    · exact .lapse s
    · exact .refl s
  | contestTimerExpiry =>
    refine State.running_comes (Comes.of_alike ?_) h
    split
    · exact (State.Alike.modArbiter s _).trans (.write _ _)
    · exact .refl s
  | forceWindowExpiry =>
    exact State.running_comes (f := fun s => s.modArbiter fun a => { a with forceWindow := none })
      (Comes.of_alike (.modArbiter s _)) h
  | storeEraseDone => exact State.running_comes (Does.storeEraseDone s).comes h
  | storeProgramDone => exact State.running_comes (Does.storeProgramDone s).comes h
  | storeVerifyDone intact =>
    exact State.running_comes (f := fun s => s.storeVerified intact) (Does.storeVerifyDone intact s).comes h
  | pageEraseDone => exact State.running_comes (Does.pageEraseDone s).comes h
  | pageLoadReadDone intact =>
    exact State.running_comes (f := fun s => s.pageLoaded intact) (Does.pageLoadReadDone intact s).comes h
  | bootWriteDone intact =>
    exact State.running_comes (f := fun s => s.bootWritten intact) (Does.bootWriteDone intact s).comes h
  | startUpReadEnd x y =>
    rcases State.running_cases (f := fun s => s.startUpEnd x y) h with rfl | ⟨hreset, rfl⟩
    · exact Comes.of_alike (.refl _)
    · exact (Does.startUpReadEnd x y s hreset).comes
  | reloadReadEnd x y =>
    exact State.running_comes (f := fun s => s.reloadEnd x y) (Does.reloadReadEnd x y s).comes h

end Sys2Proof.Machine

namespace Sys2Proof.Machine

/-! ### What the slots' own actions and orders keep (R71 to R74, R87) -/

/-- The state t has the reset, the Controller, the drafts, Plan Memory, E and the hold of s, a share in force of t is that of
s or its active entry's, and while the Allocator is held no grant of t is above that of s: what the slots' actions and the
orders to them keep. -/
structure State.SlotsAct (s t : State) : Prop where
  inReset : t.inReset = s.inReset
  ctl : t.ctl = s.ctl
  drafts : t.drafts = s.drafts
  memory : t.memory = s.memory
  pool : t.alloc.pool = s.alloc.pool
  held : t.alloc.held = s.alloc.held
  shares : ∀ i : SlotIx, t.alloc.table[i].share = s.alloc.table[i].share
    ∨ t.alloc.table[i].share = s.ctl.active.entries[i].share
  grants : s.alloc.held = true → ∀ i : SlotIx, t.alloc.table[i].grant ≤ s.alloc.table[i].grant

namespace State.SlotsAct

theorem refl (s : State) : s.SlotsAct s := ⟨rfl, rfl, rfl, rfl, rfl, rfl, fun _ => .inl rfl, fun _ _ => le_refl _⟩

variable {s t u : State}

theorem trans (h : s.SlotsAct t) (h' : t.SlotsAct u) : s.SlotsAct u where
  inReset := h'.inReset.trans h.inReset
  ctl := h'.ctl.trans h.ctl
  drafts := h'.drafts.trans h.drafts
  memory := h'.memory.trans h.memory
  pool := h'.pool.trans h.pool
  held := h'.held.trans h.held
  shares i := by
    rcases h'.shares i with e | e
    · rw [e]
      exact h.shares i
    · rw [e, h.ctl]
      exact .inr rfl
  grants hheld i := (h'.grants (h.held.trans hheld) i).trans (h.grants hheld i)

/-- What leaves the Allocator alone. -/
theorem update (h : s.SlotsAct t) (slots : PerSlot Slot) (extractions : PerSlot Extraction)
    (placements : PerSlot Placement) (ring : Ring) (counters : CounterBank) : s.SlotsAct { t with
      slots := slots, extractions := extractions, placements := placements, ring := ring, counters := counters } :=
  h.trans ⟨rfl, rfl, rfl, rfl, rfl, rfl, fun _ => .inl rfl, fun _ _ => le_refl _⟩

theorem modSlot (h : s.SlotsAct t) (i : SlotIx) (f : Slot → Slot) : s.SlotsAct (t.modSlot i f) := h.update _ _ _ _ _

theorem modExtraction (h : s.SlotsAct t) (i : SlotIx) (f : Extraction → Extraction) : s.SlotsAct (t.modExtraction i f) :=
  h.update _ _ _ _ _

theorem write (h : s.SlotsAct t) (n : Notice) : s.SlotsAct (t.write n) := h.update _ _ _ _ _

theorem writeOpt (h : s.SlotsAct t) (n : Option Notice) : s.SlotsAct (t.writeOpt n) := by
  cases n with
  | none => exact h
  | some n => exact h.write n

theorem count (h : s.SlotsAct t) (k : SlotKind) (i : SlotIx) : s.SlotsAct (t.count k i) := by
  obtain ⟨c, r, e⟩ := t.count_frame k i
  exact e ▸ h.update _ _ _ _ _

theorem flipSource (h : s.SlotsAct t) (i : SlotIx) (cause : Cause) : s.SlotsAct (t.flipSource i cause) := by
  obtain ⟨x, c, r, e⟩ := t.flipSource_frame i cause
  exact e ▸ h.update _ _ _ _ _

theorem loseCarrier (h : s.SlotsAct t) (i : SlotIx) (cause : Cause) : s.SlotsAct (t.loseCarrier i cause) := by
  obtain ⟨sl, x, c, r, e⟩ := t.loseCarrier_frame i cause
  exact e ▸ h.update _ _ _ _ _

/-- A grant recorded as 0 is no greater. -/
theorem releaseGrant (h : s.SlotsAct t) (i : SlotIx) : s.SlotsAct (t.releaseGrant i) := by
  have hrec (j : SlotIx) : (t.releaseGrant i).alloc.table[j].share = t.alloc.table[j].share
      ∧ (t.releaseGrant i).alloc.table[j].grant ≤ t.alloc.table[j].grant := by
    show (t.alloc.table.set i { t.alloc.table[i] with grant := 0, target := none })[j].share = _
      ∧ (t.alloc.table.set i { t.alloc.table[i] with grant := 0, target := none })[j].grant ≤ _
    rw [PerSlot.getElem_set]
    split
    · subst j
      exact ⟨rfl, Nat.zero_le _⟩
    · exact ⟨rfl, le_refl _⟩
  exact h.trans ⟨rfl, rfl, rfl, rfl, rfl, rfl, fun j => .inl (hrec j).1, fun _ j => (hrec j).2⟩

theorem enterRising (h : s.SlotsAct t) (i : SlotIx) : s.SlotsAct (t.enterRising i) := h.modSlot i _

theorem enterDeferred (h : s.SlotsAct t) (i : SlotIx) (cause : Cause) : s.SlotsAct (t.enterDeferred i cause) :=
  ((h.modSlot i _).releaseGrant i).write _

theorem enterFalling (h : s.SlotsAct t) (i : SlotIx) (dest : FallDest) : s.SlotsAct (t.enterFalling i dest) :=
  (h.modSlot i _).releaseGrant i

theorem enterOff (h : s.SlotsAct t) (i : SlotIx) : s.SlotsAct (t.enterOff i) := (h.modSlot i _).releaseGrant i

/-- While the Allocator is held an event that starts a run makes it pending alone (R73). -/
theorem startRun (h : s.SlotsAct t) : s.SlotsAct t.startRun := by
  unfold State.startRun
  split
  · exact h.trans ⟨rfl, rfl, rfl, rfl, rfl, rfl, fun _ => .inl rfl, fun _ _ => le_refl _⟩
  · rename_i hfree
    have hshare (i : SlotIx) : (t.run false).alloc.table[i].share = t.ctl.active.entries[i].share := by
      rw [State.run_table, State.runTable_getElem]
      rfl
    obtain ⟨sl, tb, r, e⟩ := t.run_frame false
    rw [e] at hshare ⊢
    exact h.trans ⟨rfl, rfl, rfl, rfl, rfl, rfl, fun i => .inr (hshare i), fun hheld => absurd hheld hfree⟩

theorem enterFailed (h : s.SlotsAct t) (i : SlotIx) : s.SlotsAct (t.enterFailed i) :=
  (((h.modSlot i _).releaseGrant i).write _).startRun

theorem reviveSlot (h : s.SlotsAct t) (i : SlotIx) (port : Option Port) (tag : Option Byte) (cause : Cause) :
    s.SlotsAct (t.reviveSlot i port tag cause) :=
  (((((h.modSlot i _).modExtraction i _).modSlot i _).releaseGrant i).startRun).write _

theorem attempt (h : s.SlotsAct t) (i : SlotIx) : s.SlotsAct (t.attempt i) := by
  unfold State.attempt
  dsimp only
  split
  · exact ((h.modSlot i _).count .attempts i).enterFailed i
  · exact (((h.modSlot i _).count .attempts i).flipSource i _).modSlot i _

theorem adjustLimit (h : s.SlotsAct t) (i : SlotIx) (limit : Nat) : s.SlotsAct (t.adjustLimit i limit) := by
  unfold State.adjustLimit
  split
  · split
    · exact h.reviveSlot i _ _ _
    · exact h.modSlot i _
  · split
    · exact h.modSlot i _
    · exact h

theorem act (h : s.SlotsAct t) (i : SlotIx) (level : Int) : s.SlotsAct (t.act i level) := by
  unfold State.act State.levelLoop State.carrierAbsentOn State.regain
  dsimp only
  split
  · split
    · split
      · exact h.count _ _
      · exact h.modSlot i _
    · split
      · exact h.loseCarrier i _
      · exact h.modSlot i _
  · split
    · exact (h.modSlot i _).count _ _
    · exact h
  · split
    · exact h
    · exact (h.count _ _).loseCarrier i _
  · split
    · split
      · exact (h.enterRising i).write _
      · exact h.enterDeferred i _
    · exact h
  all_goals exact h

theorem holdOut (h : s.SlotsAct t) (i : SlotIx) : s.SlotsAct (t.holdOut i) := by
  unfold State.holdOut
  split
  · exact h.loseCarrier i _
  · exact h

theorem reacquireOut (h : s.SlotsAct t) (i : SlotIx) : s.SlotsAct (t.reacquireOut i) := by
  unfold State.reacquireOut
  split
  · exact h.attempt i
  · exact h

theorem completeRise (h : s.SlotsAct t) (i : SlotIx) : s.SlotsAct (t.completeRise i) := h.modSlot i _

/-- The actions of a level interval expiry but for the combiner's judging. -/
theorem turn (h : s.SlotsAct t) (ms : PerSlot (Option (Int × Source))) {a : Turn} (ha : a ≠ .combiner) :
    s.SlotsAct (t.turn ms a) := by
  cases a with
  | judge i =>
    simp only [State.turn]
    unfold State.takeMeasurement
    split
    · exact h
    · split
      · exact h.act i _
      · exact h
  | combiner => exact absurd rfl ha
  | holdOut i => exact h.holdOut i
  | reacquireOut i => exact h.reacquireOut i

theorem raiseOrder (h : s.SlotsAct t) (i : SlotIx) : s.SlotsAct (t.raiseOrder i) := h.update _ _ _ _ _

theorem levelOnly (h : s.SlotsAct t) (old : Plan) (i : SlotIx) : s.SlotsAct (State.levelOnly old t i) := by
  unfold State.levelOnly
  dsimp only
  split
  · exact h.modSlot i _
  · exact (h.modSlot i _).adjustLimit i _

theorem drainOrder (h : s.SlotsAct t) (i : SlotIx) : s.SlotsAct (t.drainOrder i) := by
  unfold State.drainOrder
  split
  iterate 3 exact h.enterFalling i _
  · exact h.modSlot i _
  iterate 3 exact h.enterOff i
  · exact h

theorem foldl {α : Type} (h : s.SlotsAct t) {f : State → α → State} (hf : ∀ {u : State} (a : α), s.SlotsAct u →
    s.SlotsAct (f u a)) (l : List α) : s.SlotsAct (l.foldl f t) :=
  foldl_keeps s.SlotsAct f (fun _ a hu => hf a hu) l t h

theorem sendOrders (h : s.SlotsAct t) (old : Plan) (drain cut : PerSlot Bool) : s.SlotsAct (t.sendOrders old drain cut) :=
  ((h.foldl (fun i hu => hu.levelOnly old i) _).foldl (fun i hu => hu.enterOff i) _).foldl (fun i hu => hu.drainOrder i) _

end State.SlotsAct

/-! ### What the operations that end or begin no change keep (R28, R87, R107) -/

/-- The state t has the reset, the active plan, the generation, the drafts, Plan Memory and E of s, and no other incoming
plan. -/
structure State.KeepsRecords (s t : State) : Prop where
  inReset : t.inReset = s.inReset
  active : t.ctl.active = s.ctl.active
  generation : t.ctl.generation = s.ctl.generation
  incoming : t.ctl.incoming = s.ctl.incoming ∨ t.ctl.incoming = none
  drafts : t.drafts = s.drafts
  memory : t.memory = s.memory
  pool : t.alloc.pool = s.alloc.pool

namespace State.KeepsRecords

variable {s t u : State}

theorem trans (h : s.KeepsRecords t) (h' : t.KeepsRecords u) : s.KeepsRecords u where
  inReset := h'.inReset.trans h.inReset
  active := h'.active.trans h.active
  generation := h'.generation.trans h.generation
  incoming := h'.incoming.elim (fun e => e ▸ h.incoming) .inr
  drafts := h'.drafts.trans h.drafts
  memory := h'.memory.trans h.memory
  pool := h'.pool.trans h.pool

theorem of_slotsAct (h : s.SlotsAct t) : s.KeepsRecords t :=
  ⟨h.inReset, by rw [h.ctl], by rw [h.ctl], .inl (by rw [h.ctl]), h.drafts, h.memory, h.pool⟩

theorem write (h : s.KeepsRecords t) (n : Notice) : s.KeepsRecords (t.write n) :=
  h.trans (of_slotsAct ((SlotsAct.refl t).write n))

theorem releaseWithRaise (h : s.KeepsRecords t) : s.KeepsRecords t.releaseWithRaise := by
  obtain ⟨sl, tb, b, b', r, e⟩ := t.releaseWithRaise_frame
  rw [e]
  exact h.trans ⟨rfl, rfl, rfl, .inl rfl, rfl, rfl, rfl⟩

theorem releaseWithoutRaise (h : s.KeepsRecords t) : s.KeepsRecords t.releaseWithoutRaise := by
  obtain ⟨sl, tb, b, b', r, e⟩ := t.releaseWithoutRaise_frame
  rw [e]
  exact h.trans ⟨rfl, rfl, rfl, .inl rfl, rfl, rfl, rfl⟩

theorem endChange (h : s.KeepsRecords t) : s.KeepsRecords t.endChange :=
  h.trans ⟨rfl, rfl, rfl, .inr rfl, rfl, rfl, rfl⟩

/-- Raise orders, the release with its run, and READY (R107, R127). -/
theorem raiseAll (h : s.KeepsRecords t) (l : List SlotIx) :
    s.KeepsRecords ((l.foldl State.raiseOrder t).releaseWithRaise).endChange :=
  ((h.trans (of_slotsAct ((SlotsAct.refl t).foldl (fun i hu => hu.raiseOrder i) l))).releaseWithRaise).endChange

theorem raise (h : s.KeepsRecords t) : s.KeepsRecords t.raise := by
  have hstate : s.KeepsRecords (t.modCtl fun c => { c with state := .raising }) :=
    h.trans ⟨rfl, rfl, rfl, .inl rfl, rfl, rfl, rfl⟩
  exact (hstate.raiseAll _).trans (of_slotsAct ((SlotsAct.refl _).writeOpt _))

theorem raiseIfDrained (h : s.KeepsRecords t) : s.KeepsRecords t.raiseIfDrained := by
  unfold State.raiseIfDrained
  split
  · exact h.raise
  · exact h

theorem completeFall (h : s.KeepsRecords t) (i : SlotIx) : s.KeepsRecords (t.completeFall i) := by
  have hoff : s.KeepsRecords (t.enterOff i) := h.trans (of_slotsAct ((SlotsAct.refl t).enterOff i))
  unfold State.completeFall
  split
  · exact h.trans (of_slotsAct (((SlotsAct.refl t).modSlot i _).enterDeferred i _))
  all_goals
    dsimp only
    split
    · exact State.KeepsRecords.raiseIfDrained (hoff.trans ⟨rfl, rfl, rfl, .inl rfl, rfl, rfl, rfl⟩)
    · exact hoff

theorem awaitFalls (h : s.KeepsRecords t) (drain : PerSlot Bool) : s.KeepsRecords (t.awaitFalls drain) := by
  unfold State.awaitFalls
  generalize Vector.ofFn (fun i => drain[i] && t.slots[i].state = .falling) = awaiting
  exact h.trans ⟨rfl, rfl, rfl, .inl rfl, rfl, rfl, rfl⟩

/-- An installation keeps what the taking of the plan leaves (R100). -/
theorem install (s : State) (pl : Plan) (c : Change) : (s.takePlan pl c).KeepsRecords (s.install pl c) := by
  unfold State.install
  dsimp only
  refine ((of_slotsAct ?_).awaitFalls _).raiseIfDrained
  exact ((SlotsAct.refl _).writeOpt _).sendOrders _ _ _

/-- A level interval expiry keeps all of these but E. -/
theorem expireInterval (s : State) (order : List Turn) : (s.expireInterval order).ctl = s.ctl
    ∧ (s.expireInterval order).inReset = s.inReset ∧ (s.expireInterval order).drafts = s.drafts
    ∧ (s.expireInterval order).memory = s.memory := by
  have h := (s.expireInterval_within order).frame
  rw [h]
  exact ⟨rfl, rfl, rfl, rfl⟩

end State.KeepsRecords

/-! ### What Plan Memory's operations and the drafts leave alone -/

/-- The two states agree on the reset, the slots, the Allocator and the Controller, and the engine of t reads the boot pages
only if that of s does. -/
structure State.EngineActs (s t : State) : Prop where
  inReset : t.inReset = s.inReset
  slots : t.slots = s.slots
  alloc : t.alloc = s.alloc
  ctl : t.ctl = s.ctl
  startingUp : t.memory.startingUp = true → s.memory.startingUp = true
  reloading : t.memory.reloading = true → s.memory.reloading = true

namespace State.EngineActs

theorem refl (s : State) : s.EngineActs s := ⟨rfl, rfl, rfl, rfl, id, id⟩

/-- An operation that is no read of the boot pages, or none. -/
theorem of_frame (s : State) (memory : Memory) (drafts : PerPort Draft) (ring : Ring) (hstart : memory.startingUp = false)
    (hreload : memory.reloading = false) : s.EngineActs { s with memory := memory, drafts := drafts, ring := ring } :=
  ⟨rfl, rfl, rfl, rfl, fun h => absurd (hstart.symm.trans h) Bool.false_ne_true,
    fun h => absurd (hreload.symm.trans h) Bool.false_ne_true⟩

variable (s : State)

theorem storeErased : s.EngineActs s.storeErased := by
  unfold State.storeErased
  split
  · exact of_frame s _ _ _ rfl rfl
  · exact refl s

theorem storeProgrammed : s.EngineActs s.storeProgrammed := by
  unfold State.storeProgrammed
  split
  · exact of_frame s _ _ _ rfl rfl
  · exact refl s

theorem storeVerified (intact : Bool) : s.EngineActs (s.storeVerified intact) := by
  unfold State.storeVerified
  split
  · split <;> exact of_frame s _ _ _ rfl rfl
  · exact refl s

theorem pageErased : s.EngineActs s.pageErased := by
  unfold State.pageErased
  split
  · exact of_frame s _ _ _ rfl rfl
  · exact refl s

theorem pageLoaded (intact : Bool) : s.EngineActs (s.pageLoaded intact) := by
  unfold State.pageLoaded
  split
  · split <;> exact of_frame s _ _ _ rfl rfl
  · exact refl s

theorem bootWritten (intact : Bool) : s.EngineActs (s.bootWritten intact) := by
  unfold State.bootWritten
  split
  · split <;> exact of_frame s _ _ _ rfl rfl
  · exact refl s

theorem endRead (o : BootOutcome) : s.EngineActs (s.endRead o) := of_frame s _ _ _ rfl rfl

end State.EngineActs

end Sys2Proof.Machine

namespace Sys2Proof.Machine

/-! ### Valid plans (R30, R34, R35) -/

theorem Plan.valid_iff (pl : Plan) : pl.valid = true ↔ pl.inRange = true ∧ pl.report = none := by
  simp [Plan.valid]

theorem Plan.inRange_iff (pl : Plan) :
    pl.inRange = true ↔ pl.header.inRange = true ∧ ∀ i : SlotIx, pl.entries[i].inRange = true := by
  simp [Plan.inRange, mem_allSlots, -Fin.getElem_fin]

theorem Header.centres_of_inRange {h : Header} (hh : h.inRange = true) :
    (100000 ≤ h.rxCentre ∧ h.rxCentre ≤ 5900000) ∧ 100000 ≤ h.txCentre ∧ h.txCentre ≤ 5900000 := by
  simp only [Header.inRange, Bool.and_eq_true, decide_eq_true_eq] at hh
  obtain ⟨⟨⟨⟨⟨⟨⟨⟨⟨hrx, htx⟩, -⟩, -⟩, -⟩, -⟩, -⟩, -⟩, -⟩, -⟩ := hh
  exact ⟨hrx, htx⟩

theorem Entry.inRange_iff (e : Entry) : e.inRange = true ↔ e.rxKhz ≤ 6000000 ∧ e.txKhz ≤ 6000000
    ∧ (∀ f ∈ e.altRxKhz, f ≤ 6000000) ∧ e.share ≤ 1024 ∧ (-200 ≤ e.threshold ∧ e.threshold ≤ -20)
    ∧ e.reacquireLimit ≤ 15 ∧ labelInRange e.label = true := by
  simp only [Entry.inRange, Bool.and_eq_true, decide_eq_true_eq, Option.all_eq_true, and_assoc]
  exact Iff.rfl

/-- The entries of a plan with one changed. -/
def Plan.setEntry (pl : Plan) (i : SlotIx) (e : Entry) : Plan := { pl with entries := pl.entries.set i e }

theorem Plan.setEntry_entries (pl : Plan) (i j : SlotIx) (e : Entry) :
    (pl.setEntry i e).entries[j] = if j = i then e else pl.entries[j] := PerSlot.getElem_set _ _ _ _

theorem Plan.setEntry_inRange {pl : Plan} (h : pl.inRange = true) (i : SlotIx) {e : Entry} (he : e.inRange = true) :
    (pl.setEntry i e).inRange = true := by
  obtain ⟨hheader, hentries⟩ := pl.inRange_iff.mp h
  exact (Plan.inRange_iff _).mpr ⟨hheader, PerSlot.forall_set (P := fun e : Entry => e.inRange = true) i hentries he⟩

/-- The share of an entry is in no placement test, and a trimmed one is in its range (R35). -/
theorem Plan.valid_setShare {pl : Plan} (h : pl.valid = true) (i : SlotIx) {share : Nat} (hshare : share ≤ 1024) :
    (pl.setEntry i { pl.entries[i] with share := share }).valid = true := by
  obtain ⟨hrange, hreport⟩ := pl.valid_iff.mp h
  obtain ⟨-, hentries⟩ := pl.inRange_iff.mp hrange
  obtain ⟨hrx, htx, halt, -, hrest⟩ := (Entry.inRange_iff _).mp (hentries i)
  refine (Plan.valid_iff _).mpr
    ⟨Plan.setEntry_inRange hrange i ((Entry.inRange_iff _).mpr ⟨hrx, htx, halt, hshare, hrest⟩), ?_⟩
  have hsame (j : SlotIx) : ∃ n, (pl.setEntry i { pl.entries[i] with share := share }).entries[j]
      = { pl.entries[j] with share := n } := by
    rw [Plan.setEntry_entries]
    split
    · subst j; exact ⟨share, rfl⟩
    · exact ⟨pl.entries[j].share, rfl⟩
  rw [Plan.report_eq_none_iff] at hreport ⊢
  intro j hj
  obtain ⟨n, hn⟩ := hsame j
  rw [hn] at hj
  obtain ⟨h1, h2, h3, h4, h5⟩ := hreport j hj
  unfold Plan.RxOk Plan.TxOk Plan.AltBandOk Plan.AltDiffers Plan.Apart
  rw [hn]
  refine ⟨h1, h2, h3, h4, fun k hjk hk => ?_⟩
  obtain ⟨m, hm⟩ := hsame k
  rw [hm] at hk ⊢
  exact h5 k hjk hk

/-- What the result check of a TRIM FREQUENCY says when it passes (R34). -/
theorem trimReport_passes {pl : Plan} {i : SlotIx} {tx : Int} (h : trimReport pl i tx = none) :
    inBand tx pl.header.txCentre pl.entries[i].bwClass
    ∧ ∀ j : SlotIx, j ≠ i → pl.entries[j].enabled = true →
      apart pl.header.guardKhz tx pl.entries[i].bwClass pl.entries[j].txKhz pl.entries[j].bwClass := by
  unfold trimReport at h
  split_ifs at h with hband
  refine ⟨by simpa [bandTest, -Fin.getElem_fin] using hband, fun j hj hen => ?_⟩
  have hnone := List.find?_eq_none.mp (Option.map_eq_none_iff.mp h) j (mem_allSlots j)
  simpa [hj, hen, spacingTest, -Fin.getElem_fin] using hnone

/-- An admitted transmit frequency lies in 0 to 6,000,000 (R25, R34). -/
theorem Plan.AdmitsTx.bounds {pl : Plan} {i : SlotIx} {tx : Int} (h : pl.AdmitsTx i tx) (hrange : pl.inRange = true) :
    0 ≤ tx ∧ tx ≤ 6000000 := by
  rcases h with ⟨-, hreport⟩ | ⟨-, hbounds⟩
  · obtain ⟨hheader, -⟩ := pl.inRange_iff.mp hrange
    obtain ⟨-, hlo, hhi⟩ := Header.centres_of_inRange hheader
    obtain ⟨hband, -⟩ := trimReport_passes hreport
    unfold inBand at hband
    omega
  · exact hbounds

/-- An entry that takes an admitted transmit frequency leaves its plan valid (R34). -/
theorem Plan.valid_setTx {pl : Plan} (h : pl.valid = true) {i : SlotIx} {tx : Int} (htx : pl.AdmitsTx i tx) :
    (pl.setEntry i { pl.entries[i] with txKhz := tx.toNat }).valid = true := by
  obtain ⟨hrange, hreport⟩ := pl.valid_iff.mp h
  obtain ⟨-, hentries⟩ := pl.inRange_iff.mp hrange
  obtain ⟨hrx, -, hrest⟩ := (Entry.inRange_iff _).mp (hentries i)
  obtain ⟨h0, h1⟩ := htx.bounds hrange
  refine (Plan.valid_iff _).mpr
    ⟨Plan.setEntry_inRange hrange i ((Entry.inRange_iff _).mpr ⟨hrx, by dsimp only; omega, hrest⟩), ?_⟩
  have hcast : ((tx.toNat : Nat) : Int) = tx := Int.toNat_of_nonneg h0
  have hself : (pl.setEntry i { pl.entries[i] with txKhz := tx.toNat }).entries[i]
      = { pl.entries[i] with txKhz := tx.toNat } := PerSlot.getElem_set_self _ _ _
  have hother {j : SlotIx} (hj : j ≠ i) : (pl.setEntry i { pl.entries[i] with txKhz := tx.toNat }).entries[j]
      = pl.entries[j] := PerSlot.getElem_set_ne _ _ hj
  have hclear {j : SlotIx} (hj : j ≠ i) (heni : pl.entries[i].enabled = true) (hen : pl.entries[j].enabled = true) :
      apart pl.header.guardKhz tx pl.entries[i].bwClass pl.entries[j].txKhz pl.entries[j].bwClass := by
    rcases htx with ⟨-, hpass⟩ | ⟨hdis, -⟩
    · exact (trimReport_passes hpass).2 j hj hen
    · rw [heni] at hdis; cases hdis
  rw [Plan.report_eq_none_iff] at hreport ⊢
  unfold Plan.RxOk Plan.TxOk Plan.AltBandOk Plan.AltDiffers Plan.Apart
  intro j hj
  by_cases hji : j = i
  · subst hji
    rw [hself] at hj ⊢
    obtain ⟨h1, -, h3, h4, -⟩ := hreport j hj
    refine ⟨h1, ?_, h3, h4, fun k hjk hk => ?_⟩
    · rcases htx with ⟨-, hpass⟩ | ⟨hdis, -⟩
      · dsimp only
        rw [hcast]
        exact (trimReport_passes hpass).1
      · rw [hj] at hdis; cases hdis
    · rw [hother (Ne.symm hjk)] at hk ⊢
      dsimp only
      rw [hcast]
      exact hclear (Ne.symm hjk) hj hk
  · rw [hother hji] at hj ⊢
    obtain ⟨h1, h2, h3, h4, h5⟩ := hreport j hj
    refine ⟨h1, h2, h3, h4, fun k hjk hk => ?_⟩
    by_cases hki : k = i
    · subst hki
      rw [hself] at hk ⊢
      dsimp only
      rw [hcast]
      exact apart_symm (hclear hji hk hj)
    · rw [hother hki] at hk ⊢
      exact h5 k hjk hk

theorem trimmedShare_le (share : Nat) (delta : Int) : trimmedShare share delta ≤ 1024 := by
  unfold trimmedShare clampInt
  omega

/-- A TRIM LEVEL before its run: the entry trimmed and the event written (R35, R39). -/
def State.trimmedLevel (s : State) (p : Port) (tag : Byte) (i : SlotIx) (delta : Int) : State :=
  (s.trimEntry i fun e => { e with share := trimmedShare (s.share i) delta }).write
    { kind := .trim, slot := some i, port := some p, tag := some tag, value1 := some (trimmedShare (s.share i) delta)
      value2 := some delta, cause := some .level }

theorem State.trimLevel_eq (s : State) (p : Port) (tag : Byte) (i : SlotIx) (delta : Int) :
    s.trimLevel p tag i delta = (s.trimmedLevel p tag i delta).startRun := rfl

/-- The Controller after a TRIM LEVEL (R28, R35). -/
theorem State.trimLevel_ctl (s : State) (p : Port) (tag : Byte) (i : SlotIx) (delta : Int) :
    (s.trimLevel p tag i delta).ctl = { s.ctl with
      active := s.ctl.active.setEntry i { s.ctl.active.entries[i] with share := trimmedShare (s.share i) delta }
      generation := nextGeneration s.ctl.generation } := by
  rw [State.trimLevel_eq, (State.SlotsAct.refl (s.trimmedLevel p tag i delta)).startRun.ctl]
  rfl

/-- The Controller after a TRIM FREQUENCY (R28, R36). -/
theorem State.trimFrequency_ctl (s : State) (p : Port) (tag : Byte) (i : SlotIx) (delta : Int) :
    (s.trimFrequency p tag i delta).ctl = { s.ctl with
      active := s.ctl.active.setEntry i
        { s.ctl.active.entries[i] with txKhz := ((s.ctl.active.entries[i].txKhz : Int) + delta).toNat }
      generation := nextGeneration s.ctl.generation } := rfl

/-! ### The ends of the reads of the boot pages (R111, R125, R127, R130) -/

/-- A page yields a record only when it is valid (R125). -/
theorem Page.try_valid {x : Page} {intact : Bool} {pl : Plan} (h : (x.try intact).record = some pl) :
    pl.valid = true := by
  unfold Page.try at h
  split at h
  · cases h
  · cases h
  · split at h
    · cases h
    · split at h
      · obtain rfl := Option.some.inj h
        assumption
      · cases h

/-- So does the whole read. -/
theorem Memory.readBootPages_valid {m : Memory} {origin : BootOrigin} {x y : Bool} {pl : Plan}
    (h : (m.readBootPages origin x y).2 = some pl) : pl.valid = true := by
  obtain ⟨-, -, hnone, hsome⟩ := m.readBootPages_chooses origin x y
  rcases hb : readBoot m.boot with _ | ⟨pr, fb⟩
  · obtain ⟨-, -, -, -, -, hrecord⟩ := hnone hb
    rw [hrecord] at h
    cases h
  · obtain ⟨first, hprimary, hfirst, halone, hfallback⟩ := hsome pr fb hb
    obtain ⟨-, -, htry⟩ := hprimary.eq_try
    rcases first with _ | pl'
    · rcases fb with _ | f
      · obtain ⟨hrecord, -⟩ := halone rfl rfl
        rw [hrecord] at h
        cases h
      · obtain ⟨htried, -⟩ := hfallback f rfl rfl
        obtain ⟨-, -, htry'⟩ := htried.eq_try
        exact Page.try_valid (htry'.symm.trans h)
    · obtain ⟨hrecord, -⟩ := hfirst pl' rfl
      obtain rfl := Option.some.inj (hrecord.symm.trans h)
      exact Page.try_valid htry.symm

/-- All that the end of a start-up read can do: it installs a valid plan, or releases the Allocator (R127). -/
theorem State.startUpEnd_cases (s : State) (x y : Bool) :
    s.startUpEnd x y = s
    ∨ ∃ item o, s.memory.op = some (.startUpRead item)
      ∧ ((∃ pl, pl.valid = true ∧ s.startUpEnd x y = ((s.endRead o).startUpInstall pl).writeStarted o)
        ∨ s.startUpEnd x y = ((s.endRead o).releaseWithoutRaise.endChange).writeStarted o) := by
  by_cases hop : ∃ item, s.memory.op = some (.startUpRead item)
  · obtain ⟨item, hop⟩ := hop
    rcases hread : s.memory.readBootPages .startUp (item.primaryIntact x) y with ⟨o, _ | pl⟩
    · exact .inr ⟨item, o, hop, .inr (State.startUpEnd_none hop hread)⟩
    · refine .inr ⟨item, o, hop, .inl ⟨pl, ?_, State.startUpEnd_some hop hread⟩⟩
      exact Memory.readBootPages_valid (by rw [hread])
  · refine .inl ?_
    unfold State.startUpEnd
    split
    · exact absurd ⟨_, ‹_›⟩ hop
    · rfl

/-- All that the end of a RELOAD read can do: it installs a valid plan, or returns to READY (R111, R130). -/
theorem State.reloadEnd_cases (s : State) (x y : Bool) :
    s.reloadEnd x y = s
    ∨ ∃ item p tag o, s.memory.op = some (.reloadRead item p tag)
      ∧ ((∃ pl, pl.valid = true ∧ s.reloadEnd x y = (s.endRead o).install pl (.reload p tag))
        ∨ s.reloadEnd x y = (s.endRead o).endChange.releaseWithoutRaise.writeReloadFailed p tag o) := by
  by_cases hop : ∃ item p tag, s.memory.op = some (.reloadRead item p tag)
  · obtain ⟨item, p, tag, hop⟩ := hop
    rcases hread : s.memory.readBootPages .reload (item.primaryIntact x) y with ⟨o, _ | pl⟩
    · exact .inr ⟨item, p, tag, o, hop, .inr (by simp only [State.reloadEnd, hop, hread])⟩
    · refine .inr ⟨item, p, tag, o, hop, .inl ⟨pl, ?_, by simp only [State.reloadEnd, hop, hread]⟩⟩
      exact Memory.readBootPages_valid (by rw [hread])
  · refine .inl ?_
    unfold State.reloadEnd
    split
    · exact absurd ⟨_, _, _, ‹_›⟩ hop
    · rfl

theorem State.KeepsRecords.startUpInstall (s : State) (pl : Plan) : (s.activated pl).KeepsRecords (s.startUpInstall pl) :=
  (of_slotsAct (.refl _)).raiseAll allSlots

/-! ### The active plan and the generation (R27, R28) -/

/-- What a command does to the active plan and the generation: nothing, or a change that leaves the plan valid, with the
next generation; or a start-up installation, or a device reset. -/
inductive PlanChange (c : Instr) (s t : State) : Prop where
  | same : t.ctl.active = s.ctl.active → t.ctl.generation = s.ctl.generation → PlanChange c s t
  | changed : (s.PlanValid → t.PlanValid) → t.ctl.generation = nextGeneration s.ctl.generation →
    ((∃ p, c = .commit p ∨ c = .trimLevel p ∨ c = .trimFrequency p) ∨ ∃ x y, c = .reloadReadEnd x y) → PlanChange c s t
  | startUp : t.PlanValid → t.ctl.generation = 1 → (∃ x y, c = .startUpReadEnd x y) → PlanChange c s t
  | reset : t.PlanValid → t.ctl.generation = 0 → (∃ cause, c = .deviceReset cause) → PlanChange c s t

namespace PlanChange

variable {c : Instr} {s t : State}

theorem of_ctl (h : t.ctl = s.ctl) : PlanChange c s t := .same (by rw [h]) (by rw [h])

theorem of_keeps (h : s.KeepsRecords t) : PlanChange c s t := .same h.active h.generation

theorem of_slotsAct (h : s.SlotsAct t) : PlanChange c s t := of_ctl h.ctl

theorem of_engineActs (h : s.EngineActs t) : PlanChange c s t := of_ctl h.ctl

/-- An installation makes its plan active with the next generation (R100, R111). -/
theorem install {pl : Plan} (hpl : pl.valid = true) (change : Change)
    (hc : (∃ p, c = .commit p ∨ c = .trimLevel p ∨ c = .trimFrequency p) ∨ ∃ x y, c = .reloadReadEnd x y) :
    PlanChange c s (s.install pl change) := by
  have h := State.KeepsRecords.install s pl change
  exact .changed (fun _ => by rw [State.PlanValid, h.active]; exact hpl) h.generation hc

theorem startUpEnd (s : State) (x y : Bool) : PlanChange (.startUpReadEnd x y) s (s.startUpEnd x y) := by
  rcases s.startUpEnd_cases x y with e | ⟨item, o, -, ⟨pl, hpl, e⟩ | e⟩ <;> rw [e]
  · exact .same rfl rfl
  · have h : (State.activated (s.endRead o) pl).KeepsRecords (((s.endRead o).startUpInstall pl).writeStarted o) :=
      (State.KeepsRecords.startUpInstall (s.endRead o) pl).write _
    exact .startUp (by rw [State.PlanValid, h.active]; exact hpl) h.generation ⟨x, y, rfl⟩
  · have h : (s.endRead o).KeepsRecords (((s.endRead o).releaseWithoutRaise.endChange).writeStarted o) :=
      ((State.KeepsRecords.of_slotsAct (.refl _)).releaseWithoutRaise.endChange).write _
    exact .same h.active h.generation

theorem reloadEnd (s : State) (x y : Bool) : PlanChange (.reloadReadEnd x y) s (s.reloadEnd x y) := by
  rcases s.reloadEnd_cases x y with e | ⟨item, p, tag, o, -, ⟨pl, hpl, e⟩ | e⟩ <;> rw [e]
  · exact .same rfl rfl
  · have h := State.KeepsRecords.install (s.endRead o) pl (.reload p tag)
    exact .changed (fun _ => by rw [State.PlanValid, h.active]; exact hpl) h.generation (.inr ⟨x, y, rfl⟩)
  · have h : (s.endRead o).KeepsRecords
        ((s.endRead o).endChange.releaseWithoutRaise.writeReloadFailed p tag o) :=
      ((State.KeepsRecords.of_slotsAct (.refl _)).endChange.releaseWithoutRaise).write _
    exact .same h.active h.generation

end PlanChange

theorem Does.planChange {c : Instr} {s t : State} (h : Does c s t) : PlanChange c s t := by
  cases h with
  | nothing => exact .same rfl rfl
  | deviceReset cause => exact .reset Plan.default_valid rfl ⟨cause, rfl⟩
  | resetEnd => exact .same rfl rfl
  | trimLevel p tag i delta =>
    have hctl := s.trimLevel_ctl p tag i delta
    refine .changed (fun hv => ?_) (by rw [hctl]) (.inl ⟨p, .inr (.inl rfl)⟩)
    rw [State.PlanValid, hctl]
    exact Plan.valid_setShare hv i (trimmedShare_le _ _)
  | trimFrequency p tag i delta _ _ hadmits =>
    refine .changed (fun hv => ?_) rfl (.inl ⟨p, .inr (.inr rfl)⟩)
    rw [State.PlanValid, State.trimFrequency_ctl]
    exact Plan.valid_setTx hv hadmits
  | revive p tag i => exact .of_slotsAct ((State.SlotsAct.refl s).reviveSlot i _ _ _)
  | draftCopy => exact .same rfl rfl
  | draftClear => exact .same rfl rfl
  | draftPutEntry => exact .same rfl rfl
  | draftPutHeader => exact .same rfl rfl
  | commit p tag _ _ hvalid => exact .install hvalid _ (.inl ⟨p, .inl rfl⟩)
  | pageStore => exact .same rfl rfl
  | pageLoad => exact .same rfl rfl
  | pageErase => exact .same rfl rfl
  | bootSet => exact .same rfl rfl
  | reload => exact .same rfl rfl
  | levelIntervalExpiry order => exact .of_ctl (State.KeepsRecords.expireInterval s order).1
  | holdTimerExpiry i => exact .of_slotsAct ((State.SlotsAct.refl s).holdOut i)
  | reacquireTimerExpiry i => exact .of_slotsAct ((State.SlotsAct.refl s).reacquireOut i)
  | riseCompletion i => exact .of_slotsAct ((State.SlotsAct.refl s).completeRise i)
  | fallCompletion i => exact .of_keeps ((State.KeepsRecords.of_slotsAct (.refl s)).completeFall i)
  | storeEraseDone => exact .of_engineActs (.storeErased s)
  | storeProgramDone => exact .of_engineActs (.storeProgrammed s)
  | storeVerifyDone intact => exact .of_engineActs (.storeVerified s intact)
  | pageEraseDone => exact .of_engineActs (.pageErased s)
  | pageLoadReadDone intact => exact .of_engineActs (.pageLoaded s intact)
  | bootWriteDone intact => exact .of_engineActs (.bootWritten s intact)
  | startUpReadEnd x y => exact .startUpEnd s x y
  | reloadReadEnd x y => exact .reloadEnd s x y

/-- What a command does to the plan does not depend on the blocks that `State.Alike` leaves out. -/
theorem Comes.planChange {c : Instr} {s t : State} (h : Comes c s t) : PlanChange c s t := by
  obtain ⟨u, v, hu, hdoes, hv⟩ := h
  rcases hdoes.planChange with ⟨h1, h2⟩ | ⟨h1, h2, h3⟩ | ⟨h1, h2, h3⟩ | ⟨h1, h2, h3⟩
  · exact .same (by rw [hv.ctl, h1, hu.ctl]) (by rw [hv.ctl, h2, hu.ctl])
  · refine .changed (fun hs => ?_) (by rw [hv.ctl, h2, hu.ctl]) h3
    rw [State.PlanValid, hv.ctl]
    exact h1 (by rwa [State.PlanValid, hu.ctl])
  · exact .startUp (by rwa [State.PlanValid, hv.ctl]) (by rw [hv.ctl, h2]) h3
  · exact .reset (by rwa [State.PlanValid, hv.ctl]) (by rw [hv.ctl, h2]) h3

theorem State.idle_ctl (s : State) : s.idle.ctl = s.ctl := by
  unfold State.idle
  split
  · rfl
  · split <;> rfl

theorem Comes.planValid {c : Instr} {s t : State} (h : Comes c s t) (hs : s.PlanValid) : t.PlanValid := by
  rcases h.planChange with ⟨h1, -⟩ | ⟨h1, -, -⟩ | ⟨h1, -, -⟩ | ⟨h1, -, -⟩
  · rwa [State.PlanValid, h1]
  · exact h1 hs
  · exact h1
  · exact h1

/-- Settles O9: a change of the active plan installs a validated plan or trims a valid one within its tests. -/
theorem stepKeepsActivePlanValid : Obligations.StepKeepsActivePlanValid := by
  intro s t hs ht
  rcases step_cases ht with ⟨-, rfl⟩ | ⟨c, rest, -, hc⟩
  · rwa [State.PlanValid, State.idle_ctl]
  · exact (exec_comes hc).planValid hs

end Sys2Proof.Machine

namespace Sys2Proof.Machine

/-! ### The store counts (R113, R119) -/

/-- Every page of t has its store count of s. -/
def Memory.SameCounts (m m' : Memory) : Prop := ∀ pg : PageIx, m'.pages[pg].storeCount = m.pages[pg].storeCount

/-- A change of one page that leaves its store count leaves all. -/
theorem Memory.SameCounts.setPage {m m' : Memory} {pg : PageIx} {y : Page} (h : m'.pages = m.pages.set pg y)
    (hy : y.storeCount = m.pages[pg].storeCount) : m.SameCounts m' := by
  intro i
  rw [h, PerSlot.getElem_set]
  split
  · subst i; exact hy
  · rfl

theorem Memory.SameCounts.of_pages {m m' : Memory} (h : m'.pages = m.pages) : m.SameCounts m' := fun pg => by rw [h]

theorem State.storeProgrammed_counts (s : State) : s.memory.SameCounts s.storeProgrammed.memory := by
  unfold State.storeProgrammed
  split
  · exact .of_pages rfl
  · exact .of_pages rfl

theorem State.storeVerified_counts (s : State) (intact : Bool) :
    s.memory.SameCounts (s.storeVerified intact).memory := by
  unfold State.storeVerified
  split
  · split <;> exact .setPage rfl rfl
  · exact .of_pages rfl

theorem State.pageErased_counts (s : State) : s.memory.SameCounts s.pageErased.memory := by
  unfold State.pageErased
  split
  · exact .of_pages rfl
  · exact .of_pages rfl

theorem State.pageLoaded_counts (s : State) (intact : Bool) : s.memory.SameCounts (s.pageLoaded intact).memory := by
  unfold State.pageLoaded
  split
  · split
    · exact .of_pages rfl
    · exact .setPage rfl rfl
  · exact .of_pages rfl

theorem State.bootWritten_counts (s : State) (intact : Bool) : s.memory.SameCounts (s.bootWritten intact).memory := by
  unfold State.bootWritten
  split
  · split <;> exact .of_pages rfl
  · exact .of_pages rfl

theorem State.endRead_counts (s : State) (o : BootOutcome) : s.memory.SameCounts (s.endRead o).memory := by
  intro pg
  show ((s.memory.markCorrupt _ _).markCorrupt _ _).pages[pg].storeCount = _
  rw [Memory.markCorrupt_storeCount, Memory.markCorrupt_storeCount]

/-- The end of a start-up read ends the read of Plan Memory and keeps the rest of it. -/
theorem State.startUpEnd_memory (s : State) (x y : Bool) :
    s.startUpEnd x y = s ∨ ∃ o, (s.startUpEnd x y).memory = (s.endRead o).memory := by
  rcases s.startUpEnd_cases x y with e | ⟨item, o, -, ⟨pl, -, e⟩ | e⟩
  · exact .inl e
  · rw [e]
    exact .inr ⟨o, ((State.KeepsRecords.startUpInstall (s.endRead o) pl).write _).memory⟩
  · rw [e]
    exact .inr ⟨o, (((State.KeepsRecords.of_slotsAct (.refl (s.endRead o))).releaseWithoutRaise.endChange).write _).memory⟩

/-- So does the end of a RELOAD read. -/
theorem State.reloadEnd_memory (s : State) (x y : Bool) :
    s.reloadEnd x y = s ∨ ∃ o, (s.reloadEnd x y).memory = (s.endRead o).memory := by
  rcases s.reloadEnd_cases x y with e | ⟨item, p, tag, o, -, ⟨pl, -, e⟩ | e⟩
  · exact .inl e
  · rw [e]
    exact .inr ⟨o, (State.KeepsRecords.install (s.endRead o) pl (.reload p tag)).memory⟩
  · rw [e]
    exact .inr ⟨o, (((State.KeepsRecords.of_slotsAct (.refl (s.endRead o))).endChange.releaseWithoutRaise).write _).memory⟩

/-- The end of a store's erase phase adds 1 to the count of the page being stored, up to 16,777,215 (R113, R119). -/
theorem State.storeErased_counts (s : State) (pg : PageIx) :
    s.storeErased.memory.pages[pg].storeCount = s.memory.pages[pg].storeCount
    ∨ (∃ snap p tag, s.memory.op = some (.store pg .erase snap p tag))
      ∧ s.storeErased.memory.pages[pg].storeCount = min 16777215 (s.memory.pages[pg].storeCount + 1) := by
  unfold State.storeErased
  split
  · rename_i q snap p tag hop
    have hpage : ((s.startOp (.store q .program snap p tag)).modPage q fun x =>
        { x with state := .corrupt, image := some snap.image, storeCount := min 16777215 (x.storeCount + 1) }).memory.pages[pg]
        = if pg = q then { s.memory.pages[q] with
            state := .corrupt, image := some snap.image, storeCount := min 16777215 (s.memory.pages[q].storeCount + 1) }
          else s.memory.pages[pg] := PerSlot.getElem_set _ _ _ _
    rw [hpage]
    split
    · subst pg
      exact .inr ⟨⟨snap, p, tag, hop⟩, rfl⟩
    · exact .inl rfl
  · exact .inl rfl

/-- Every command but the end of a store's erase phase keeps every store count. -/
theorem Does.counts {c : Instr} {s t : State} (h : Does c s t) (hc : c ≠ .storeEraseDone) :
    s.memory.SameCounts t.memory := by
  have keeps {u : State} (hu : s.KeepsRecords u) : s.memory.SameCounts u.memory := .of_pages (by rw [hu.memory])
  have acts {u : State} (hu : s.SlotsAct u) : s.memory.SameCounts u.memory := .of_pages (by rw [hu.memory])
  cases h with
  | nothing => exact .of_pages rfl
  | deviceReset cause => exact s.memory.afterReset_storeCount
  | resetEnd => exact .of_pages rfl
  | trimLevel p tag i delta => exact .of_pages (by rw [State.trimLevel_eq, (State.SlotsAct.refl _).startRun.memory]; rfl)
  | trimFrequency => exact .of_pages rfl
  | revive p tag i => exact acts ((State.SlotsAct.refl s).reviveSlot i _ _ _)
  | draftCopy => exact .of_pages rfl
  | draftClear => exact .of_pages rfl
  | draftPutEntry => exact .of_pages rfl
  | draftPutHeader => exact .of_pages rfl
  | commit p tag => exact .of_pages (by rw [(State.KeepsRecords.install s _ (.commit p tag)).memory]; rfl)
  | pageStore => exact .setPage rfl rfl
  | pageLoad => exact .of_pages rfl
  | pageErase => exact .setPage rfl rfl
  | bootSet => exact .of_pages rfl
  | reload => exact .of_pages rfl
  | levelIntervalExpiry order =>
    obtain ⟨-, -, -, hmemory⟩ := State.KeepsRecords.expireInterval s order
    exact .of_pages (by rw [hmemory])
  | holdTimerExpiry i => exact acts ((State.SlotsAct.refl s).holdOut i)
  | reacquireTimerExpiry i => exact acts ((State.SlotsAct.refl s).reacquireOut i)
  | riseCompletion i => exact acts ((State.SlotsAct.refl s).completeRise i)
  | fallCompletion i => exact keeps ((State.KeepsRecords.of_slotsAct (.refl s)).completeFall i)
  | storeEraseDone => exact absurd rfl hc
  | storeProgramDone => exact s.storeProgrammed_counts
  | storeVerifyDone intact => exact s.storeVerified_counts intact
  | pageEraseDone => exact s.pageErased_counts
  | pageLoadReadDone intact => exact s.pageLoaded_counts intact
  | bootWriteDone intact => exact s.bootWritten_counts intact
  | startUpReadEnd x y =>
    rcases s.startUpEnd_memory x y with e | ⟨o, e⟩ <;> rw [e]
    · exact .of_pages rfl
    · exact s.endRead_counts o
  | reloadReadEnd x y =>
    rcases s.reloadEnd_memory x y with e | ⟨o, e⟩ <;> rw [e]
    · exact .of_pages rfl
    · exact s.endRead_counts o

/-! ### E (R86, R87) -/

/-- A change of E records the new value (R72, R87). -/
theorem State.changePool_pool (s : State) (new : Nat) (n : Option Notice) : (s.changePool new n).alloc.pool = new := by
  unfold State.changePool
  split
  · exact Eq.symm ‹_›
  · exact ((State.SlotsAct.refl _).writeOpt n).startRun.pool

/-- The combiner's judging leaves E or moves it by one step (R85 to R87). -/
theorem State.judgeInterval_pool (s : State) :
    s.judgeInterval.alloc.pool = s.alloc.pool ∨ s.judgeInterval.alloc.pool = stepUp s.alloc.pool
      ∨ s.judgeInterval.alloc.pool = stepDown s.alloc.pool s.alloc.held s.grantsStanding := by
  have hjudged : (if s.overloaded then s.countOverload.onOverloaded else s.onClean).alloc.pool = s.alloc.pool
      ∨ (if s.overloaded then s.countOverload.onOverloaded else s.onClean).alloc.pool = stepUp s.alloc.pool
      ∨ (if s.overloaded then s.countOverload.onOverloaded else s.onClean).alloc.pool
        = stepDown s.alloc.pool s.alloc.held s.grantsStanding := by
    split
    · obtain ⟨c, r, e⟩ := s.countOverload_frame
      rw [e]
      unfold State.onOverloaded State.poolDown
      split
      · exact .inr (.inr (State.changePool_pool _ _ _))
      · exact .inl rfl
    · exact .inr (.inl (State.changePool_pool _ _ _))
  unfold State.judgeInterval
  dsimp only
  split
  · split
    · obtain ⟨c, r, e⟩ := (if s.overloaded then s.countOverload.onOverloaded else s.onClean).countClip_frame
      rw [e]
      exact hjudged
    · exact hjudged
  all_goals exact .inl rfl

theorem State.grantsStanding_le {s t : State} (h : ∀ i : SlotIx, t.alloc.table[i].grant ≤ s.alloc.table[i].grant) :
    t.grantsStanding ≤ s.grantsStanding := List.sum_le_sum fun i _ => h i

/-- The actions of an expiry without the combiner's judging. -/
theorem State.SlotsAct.turns (s : State) (ms : PerSlot (Option (Int × Source))) {l : List Turn} (hl : .combiner ∉ l) :
    s.SlotsAct (l.foldl (State.turn ms) s) := by
  induction l generalizing s with
  | nil => exact .refl s
  | cons a l ih =>
    rw [List.mem_cons, not_or] at hl
    obtain ⟨ha, hl⟩ := hl
    exact ((SlotsAct.refl s).turn ms (Ne.symm ha)).trans (ih _ hl)

/-- An expiry leaves E or moves it by one step: the combiner judges once, and while the Allocator is held the slots' actions
before it only lower grants (R73, R87). -/
theorem State.expireInterval_pool (s : State) (order : List Turn) :
    (s.expireInterval order).alloc.pool = s.alloc.pool ∨ (s.expireInterval order).alloc.pool = stepUp s.alloc.pool
      ∨ ∃ grants, (s.alloc.held = true → grants ≤ s.grantsStanding)
        ∧ (s.expireInterval order).alloc.pool = stepDown s.alloc.pool s.alloc.held grants := by
  obtain ⟨l₁, l₂, hl⟩ := List.append_of_mem ((mem_turnsOf order .combiner).mpr (.inr (.inl rfl)))
  have hnodup := nodup_turnsOf order
  rw [hl, List.nodup_append', List.nodup_cons] at hnodup
  obtain ⟨-, ⟨hafter, -⟩, hdisjoint⟩ := hnodup
  have hbefore : Turn.combiner ∉ l₁ := fun h => hdisjoint h List.mem_cons_self
  let u := l₁.foldl (State.turn s.measurements) s.measure
  have hu : s.measure.SlotsAct u := .turns _ _ hbefore
  have hpool : u.alloc.pool = s.alloc.pool := hu.pool
  have hheld : u.alloc.held = s.alloc.held := hu.held
  have ht : (s.expireInterval order).alloc.pool = u.judgeInterval.alloc.pool := by
    unfold State.expireInterval
    rw [hl, List.foldl_append, List.foldl_cons]
    exact (State.SlotsAct.turns u.judgeInterval s.measurements hafter).pool
  rw [ht, ← hpool, ← hheld]
  rcases u.judgeInterval_pool with h | h | h
  · exact .inl h
  · exact .inr (.inl h)
  · exact .inr (.inr ⟨u.grantsStanding, fun hg => State.grantsStanding_le (hu.grants (hheld.symm.trans hg)), h⟩)

/-- Every command but a level interval expiry and a device reset keeps E. -/
theorem Does.pool {c : Instr} {s t : State} (h : Does c s t) (hinterval : ∀ order, c ≠ .levelIntervalExpiry order)
    (hreset : ∀ cause, c ≠ .deviceReset cause) : t.alloc.pool = s.alloc.pool := by
  have engine {u : State} (hu : s.EngineActs u) : u.alloc.pool = s.alloc.pool := by rw [hu.alloc]
  cases h with
  | nothing => rfl
  | deviceReset cause => exact absurd rfl (hreset cause)
  | resetEnd => rfl
  | trimLevel p tag i delta => exact (State.SlotsAct.refl (s.trimmedLevel p tag i delta)).startRun.pool
  | trimFrequency => rfl
  | revive p tag i => exact ((State.SlotsAct.refl s).reviveSlot i _ _ _).pool
  | draftCopy => rfl
  | draftClear => rfl
  | draftPutEntry => rfl
  | draftPutHeader => rfl
  | commit p tag => exact (State.KeepsRecords.install s _ (.commit p tag)).pool
  | pageStore => rfl
  | pageLoad => rfl
  | pageErase => rfl
  | bootSet => rfl
  | reload => rfl
  | levelIntervalExpiry order => exact absurd rfl (hinterval order)
  | holdTimerExpiry i => exact ((State.SlotsAct.refl s).holdOut i).pool
  | reacquireTimerExpiry i => exact ((State.SlotsAct.refl s).reacquireOut i).pool
  | riseCompletion i => rfl
  | fallCompletion i => exact ((State.KeepsRecords.of_slotsAct (.refl s)).completeFall i).pool
  | storeEraseDone => exact engine (.storeErased s)
  | storeProgramDone => exact engine (.storeProgrammed s)
  | storeVerifyDone intact => exact engine (.storeVerified s intact)
  | pageEraseDone => exact engine (.pageErased s)
  | pageLoadReadDone intact => exact engine (.pageLoaded s intact)
  | bootWriteDone intact => exact engine (.bootWritten s intact)
  | startUpReadEnd x y =>
    rcases s.startUpEnd_cases x y with e | ⟨item, o, -, ⟨pl, -, e⟩ | e⟩ <;> rw [e]
    · exact ((State.KeepsRecords.startUpInstall (s.endRead o) pl).write _).pool
    · exact (((State.KeepsRecords.of_slotsAct (.refl (s.endRead o))).releaseWithoutRaise.endChange).write _).pool
  | reloadReadEnd x y =>
    rcases s.reloadEnd_cases x y with e | ⟨item, p, tag, o, -, ⟨pl, -, e⟩ | e⟩ <;> rw [e]
    · exact (State.KeepsRecords.install (s.endRead o) pl (.reload p tag)).pool
    · exact (((State.KeepsRecords.of_slotsAct (.refl (s.endRead o))).endChange.releaseWithoutRaise).write _).pool

/-- Settles O12: the change of plan, the store counts and E, each by what the command does. -/
theorem generationStoreCountAndPoolChange : Obligations.GenerationStoreCountAndPoolChange := by
  refine ⟨fun c s t h => ?_, fun c s t pg h => ?_, fun c s t hwithin h => ?_⟩
  · rcases (exec_comes h).planChange with ⟨-, hgen⟩ | ⟨-, hgen, hc⟩ | ⟨-, hgen, hc⟩ | ⟨-, hgen, hc⟩
    · exact .inl hgen
    · exact .inr (.inl ⟨hgen, hc⟩)
    · exact .inr (.inr (.inl ⟨hgen, hc⟩))
    · exact .inr (.inr (.inr ⟨hgen, hc⟩))
  · obtain ⟨u, v, hu, hdoes, hv⟩ := exec_comes h
    rw [hv.memory, ← hu.memory]
    by_cases hc : c = .storeEraseDone
    · subst hc
      cases hdoes with
      | nothing => exact .inl rfl
      | storeEraseDone => exact (u.storeErased_counts pg).imp_right fun ⟨hop, hcount⟩ => ⟨rfl, hop, hcount⟩
    · exact .inl (hdoes.counts hc pg)
  · obtain ⟨u, v, hu, hdoes, hv⟩ := exec_comes h
    rw [← hu.alloc] at hwithin
    rw [hv.alloc, ← hu.alloc]
    by_cases hinterval : ∃ order, c = .levelIntervalExpiry order
    · obtain ⟨order, rfl⟩ := hinterval
      cases hdoes with
      | nothing => exact .inl rfl
      | levelIntervalExpiry =>
        obtain ⟨hgrants, hlo, -⟩ := hwithin
        rcases u.expireInterval_pool order with hpool | hpool | ⟨grants, hle, hpool⟩
        · exact .inl hpool
        · exact .inr (.inl ⟨⟨order, rfl⟩, .inl hpool⟩)
        · rw [hpool]
          unfold stepDown
          cases hheld : u.alloc.held with
          | false =>
            rw [if_neg (by decide)]
            by_cases heq : max (u.alloc.pool - 64) 512 = u.alloc.pool
            · exact .inl heq
            · exact .inr (.inl ⟨⟨order, rfl⟩, .inr ⟨by omega, le_refl _, fun _ => rfl⟩⟩)
          | true =>
            have hsum : grants ≤ u.alloc.pool := (hle hheld).trans hgrants
            rw [if_pos rfl]
            by_cases heq : max (max (u.alloc.pool - 64) 512) grants = u.alloc.pool
            · exact .inl heq
            · exact .inr (.inl ⟨⟨order, rfl⟩, .inr ⟨by omega, le_max_left _ _, nofun⟩⟩)
    · by_cases hreset : ∃ cause, c = .deviceReset cause
      · obtain ⟨cause, rfl⟩ := hreset
        cases hdoes with
        | nothing => exact .inl rfl
        | deviceReset => exact .inr (.inr ⟨rfl, cause, rfl⟩)
      · exact .inl (hdoes.pool (fun order e => hinterval ⟨order, e⟩) fun cause e => hreset ⟨cause, e⟩)

end Sys2Proof.Machine

namespace Sys2Proof.Machine

/-! ### Draft puts store values in range (R92, R93, R177) -/

theorem clampInt_bounds {lo hi : Int} (h : lo ≤ hi) (x : Int) : lo ≤ clampInt lo hi x ∧ clampInt lo hi x ≤ hi := by
  unfold clampInt
  omega

theorem clampNat_bounds {lo hi : Nat} (h : lo ≤ hi) (x : Nat) : lo ≤ clampNat lo hi x ∧ clampNat lo hi x ≤ hi := by
  unfold clampNat
  omega

theorem clampLease_bounds (n : Nat) : clampLease n = 0 ∨ (500 ≤ clampLease n ∧ clampLease n ≤ 60000) := by
  unfold clampLease
  split
  · exact .inl rfl
  · exact .inr (clampNat_bounds (by decide) n)

/-- A label field that is not refused is in range (R24). -/
theorem labelAt_inRange {present : Bool} {b : List Byte} {i : Nat} (h : ¬ labelRefused present b i = true) :
    labelInRange (labelAt present b i) = true := by
  cases present with
  | false => rfl
  | true => simp_all [labelRefused]

/-- The entry that a put stores is in range (R92). -/
theorem entryStored_inRange {b : List Byte} (h : entryRefusal b = none) : (entryStored b).inRange = true := by
  unfold entryRefusal at h
  dsimp only at h
  split_ifs at h with _ _ hrx htx halt _ hlabel
  refine (Entry.inRange_iff _).mpr ⟨not_lt.mp hrx, not_lt.mp htx, fun f hf => ?_, Nat.min_le_left _ _,
    clampInt_bounds (by decide) _, Nat.min_le_left _ _, labelAt_inRange hlabel⟩
  have hf' : (if (u8At b 1).testBit 1 then some (u32At b 10) else none) = some f := hf
  split_ifs at hf' with hbit
  obtain rfl := Option.some.inj hf'
  rw [hbit, Bool.true_and, decide_eq_true_eq] at halt
  exact not_lt.mp halt

theorem Header.inRange_iff (h : Header) : h.inRange = true ↔
    (100000 ≤ h.rxCentre ∧ h.rxCentre ≤ 5900000) ∧ (100000 ≤ h.txCentre ∧ h.txCentre ≤ 5900000)
    ∧ h.guardKhz ≤ 2000 ∧ (-40 ≤ h.ceiling ∧ h.ceiling ≤ 0) ∧ (10 ≤ h.rampMs ∧ h.rampMs ≤ 2000) ∧ h.holdMs ≤ 10000
    ∧ (100 ≤ h.reacquireMs ∧ h.reacquireMs ≤ 60000) ∧ (10 ≤ h.levelMs ∧ h.levelMs ≤ 1000)
    ∧ (h.leaseMs = 0 ∨ (500 ≤ h.leaseMs ∧ h.leaseMs ≤ 60000)) ∧ labelInRange h.label = true := by
  simp only [Header.inRange, Bool.and_eq_true, Bool.or_eq_true, decide_eq_true_eq, and_assoc]

/-- The header that a put stores is in range (R93). -/
theorem headerStored_inRange {b : List Byte} (h : headerRefusal b = none) : (headerStored b).inRange = true := by
  unfold headerRefusal at h
  dsimp only at h
  split_ifs at h with _ hrx htx hlabel
  simp only [Bool.or_eq_true, decide_eq_true_eq, not_or, not_lt] at hrx htx
  exact (Header.inRange_iff _).mpr ⟨hrx, htx, Nat.min_le_left _ _, clampInt_bounds (by decide) _,
    clampNat_bounds (by decide) _, Nat.min_le_left _ _, clampNat_bounds (by decide) _, clampNat_bounds (by decide) _,
    clampLease_bounds _, labelAt_inRange hlabel⟩

/-! ### The records that the part holds (R22) -/

/-- The records of Plan Memory lie in their ranges: the pages' images and the snapshot of a store. -/
def Memory.InRange (m : Memory) : Prop :=
  (∀ i : PageIx, ∀ x ∈ m.pages[i].image, x.record.inRange = true) ∧ ∀ pl ∈ m.snapshot, pl.inRange = true

/-- Both drafts lie in their ranges. -/
def PerPort.InRange (drafts : PerPort Draft) : Prop := ∀ p : Port, (drafts.get p).plan.inRange = true

/-- The records beside the active plan lie in their ranges. -/
structure State.RestInRange (s : State) : Prop where
  incoming : ∀ pl ∈ s.ctl.incoming, pl.inRange = true
  drafts : PerPort.InRange s.drafts
  memory : s.memory.InRange

theorem State.recordsInRange_iff (s : State) : s.RecordsInRange ↔ s.PlanValid ∧ s.RestInRange := by
  constructor
  · rintro ⟨hplan, hincoming, ⟨ha, hb⟩, hmemory⟩
    exact ⟨hplan, hincoming, fun p => by cases p; exacts [ha, hb], hmemory⟩
  · rintro ⟨hplan, hincoming, hdrafts, hmemory⟩
    exact ⟨hplan, hincoming, ⟨hdrafts .a, hdrafts .b⟩, hmemory⟩

theorem Plan.inRange_of_valid {pl : Plan} (h : pl.valid = true) : pl.inRange = true := (pl.valid_iff.mp h).1

theorem PerPort.InRange.set {drafts : PerPort Draft} (h : PerPort.InRange drafts) (p : Port) {d : Draft}
    (hd : d.plan.inRange = true) : PerPort.InRange (drafts.set p d) := by
  intro q
  cases p <;> cases q
  exacts [hd, h .b, h .a, hd]

namespace Memory.InRange

variable {m : Memory}

/-- What leaves the pages and the snapshot. -/
theorem congr (h : m.InRange) {m' : Memory} (hpages : m'.pages = m.pages)
    (hsnap : ∀ pl ∈ m'.snapshot, pl ∈ m.snapshot) : m'.InRange :=
  ⟨fun i => by rw [hpages]; exact h.1 i, fun pl hpl => h.2 pl (hsnap pl hpl)⟩

/-- An operation whose snapshot, if it has one, is in range. -/
theorem setOp (h : m.InRange) {m' : Memory} (hpages : m'.pages = m.pages) (hsnap : ∀ pl ∈ m'.snapshot, pl.inRange = true) :
    m'.InRange := ⟨fun i => by rw [hpages]; exact h.1 i, hsnap⟩

/-- A page whose image, if it has one, is in range. -/
theorem setPage (h : m.InRange) {m' : Memory} {pg : PageIx} {y : Page} (hpages : m'.pages = m.pages.set pg y)
    (hop : m'.op = m.op) (hy : ∀ x ∈ y.image, x.record.inRange = true) : m'.InRange := by
  refine ⟨fun i => ?_, fun pl hpl => h.2 pl ?_⟩
  · rw [hpages]
    exact PerSlot.forall_set (P := fun z : Page => ∀ x ∈ z.image, x.record.inRange = true) pg h.1 hy i
  · unfold Memory.snapshot at hpl ⊢
    rwa [hop] at hpl

theorem markCorrupt (h : m.InRange) (pg : Option PageIx) (r : TryResult) : (m.markCorrupt pg r).InRange := by
  unfold Memory.markCorrupt
  split
  · exact h
  · split
    · exact h.setPage rfl rfl (h.1 _)
    · exact h

end Memory.InRange

/-- A read of the boot pages that goes on has no snapshot either way. -/
theorem Memory.InRange.readOn {m : Memory} (h : m.InRange) (intact : Bool) {op : EngineOp} (next : ReadItem)
    (hop : m.op = some op) : (m.readOn intact op next).InRange := by
  have hnext : ({ m with op := some (op.atItem next) } : Memory).InRange := by
    refine h.congr rfl fun pl hpl => ?_
    unfold Memory.snapshot at hpl ⊢
    rw [hop]
    cases op <;> exact hpl
  unfold Memory.readOn
  dsimp only
  split
  · exact hnext.markCorrupt _ _
  · exact hnext

theorem Memory.InRange.atTime {m : Memory} (h : m.InRange) (elapsed : Nat) :
    ({ m with opElapsed := elapsed } : Memory).InRange := h.congr rfl fun _ hpl => hpl

theorem Memory.InRange.memoryPeriod {s : State} (h : s.memory.InRange) : s.memoryPeriod.InRange := by
  rcases s.memoryPeriod_cases with e | ⟨op, next, hop, -, -, e⟩ <;> rw [e]
  · exact h.atTime _
  · exact (h.readOn _ next hop).atTime _

/-- What an interrupted operation leaves of the pages has their images or none (R117). -/
theorem Memory.InRange.afterReset {m : Memory} (h : m.InRange) : m.afterReset.InRange := by
  obtain ⟨hop, -⟩ := m.afterReset_idle
  refine ⟨fun i => ?_, fun pl hpl => ?_⟩
  · rw [Memory.afterReset_pages]
    split
    · split
      · exact h.1 i
      · split
        · nofun
        · exact h.1 i
        · exact h.1 i
    · split
      · exact h.1 i
      · nofun
    · exact h.1 i
  · unfold Memory.snapshot at hpl
    rw [hop] at hpl
    cases hpl

theorem Memory.snapshot_of_store {m : Memory} {pg : PageIx} {ph : StorePhase} {snap : Plan} {p : Port} {tag : Byte}
    (hop : m.op = some (.store pg ph snap p tag)) : m.snapshot = some snap := by
  unfold Memory.snapshot
  rw [hop]

/-! ### Every command keeps the records in range -/

namespace State.RestInRange

variable {s t : State}

theorem of_keeps (h : s.RestInRange) (hk : s.KeepsRecords t) : t.RestInRange := by
  refine ⟨fun pl hpl => ?_, hk.drafts ▸ h.drafts, hk.memory ▸ h.memory⟩
  rcases hk.incoming with e | e <;> rw [e] at hpl
  · exact h.incoming pl hpl
  · cases hpl

theorem of_slotsAct (h : s.RestInRange) (hk : s.SlotsAct t) : t.RestInRange := h.of_keeps (.of_slotsAct hk)

theorem of_alike (h : s.RestInRange) (hk : s.Alike t) : t.RestInRange :=
  ⟨hk.ctl ▸ h.incoming, hk.drafts ▸ h.drafts, hk.memory ▸ h.memory⟩

theorem write (h : s.RestInRange) (n : Notice) : (s.write n).RestInRange := h.of_alike (.write s n)

theorem modDraft (h : s.RestInRange) (p : Port) {f : Draft → Draft} (hf : (f (s.drafts.get p)).plan.inRange = true) :
    (s.modDraft p f).RestInRange := ⟨h.incoming, h.drafts.set p hf, h.memory⟩

theorem modMemory (h : s.RestInRange) {f : Memory → Memory} (hf : (f s.memory).InRange) : (s.modMemory f).RestInRange :=
  ⟨h.incoming, h.drafts, hf⟩

theorem modPage (h : s.RestInRange) (pg : PageIx) {f : Page → Page}
    (hf : ∀ x ∈ (f s.memory.pages[pg]).image, x.record.inRange = true) : (s.modPage pg f).RestInRange :=
  h.modMemory (h.memory.setPage rfl rfl hf)

theorem engineIdle (h : s.RestInRange) : s.engineIdle.RestInRange := h.modMemory (h.memory.setOp rfl nofun)

theorem startOp (h : s.RestInRange) {op : EngineOp}
    (hop : ∀ pg ph snap p tag, op = .store pg ph snap p tag → snap.inRange = true) : (s.startOp op).RestInRange := by
  refine h.modMemory (h.memory.setOp rfl fun pl hpl => ?_)
  change (match some op with | some (.store _ _ snap _ _) => some snap | _ => none) = some pl at hpl
  split at hpl
  · rename_i heq
    obtain rfl := Option.some.inj hpl
    exact hop _ _ _ _ _ (Option.some.inj heq)
  · cases hpl

theorem startStore (h : s.RestInRange) (pg : PageIx) (ph : StorePhase) {snap : Plan} (p : Port) (tag : Byte)
    (hsnap : snap.inRange = true) : (s.startOp (.store pg ph snap p tag)).RestInRange := by
  refine h.startOp ?_
  rintro _ _ _ _ _ ⟨⟩
  exact hsnap

theorem blankPage (h : s.RestInRange) (pg : PageIx) : (s.blankPage pg).RestInRange := h.modPage pg nofun

/-- The programmed image is the snapshot's (R119). -/
theorem storeErased (h : s.RestInRange) : s.storeErased.RestInRange := by
  unfold State.storeErased
  split
  · rename_i pg snap p tag hop
    have hsnap : snap.inRange = true := h.memory.2 snap (Memory.snapshot_of_store hop)
    refine (h.startStore pg .program p tag hsnap).modPage pg fun x hx => ?_
    obtain rfl := Option.some.inj hx
    exact hsnap
  · exact h

theorem storeProgrammed (h : s.RestInRange) : s.storeProgrammed.RestInRange := by
  unfold State.storeProgrammed
  split
  · rename_i pg snap p tag hop
    exact h.startStore pg .verify p tag (h.memory.2 snap (Memory.snapshot_of_store hop))
  · exact h

theorem storeVerified (h : s.RestInRange) (intact : Bool) : (s.storeVerified intact).RestInRange := by
  unfold State.storeVerified
  split
  · split <;> exact ((h.modPage _ (h.memory.1 _)).engineIdle).write _
  · exact h

theorem pageErased (h : s.RestInRange) : s.pageErased.RestInRange := by
  unfold State.pageErased
  split
  · exact h.engineIdle.write _
  · exact h

/-- A read of a page yields its image's record (R120). -/
theorem readRecord (h : s.RestInRange) {pg : PageIx} {intact : Bool} {pl : Plan}
    (hread : s.memory.pages[pg].readRecord intact = some pl) : pl.inRange = true := by
  unfold Page.readRecord at hread
  split_ifs at hread
  obtain ⟨x, hx, hrecord⟩ := Option.bind_eq_some_iff.mp hread
  split_ifs at hrecord
  obtain rfl := Option.some.inj hrecord
  exact h.memory.1 pg x hx

theorem pageLoaded (h : s.RestInRange) (intact : Bool) : (s.pageLoaded intact).RestInRange := by
  unfold State.pageLoaded
  split
  · rename_i pg p tag _
    split
    · rename_i pl hread
      have hdraft : (s.modDraft p fun _ => ⟨pl, none⟩).RestInRange := h.modDraft p (h.readRecord hread)
      exact hdraft.engineIdle.write _
    · have hdraft : (s.modDraft p fun d => { d with loading := none }).RestInRange := h.modDraft p (h.drafts p)
      have hpage := hdraft.modPage pg (f := fun x => { x with state := .corrupt }) (hdraft.memory.1 pg)
      exact hpage.engineIdle.write _
  · exact h

theorem bootWritten (h : s.RestInRange) (intact : Bool) : (s.bootWritten intact).RestInRange := by
  unfold State.bootWritten
  split
  · split
    · exact ((h.modMemory (h.memory.congr rfl fun _ hpl => hpl)).engineIdle).write _
    · exact h.engineIdle.write _
  · exact h

theorem install (h : s.RestInRange) {pl : Plan} (hpl : pl.valid = true) (change : Change) :
    (s.install pl change).RestInRange := by
  have htaken : (s.takePlan pl change).RestInRange := by
    refine ⟨fun x hx => ?_, h.drafts, h.memory⟩
    obtain rfl := Option.some.inj hx
    exact Plan.inRange_of_valid hpl
  exact htaken.of_keeps (.install s pl change)

theorem endRead (h : s.RestInRange) (o : BootOutcome) : (s.endRead o).RestInRange :=
  h.modMemory (((h.memory.markCorrupt _ _).markCorrupt _ _).setOp rfl nofun)

theorem startUpEnd (h : s.RestInRange) (x y : Bool) : (s.startUpEnd x y).RestInRange := by
  rcases s.startUpEnd_cases x y with e | ⟨item, o, -, ⟨pl, -, e⟩ | e⟩ <;> rw [e]
  · exact h
  · obtain ⟨hincoming, hdrafts, hmemory⟩ := h.endRead o
    exact RestInRange.of_keeps (s := State.activated (s.endRead o) pl) ⟨hincoming, hdrafts, hmemory⟩
      ((State.KeepsRecords.startUpInstall (s.endRead o) pl).write _)
  · exact (h.endRead o).of_keeps
      (((State.KeepsRecords.of_slotsAct (.refl _)).releaseWithoutRaise.endChange).write _)

theorem reloadEnd (h : s.RestInRange) (x y : Bool) : (s.reloadEnd x y).RestInRange := by
  rcases s.reloadEnd_cases x y with e | ⟨item, p, tag, o, -, ⟨pl, hpl, e⟩ | e⟩ <;> rw [e]
  · exact h
  · exact (h.endRead o).install hpl _
  · exact (h.endRead o).of_keeps
      (((State.KeepsRecords.of_slotsAct (.refl _)).endChange.releaseWithoutRaise).write _)

/-- A device reset leaves the default plan in both drafts and no incoming plan (R90, R97). -/
theorem deviceReset (h : s.RestInRange) (cause : ResetCause) : (s.deviceReset cause).RestInRange := by
  refine ⟨nofun, fun p => ?_, h.memory.afterReset⟩
  have hdefault := Plan.inRange_of_valid Plan.default_valid
  cases p <;> exact hdefault

end State.RestInRange

theorem Does.restInRange {c : Instr} {s t : State} (hdoes : Does c s t) (hplan : s.PlanValid) (h : s.RestInRange) :
    t.RestInRange := by
  have hactive : s.ctl.active.inRange = true := Plan.inRange_of_valid hplan
  have hdefault : Plan.default.inRange = true := Plan.inRange_of_valid Plan.default_valid
  cases hdoes with
  | nothing => exact h
  | deviceReset cause => exact h.deviceReset cause
  | resetEnd => exact ⟨h.incoming, h.drafts, h.memory.setOp rfl nofun⟩
  | trimLevel p tag i delta =>
    exact State.RestInRange.of_slotsAct (s := s.trimmedLevel p tag i delta) ⟨h.incoming, h.drafts, h.memory⟩
      (State.SlotsAct.refl _).startRun
  | trimFrequency => exact ⟨h.incoming, h.drafts, h.memory⟩
  | revive p tag i => exact h.of_slotsAct ((State.SlotsAct.refl s).reviveSlot i _ _ _)
  | draftCopy p => exact h.modDraft p hactive
  | draftClear p => exact h.modDraft p hdefault
  | draftPutEntry p b _ hb => exact h.modDraft p (Plan.setEntry_inRange (h.drafts p) _ (entryStored_inRange hb))
  | draftPutHeader p b _ hb =>
    obtain ⟨-, hentries⟩ := (Plan.inRange_iff _).mp (h.drafts p)
    exact h.modDraft p ((Plan.inRange_iff _).mpr ⟨headerStored_inRange hb, hentries⟩)
  | commit p tag _ _ hvalid => exact h.install hvalid _
  | pageStore p tag pg snap _ _ hsnap =>
    exact (h.startStore pg .erase p tag (hsnap.elim (fun e => e ▸ h.drafts p) fun e => e ▸ hactive)).blankPage pg
  | pageLoad p tag pg => exact (h.startOp (by rintro _ _ _ _ _ ⟨⟩)).modDraft p (h.drafts p)
  | pageErase p tag pg => exact (h.startOp (by rintro _ _ _ _ _ ⟨⟩)).blankPage pg
  | bootSet => exact ⟨h.incoming, h.drafts, h.memory.setOp rfl nofun⟩
  | reload => exact ⟨h.incoming, h.drafts, h.memory.setOp rfl nofun⟩
  | levelIntervalExpiry order =>
    obtain ⟨hctl, -, hdrafts, hmemory⟩ := State.KeepsRecords.expireInterval s order
    exact ⟨hctl ▸ h.incoming, hdrafts ▸ h.drafts, hmemory ▸ h.memory⟩
  | holdTimerExpiry i => exact h.of_slotsAct ((State.SlotsAct.refl s).holdOut i)
  | reacquireTimerExpiry i => exact h.of_slotsAct ((State.SlotsAct.refl s).reacquireOut i)
  | riseCompletion i => exact h.of_slotsAct ((State.SlotsAct.refl s).completeRise i)
  | fallCompletion i => exact h.of_keeps ((State.KeepsRecords.of_slotsAct (.refl s)).completeFall i)
  | storeEraseDone => exact h.storeErased
  | storeProgramDone => exact h.storeProgrammed
  | storeVerifyDone intact => exact h.storeVerified intact
  | pageEraseDone => exact h.pageErased
  | pageLoadReadDone intact => exact h.pageLoaded intact
  | bootWriteDone intact => exact h.bootWritten intact
  | startUpReadEnd x y => exact h.startUpEnd x y
  | reloadReadEnd x y => exact h.reloadEnd x y

/-- Every command keeps the records in range. -/
theorem Comes.recordsInRange {c : Instr} {s t : State} (h : Comes c s t) (hs : s.RecordsInRange) : t.RecordsInRange := by
  obtain ⟨hplan, hrest⟩ := s.recordsInRange_iff.mp hs
  refine t.recordsInRange_iff.mpr ⟨h.planValid hplan, ?_⟩
  obtain ⟨u, v, hu, hdoes, hv⟩ := h
  exact (hdoes.restInRange (by rwa [State.PlanValid, hu.ctl]) (hrest.of_alike hu)).of_alike hv

/-- So does the part left alone. -/
theorem State.RecordsInRange.idle {s : State} (hs : s.RecordsInRange) : s.idle.RecordsInRange := by
  obtain ⟨hplan, hrest⟩ := s.recordsInRange_iff.mp hs
  refine s.idle.recordsInRange_iff.mpr ⟨by rwa [State.PlanValid, State.idle_ctl], ?_⟩
  obtain ⟨hincoming, hdrafts, hmemory⟩ := hrest
  unfold State.idle
  split
  · exact ⟨hincoming, hdrafts, hmemory⟩
  · split
    · exact ⟨hincoming, hdrafts, hmemory⟩
    · exact ⟨hincoming, hdrafts, hmemory.memoryPeriod⟩

end Sys2Proof.Machine

namespace Sys2Proof.Machine

/-! ### A slot's record beside its active entry (R40, R50, R51, R62) -/

/-- The attempt count fits the limit: 0 outside MUTED and FAILED, below a limit above 0 in MUTED, and at it in FAILED
(R50, R51). -/
structure Slot.CountFits (x : Slot) (limit : Nat) : Prop where
  outside : x.state ≠ .muted → x.state ≠ .failed → x.attempts = 0
  muted : x.state = .muted → 0 < limit → x.attempts < limit
  failed : x.state = .failed → x.attempts = limit ∧ 0 < x.attempts

/-- The record holds the in-use fields of an entry, only an enabled copy leaves OFF, and the attempt count fits. -/
structure Slot.Follows (x : Slot) (e : Entry) : Prop where
  copy : x.inUse = e.inUse
  enabled : x.state = .off ∨ x.inUse.enabled = true
  count : x.CountFits e.reacquireLimit

theorem Slot.CountFits.of_zero {x : Slot} {limit : Nat} (hzero : x.attempts = 0) (hstate : x.state ≠ .failed) :
    x.CountFits limit :=
  ⟨fun _ _ => hzero, fun _ hlimit => hzero ▸ hlimit, fun h => absurd h hstate⟩

theorem Slot.CountFits.of_same {x y : Slot} {limit : Nat} (h : x.CountFits limit) (hstate : y.state = x.state)
    (hcount : y.attempts = x.attempts) : y.CountFits limit := by
  obtain ⟨houtside, hmuted, hfailed⟩ := h
  constructor <;> rw [hstate, hcount] <;> assumption

/-- A slot that acts on its grant keeps its copy, and its attempt count or has it at 0 (R50, R56). -/
theorem Slot.given_cases (x : Slot) (grant : Nat) (fall rise : Int) (ramp : Nat) :
    (x.given grant fall rise ramp).inUse = x.inUse
    ∧ ((x.given grant fall rise ramp).state = x.state ∧ (x.given grant fall rise ramp).attempts = x.attempts
      ∨ x.state ≠ .off ∧ (x.given grant fall rise ramp).state ≠ .failed
        ∧ ((x.given grant fall rise ramp).attempts = 0
          ∨ x.state ≠ .muted ∧ x.state ≠ .failed ∧ (x.given grant fall rise ramp).attempts = x.attempts)) := by
  unfold Slot.given Slot.risen
  cases hx : x.state <;> dsimp only
  case deferred => split <;> simp [hx]
  case rising => split_ifs <;> simp [hx]
  case on => split_ifs <;> simp [hx]
  case hold => split_ifs <;> simp [hx]
  case muted => split <;> simp [hx]
  all_goals simp [hx]

theorem Slot.Follows.given {x : Slot} {e : Entry} (h : x.Follows e) (grant : Nat) (fall rise : Int) (ramp : Nat) :
    (x.given grant fall rise ramp).Follows e := by
  obtain ⟨hcopy, hcases⟩ := x.given_cases grant fall rise ramp
  refine ⟨hcopy.trans h.copy, ?_, ?_⟩
  · rw [hcopy]
    rcases hcases with ⟨hstate, -⟩ | ⟨hoff, -⟩
    · rw [hstate]
      exact h.enabled
    · exact .inr (h.enabled.resolve_left hoff)
  · rcases hcases with ⟨hstate, hcount⟩ | ⟨-, hfailed, hzero | ⟨hm, hf, hcount⟩⟩
    · exact h.count.of_same hstate hcount
    · exact .of_zero hzero hfailed
    · exact .of_zero (hcount.trans (h.count.outside hm hf)) hfailed

/-- An enabled slot that waits in OFF is raised with its copy and an attempt count of 0 (R50, R61). -/
theorem Slot.Follows.raised {x : Slot} {e : Entry} (h : x.Follows e) (hoff : x.state = .off) (hen : e.enabled = true)
    (grant : Nat) (rise : Int) (ramp : Nat) : (x.raised grant rise ramp).Follows e := by
  have hzero : x.attempts = 0 := h.count.outside (by rw [hoff]; nofun) (by rw [hoff]; nofun)
  have henabled : x.inUse.enabled = true := by rw [h.copy]; exact hen
  unfold Slot.raised Slot.risen
  split
  · exact ⟨h.copy, .inr henabled, .of_zero rfl nofun⟩
  · exact ⟨h.copy, .inr henabled, .of_zero hzero nofun⟩

theorem Slot.Follows.delivered {s : State} {x : Slot} {i : SlotIx} (h : x.Follows s.ctl.active.entries[i]) (raise : Bool)
    (before : PerSlot GrantRec) : (s.delivered raise before i x).Follows s.ctl.active.entries[i] := by
  unfold State.delivered
  split
  · rename_i hwaits
    exact h.raised hwaits.2.1 hwaits.2.2 _ _ _
  · exact h.given _ _ _ _

/-- Every slot follows its active entry. -/
def State.SlotsFollow (s : State) : Prop := ∀ i : SlotIx, s.slots[i].Follows s.ctl.active.entries[i]

/-- An allocation run leaves the slots' copies and attempt counts with the active plan (R56, R61). -/
theorem State.SlotsFollow.run {s : State} (h : s.SlotsFollow) (raise : Bool) : (s.run raise).SlotsFollow := by
  intro i
  rw [State.run_eq]
  show (Vector.ofFn fun i => (s.tabled raise).delivered raise s.alloc.table i s.slots[i] : PerSlot Slot)[i].Follows _
  rw [PerSlot.getElem_ofFn]
  exact Slot.Follows.delivered (s := s.tabled raise) (h i) raise _

/-- A run leaves every share in force that of the active entry (R66). -/
theorem State.run_share (s : State) (raise : Bool) (i : SlotIx) :
    (s.run raise).alloc.table[i].share = s.ctl.active.entries[i].share := by
  rw [State.run_table, State.runTable_getElem]
  rfl

/-! ### What may take the place of a slot's record -/

/-- The state t has the reset, the Controller and the hold of s, a share in force of t is that of s or its active entry's,
and the engine of t reads the boot pages only if that of s does. -/
structure State.KeepsPlan (s t : State) : Prop where
  inReset : t.inReset = s.inReset
  ctl : t.ctl = s.ctl
  held : t.alloc.held = s.alloc.held
  shares : ∀ i : SlotIx, t.alloc.table[i].share = s.alloc.table[i].share
    ∨ t.alloc.table[i].share = s.ctl.active.entries[i].share
  startingUp : t.memory.startingUp = true → s.memory.startingUp = true
  reloading : t.memory.reloading = true → s.memory.reloading = true

theorem State.KeepsPlan.of_slotsAct {s t : State} (h : s.SlotsAct t) : s.KeepsPlan t :=
  ⟨h.inReset, h.ctl, h.held, h.shares, fun e => h.memory ▸ e, fun e => h.memory ▸ e⟩

theorem State.KeepsPlan.of_engineActs {s t : State} (h : s.EngineActs t) : s.KeepsPlan t :=
  ⟨h.inReset, h.ctl, by rw [h.alloc], fun i => .inl (by rw [h.alloc]), h.startingUp, h.reloading⟩

theorem State.KeepsPlan.of_alike {s t : State} (h : s.Alike t) : s.KeepsPlan t :=
  ⟨h.inReset, h.ctl, by rw [h.alloc], fun i => .inl (by rw [h.alloc]), fun e => h.memory ▸ e, fun e => h.memory ▸ e⟩

/-- The record y may take the place of slot i: it keeps the copy, and a drained slot of DRAINING goes OFF or stays. -/
structure State.AdmitsSlot (s : State) (i : SlotIx) (y : Slot) : Prop where
  copy : y.inUse = s.slots[i].inUse
  enabled : y.state = .off ∨ y.inUse.enabled = true
  starting : s.ctl.state = .starting → y.state = .off
  count : y.CountFits s.ctl.active.entries[i].reacquireLimit
  drained : s.ctl.state = .draining → s.ctl.drainSet[i] = true →
    y.state = .off ∨ y.state = s.slots[i].state ∧ y.fallDest = s.slots[i].fallDest

theorem State.AdmitsSlot.of_off {s : State} {i : SlotIx} {y : Slot} (hcopy : y.inUse = s.slots[i].inUse)
    (hstate : y.state = .off) (hcount : y.attempts = 0) : s.AdmitsSlot i y :=
  ⟨hcopy, .inl hstate, fun _ => hstate, .of_zero hcount (by rw [hstate]; nofun), fun _ _ => .inl hstate⟩

namespace State.FollowsPlan

variable {s t : State}

theorem count (h : s.FollowsPlan) (i : SlotIx) : s.slots[i].CountFits s.ctl.active.entries[i].reacquireLimit :=
  ⟨(h.attempts i).1, (h.attempts i).2.1, (h.attempts i).2.2⟩

theorem admits_self (h : s.FollowsPlan) (i : SlotIx) : s.AdmitsSlot i s.slots[i] :=
  ⟨rfl, (h.copies i).2.1, (h.copies i).2.2, h.count i, fun _ _ => .inr ⟨rfl, rfl⟩⟩

/-- A record that differs from the slot's in its timers, its ramp and its gains. -/
theorem admits_same (h : s.FollowsPlan) (i : SlotIx) {y : Slot} (hcopy : y.inUse = s.slots[i].inUse)
    (hstate : y.state = s.slots[i].state) (hdest : y.fallDest = s.slots[i].fallDest)
    (hcount : y.attempts = s.slots[i].attempts) : s.AdmitsSlot i y := by
  obtain ⟨-, henabled, hstarting⟩ := h.copies i
  exact ⟨hcopy, by rw [hstate, hcopy]; exact henabled, fun e => hstate.trans (hstarting e),
    (h.count i).of_same hstate hcount, fun _ _ => .inr ⟨hstate, hdest⟩⟩

/-- A slot that is not OFF and does not fall towards OFF is drained by no change, and its Controller is not STARTING. -/
theorem admits_live (h : s.FollowsPlan) {i : SlotIx} (hoff : s.slots[i].state ≠ .off)
    (hfall : s.slots[i].state ≠ .falling ∨ s.slots[i].fallDest ≠ some .off) {y : Slot}
    (hcopy : y.inUse = s.slots[i].inUse) (hcount : y.CountFits s.ctl.active.entries[i].reacquireLimit) :
    s.AdmitsSlot i y := by
  obtain ⟨-, henabled, hstarting⟩ := h.copies i
  refine ⟨hcopy, .inr (hcopy ▸ henabled.resolve_left hoff), fun e => absurd (hstarting e) hoff, hcount, fun hd hi => ?_⟩
  rcases h.drains hd i hi with e | ⟨e, e', -⟩
  · exact absurd e hoff
  · exact absurd e' (hfall.resolve_left (not_not.mpr e))

/-- Admitted records keep the slots with the plan. -/
theorem of_admits (h : s.FollowsPlan) (hk : s.KeepsPlan t) (hslots : ∀ i : SlotIx, s.AdmitsSlot i t.slots[i]) :
    t.FollowsPlan where
  planValid := by simpa only [State.PlanValid, hk.ctl] using h.planValid
  controller := by simpa only [State.ControllerFits, hk.ctl, hk.held] using h.controller
  reads := by
    obtain ⟨hreset, hstart, hreload⟩ := h.reads
    rw [State.ReadsFit, hk.ctl, hk.inReset]
    exact ⟨hreset, fun e => hstart (hk.startingUp e), fun e => hreload (hk.reloading e)⟩
  drains := by
    rw [State.DrainsFit, hk.ctl]
    intro hd i hi
    rcases (hslots i).drained hd hi with e | ⟨hstate, hdest⟩
    · exact .inl e
    · rw [hstate, hdest]
      rcases h.drains hd i hi with e | ⟨e, e', hawait, hspaced⟩
      · exact .inl e
      · refine .inr ⟨e, e', hawait, fun j hj honAir => ?_⟩
        have hbefore : if s.ctl.drainSet[j] = true then s.slots[j].state.onAir = true
            else s.slots[j].inUse.enabled = true := by
          split at honAir
          · rename_i hdj
            rw [if_pos hdj]
            rcases (hslots j).drained hd hdj with ej | ⟨ej, -⟩
            · rw [ej] at honAir; cases honAir
            · rwa [ej] at honAir
          · rename_i hdj
            rw [if_neg hdj, ← (hslots j).copy]
            exact honAir
        rw [State.Spaced, State.inUseSpacing, (hslots i).copy, (hslots j).copy, hk.ctl]
        exact hspaced j hj hbefore
  copies i := by
    obtain ⟨hcopy, henabled, hstarting, -, -⟩ := hslots i
    rw [hk.ctl]
    refine ⟨?_, henabled, hstarting⟩
    rw [hcopy]
    exact (h.copies i).1
  attempts i := by
    obtain ⟨houtside, hmuted, hfailed⟩ := (hslots i).count
    rw [hk.ctl]
    exact ⟨houtside, hmuted, hfailed⟩
  shares := by
    rw [State.SharesFit, hk.ctl]
    rcases h.shares with e | e | e
    · exact .inl e
    · exact .inr (.inl e)
    · exact .inr (.inr fun i => (hk.shares i).elim (fun hi => hi.trans (e i)) id)

theorem of_slots_eq (h : s.FollowsPlan) (hk : s.KeepsPlan t) (hslots : t.slots = s.slots) : t.FollowsPlan :=
  h.of_admits hk fun i => hslots ▸ h.admits_self i

/-- One slot takes another record. -/
theorem of_set (h : s.FollowsPlan) (hk : s.KeepsPlan t) (i : SlotIx) {y : Slot} (hslots : t.slots = s.slots.set i y)
    (hy : s.AdmitsSlot i y) : t.FollowsPlan := by
  refine h.of_admits hk fun j => ?_
  rw [hslots, PerSlot.getElem_set]
  split
  · subst j
    exact hy
  · exact h.admits_self j

theorem of_alike (h : s.FollowsPlan) (hk : s.Alike t) : t.FollowsPlan := h.of_slots_eq (.of_alike hk) hk.slots

/-- What leaves the slots, the Allocator, the Controller and Plan Memory alone. -/
theorem update (h : s.FollowsPlan) (extractions : PerSlot Extraction) (placements : PerSlot Placement)
    (combiner : Combiner) (ring : Ring) (counters : CounterBank) (intervalElapsed : Nat) : State.FollowsPlan { s with
      extractions := extractions, placements := placements, combiner := combiner, ring := ring, counters := counters
      intervalElapsed := intervalElapsed } :=
  h.of_slots_eq ⟨rfl, rfl, rfl, fun _ => .inl rfl, id, id⟩ rfl

theorem write (h : s.FollowsPlan) (n : Notice) : (s.write n).FollowsPlan := h.update _ _ _ _ _ _

theorem writeOpt (h : s.FollowsPlan) (n : Option Notice) : (s.writeOpt n).FollowsPlan := by
  cases n with
  | none => exact h
  | some n => exact h.write n

/-- A slot that no change drains follows its active entry. -/
theorem follows (h : s.FollowsPlan) {i : SlotIx} (hi : ¬ (s.ctl.state = .draining ∧ s.ctl.drainSet[i] = true)) :
    s.slots[i].Follows s.ctl.active.entries[i] :=
  ⟨(h.copies i).1.resolve_left hi, (h.copies i).2.1, h.count i⟩

/-- Outside STARTING a slot that no change drains may take any record that follows its entry. -/
theorem admits_of_follows (h : s.FollowsPlan) {i : SlotIx} (hstate : s.ctl.state ≠ .starting)
    (hi : ¬ (s.ctl.state = .draining ∧ s.ctl.drainSet[i] = true)) {y : Slot} (hy : y.Follows s.ctl.active.entries[i]) :
    s.AdmitsSlot i y :=
  ⟨hy.copy.trans (h.follows hi).copy.symm, hy.enabled, fun e => absurd e hstate, hy.count, fun e e' => absurd ⟨e, e'⟩ hi⟩

theorem slotsFollow (h : s.FollowsPlan) (hstate : s.ctl.state ≠ .draining) : s.SlotsFollow :=
  fun _ => h.follows fun hi => hstate hi.1

/-- In READY the rest follows from each slot's record and share. -/
theorem of_ready (hplan : s.PlanValid) (hctl : s.ControllerFits) (hready : s.ctl.state = .ready) (hreads : s.ReadsFit)
    (hslots : s.SlotsFollow) (hshares : ∀ i : SlotIx, s.alloc.table[i].share = s.ctl.active.entries[i].share) :
    s.FollowsPlan where
  planValid := hplan
  controller := hctl
  reads := hreads
  drains hd := by rw [hready] at hd; cases hd
  copies i := ⟨.inr (hslots i).copy, (hslots i).enabled, fun e => by rw [hready] at e; cases e⟩
  attempts i := ⟨(hslots i).count.outside, (hslots i).count.muted, (hslots i).count.failed⟩
  shares := .inr (.inr hshares)

/-- READY, with the Allocator free. -/
theorem ready_of_free (h : s.FollowsPlan) (hfree : ¬ s.alloc.held = true) : s.ctl.state = .ready :=
  h.controller.1.mpr (by simpa using hfree)

/-- A run made at once finds the Controller READY (R72, R73). -/
theorem startRun (h : s.FollowsPlan) : s.startRun.FollowsPlan := by
  have hk : s.KeepsPlan s.startRun := .of_slotsAct (State.SlotsAct.refl s).startRun
  refine h.of_admits hk fun i => ?_
  unfold State.startRun
  split
  · exact h.admits_self i
  · rename_i hfree
    have hready := h.ready_of_free hfree
    have hrun := (h.slotsFollow (by rw [hready]; nofun)).run false i
    have hctl : (s.run false).ctl = s.ctl := by
      obtain ⟨sl, tb, r, e⟩ := s.run_frame false
      rw [e]
    rw [hctl] at hrun
    exact h.admits_of_follows (by rw [hready]; nofun) (fun hi => by rw [hready] at hi; cases hi.1) hrun

end State.FollowsPlan

end Sys2Proof.Machine

namespace Sys2Proof.Machine

/-! ### What the slots' actions make of a slot's record -/

theorem State.count_slots (s : State) (k : SlotKind) (i : SlotIx) : (s.count k i).slots = s.slots := by
  obtain ⟨c, r, e⟩ := s.count_frame k i
  rw [e]

theorem State.flipSource_slots (s : State) (i : SlotIx) (cause : Cause) : (s.flipSource i cause).slots = s.slots := by
  obtain ⟨x, c, r, e⟩ := s.flipSource_frame i cause
  rw [e]

theorem State.releaseGrant_slots (s : State) (i : SlotIx) : (s.releaseGrant i).slots = s.slots := rfl

/-- Two writes of one item. -/
theorem PerSlot.set_set {α : Type} (v : PerSlot α) (i : SlotIx) (x y : α) : (v.set i x).set i y = v.set i y :=
  PerSlot.ext fun j => by
    rw [PerSlot.getElem_set, PerSlot.getElem_set, PerSlot.getElem_set]
    split <;> rfl

/-- A slot's record when it has lost its carrier (R47). -/
def State.lostSlot (s : State) (i : SlotIx) : Slot :=
  { s.slots[i] with state := .muted, ramp := none, hold := none, reacquire := some s.reacquireSamples }

theorem State.loseCarrier_slots (s : State) (i : SlotIx) (cause : Cause) :
    (s.loseCarrier i cause).slots = s.slots.set i (s.lostSlot i) := by
  unfold State.loseCarrier State.lostSlot
  dsimp only
  rw [State.modSlot_slots, State.flipSource_slots, State.write_slots, State.count_slots, State.modSlot_slots,
    PerSlot.set_set, PerSlot.getElem_set_self]

/-- A slot's record when it is revived (R63). -/
def State.revivedSlot (s : State) (i : SlotIx) : Slot :=
  { s.slots[i] with state := .muted, reacquire := some s.reacquireSamples, attempts := 0 }

/-- A revived slot before the run it starts (R63). -/
def State.revived (s : State) (i : SlotIx) : State :=
  (((s.modSlot i fun x => { x with attempts := 0 }).selectSource i .primary).modSlot i fun x =>
    { x with state := .muted, reacquire := some s.reacquireSamples }).releaseGrant i

theorem State.revived_slots (s : State) (i : SlotIx) : (s.revived i).slots = s.slots.set i (s.revivedSlot i) := by
  rw [State.revived, State.releaseGrant_slots, State.modSlot_slots, State.selectSource, State.modExtraction_slots,
    State.modSlot_slots, PerSlot.set_set, PerSlot.getElem_set_self]
  rfl

namespace State.FollowsPlan

variable {s : State}

/-- A slot in RISING, ON or HOLD has an attempt count of 0, and takes any record that keeps it and the copy. -/
theorem set_carrying (h : s.FollowsPlan) {t : State} (hk : s.SlotsAct t) {i : SlotIx} {y : Slot}
    (hslots : t.slots = s.slots.set i y)
    (hx : s.slots[i].state = .rising ∨ s.slots[i].state = .on ∨ s.slots[i].state = .hold)
    (hcopy : y.inUse = s.slots[i].inUse) (hcount : y.attempts = s.slots[i].attempts) (hstate : y.state ≠ .failed) :
    t.FollowsPlan := by
  have hzero : s.slots[i].attempts = 0 := by
    refine (h.count i).outside ?_ ?_ <;> rcases hx with e | e | e <;> rw [e] <;> nofun
  refine h.of_set (.of_slotsAct hk) i hslots (h.admits_live ?_ (.inl ?_) hcopy (.of_zero (hcount.trans hzero) hstate))
  all_goals rcases hx with e | e | e <;> rw [e] <;> nofun

/-- A slot in MUTED or FAILED takes any record with its copy and an attempt count that fits. -/
theorem set_silent (h : s.FollowsPlan) {t : State} (hk : s.SlotsAct t) {i : SlotIx} {y : Slot}
    (hslots : t.slots = s.slots.set i y) (hx : s.slots[i].state = .muted ∨ s.slots[i].state = .failed)
    (hcopy : y.inUse = s.slots[i].inUse) (hcount : y.CountFits s.ctl.active.entries[i].reacquireLimit) :
    t.FollowsPlan := by
  refine h.of_set (.of_slotsAct hk) i hslots (h.admits_live ?_ (.inl ?_) hcopy hcount)
  all_goals rcases hx with e | e <;> rw [e] <;> nofun

/-- A change of a slot's timers, ramp and gains. -/
theorem set_same (h : s.FollowsPlan) {t : State} (hk : s.SlotsAct t) {i : SlotIx} {y : Slot}
    (hslots : t.slots = s.slots.set i y) (hcopy : y.inUse = s.slots[i].inUse) (hstate : y.state = s.slots[i].state)
    (hdest : y.fallDest = s.slots[i].fallDest) (hcount : y.attempts = s.slots[i].attempts) : t.FollowsPlan :=
  h.of_set (.of_slotsAct hk) i hslots (h.admits_same i hcopy hstate hdest hcount)

theorem count_keeps (h : s.FollowsPlan) (k : SlotKind) (i : SlotIx) : (s.count k i).FollowsPlan :=
  h.of_slots_eq (.of_slotsAct ((State.SlotsAct.refl s).count k i)) (s.count_slots k i)

/-- A carrier is lost in RISING, ON or HOLD (R44, R46, R48). -/
theorem loseCarrier (h : s.FollowsPlan) {i : SlotIx}
    (hx : s.slots[i].state = .rising ∨ s.slots[i].state = .on ∨ s.slots[i].state = .hold) (cause : Cause) :
    (s.loseCarrier i cause).FollowsPlan :=
  h.set_carrying ((State.SlotsAct.refl s).loseCarrier i cause) (s.loseCarrier_slots i cause) hx rfl rfl nofun

/-- A MUTED slot regains its carrier (R48). -/
theorem regain (h : s.FollowsPlan) {i : SlotIx} (hx : s.slots[i].state = .muted) : (s.regain i).FollowsPlan := by
  unfold State.regain
  split
  · exact (h.set_silent ((State.SlotsAct.refl s).enterRising i) rfl (.inl hx) rfl (.of_zero rfl nofun)).write _
  · exact h.set_silent ((State.SlotsAct.refl s).enterDeferred i _) rfl (.inl hx) rfl (.of_zero (if_pos hx) nofun)

/-- A slot's decision on a level (R43). -/
theorem act (h : s.FollowsPlan) (i : SlotIx) (level : Int) : (s.act i level).FollowsPlan := by
  unfold State.act
  dsimp only
  split
  case h_1 hx =>
    split
    · unfold State.levelLoop
      dsimp only
      split
      · exact h.count_keeps _ i
      · exact h.set_same ((State.SlotsAct.refl s).modSlot i _) rfl rfl rfl rfl rfl
    · unfold State.carrierAbsentOn
      split
      · exact h.loseCarrier (.inr (.inl hx)) _
      · exact h.set_carrying ((State.SlotsAct.refl s).modSlot i _) rfl (.inr (.inl hx)) rfl rfl nofun
  case h_2 hx =>
    split
    · have hon := h.set_carrying ((State.SlotsAct.refl s).modSlot i fun x => { x with state := .on, hold := none }) rfl
        (.inr (.inr hx)) rfl rfl nofun
      exact hon.count_keeps .dips i
    · exact h
  case h_3 hx =>
    split
    · exact h
    · exact (h.count_keeps .rampAborts i).loseCarrier (.inl (by rw [State.count_slots]; exact hx)) _
  case h_4 hx =>
    split
    · exact h.regain hx
    · exact h
  all_goals exact h

theorem takeMeasurement (h : s.FollowsPlan) (i : SlotIx) (m : Option (Int × Source)) :
    (s.takeMeasurement i m).FollowsPlan := by
  unfold State.takeMeasurement
  split
  · exact h
  · split
    · exact h.act i _
    · exact h

/-- A hold timer runs out in HOLD (R46). -/
theorem holdOut (h : s.FollowsPlan) (i : SlotIx) : (s.holdOut i).FollowsPlan := by
  unfold State.holdOut
  split
  · rename_i hcond
    exact h.loseCarrier (.inr (.inr (of_decide_eq_true (Bool.and_eq_true_iff.mp hcond).1))) _
  · exact h

/-- An attempt that reaches a limit above 0 fails the slot, every other one stays below it (R49, R51). -/
theorem attempt (h : s.FollowsPlan) {i : SlotIx} (hx : s.slots[i].state = .muted) : (s.attempt i).FollowsPlan := by
  have hbelow := (h.count i).muted hx
  have hslot : ((s.modSlot i fun x => { x with attempts := min 255 (x.attempts + 1) }).count .attempts i).slots[i]
      = { s.slots[i] with attempts := min 255 (s.slots[i].attempts + 1) } := by
    rw [State.count_slots, State.modSlot_slots, PerSlot.getElem_set_self]
  have hk := ((State.SlotsAct.refl s).modSlot i fun x => { x with attempts := min 255 (x.attempts + 1) }).count .attempts i
  unfold State.attempt
  dsimp only
  split
  · rename_i hcond
    rw [hslot, Bool.and_eq_true_iff, decide_eq_true_eq, decide_eq_true_eq] at hcond
    obtain ⟨hpos, hreached⟩ := hcond
    unfold State.enterFailed
    refine startRun (write (h.set_silent ((hk.modSlot i _).releaseGrant i)
      (y := { s.slots[i] with state := .failed, reacquire := none, attempts := min 255 (s.slots[i].attempts + 1) })
      ?_ (.inl hx) rfl ⟨nofun, nofun, fun _ => ⟨hreached, by dsimp only; omega⟩⟩) _)
    rw [State.releaseGrant_slots, State.modSlot_slots, hslot, State.count_slots, State.modSlot_slots, PerSlot.set_set]
  · rename_i hcond
    rw [hslot, Bool.and_eq_true_iff, decide_eq_true_eq, decide_eq_true_eq, not_and] at hcond
    refine h.set_silent ((hk.flipSource i _).modSlot i _)
      (y := { s.slots[i] with attempts := min 255 (s.slots[i].attempts + 1), reacquire := some s.reacquireSamples })
      ?_ (.inl hx) rfl ⟨fun e => absurd hx e, fun _ hpos => ?_, fun e => ?_⟩
    · rw [State.modSlot_slots, State.flipSource_slots, hslot, State.count_slots, State.modSlot_slots, PerSlot.set_set]
    · have hlt := hbelow hpos
      have hne := hcond hpos
      dsimp only at hne ⊢
      omega
    · rw [hx] at e; cases e

theorem reacquireOut (h : s.FollowsPlan) (i : SlotIx) : (s.reacquireOut i).FollowsPlan := by
  unfold State.reacquireOut
  split
  · rename_i hcond
    exact h.attempt (of_decide_eq_true (Bool.and_eq_true_iff.mp hcond).1)
  · exact h

/-- A FAILED slot is revived (R63). -/
theorem reviveSlot (h : s.FollowsPlan) {i : SlotIx} (hx : s.slots[i].state = .failed) (port : Option Port)
    (tag : Option Byte) (cause : Cause) : (s.reviveSlot i port tag cause).FollowsPlan := by
  have hk : s.SlotsAct (s.revived i) :=
    (((State.SlotsAct.refl s).modSlot i _).modExtraction i _).modSlot i _ |>.releaseGrant i
  exact (h.set_silent hk (s.revived_slots i) (.inr hx) rfl (.of_zero rfl nofun)).startRun.write _

/-- A rise completes: ON (R53). -/
theorem completeRise (h : s.FollowsPlan) (i : SlotIx) : (s.completeRise i).FollowsPlan := by
  unfold State.completeRise
  by_cases hcond : (s.slots[i].state = .rising && s.slots[i].ramp.isSome) = true
  · refine h.set_carrying ((State.SlotsAct.refl s).modSlot i _)
      (y := { s.slots[i] with state := .on, ramp := none, gain := s.slots[i].endGain }) ?_
      (.inl (of_decide_eq_true (Bool.and_eq_true_iff.mp hcond).1)) rfl rfl nofun
    rw [State.modSlot_slots, if_pos hcond]
  · refine h.set_same ((State.SlotsAct.refl s).modSlot i _) (y := s.slots[i]) ?_ rfl rfl rfl rfl
    rw [State.modSlot_slots, if_neg hcond]

/-! ### The level interval expiry (R17, R85 to R87) -/

theorem changePool (h : s.FollowsPlan) (new : Nat) (n : Option Notice) : (s.changePool new n).FollowsPlan := by
  unfold State.changePool
  split
  · exact h
  · have hpool : (s.modAlloc fun a => { a with pool := new }).FollowsPlan :=
      h.of_slots_eq ⟨rfl, rfl, rfl, fun _ => .inl rfl, id, id⟩ rfl
    exact (hpool.writeOpt n).startRun

/-- The run of overloaded intervals counts (R86). -/
theorem overloadRun (h : s.FollowsPlan) (n : Nat) : (s.modAlloc fun a => { a with overloadRun := n }).FollowsPlan :=
  h.of_slots_eq ⟨rfl, rfl, rfl, fun _ => .inl rfl, id, id⟩ rfl

theorem judgeInterval (h : s.FollowsPlan) : s.judgeInterval.FollowsPlan := by
  have hjudged : (if s.overloaded then s.countOverload.onOverloaded else s.onClean).FollowsPlan := by
    split
    · have hcount : s.countOverload.FollowsPlan := by
        obtain ⟨c, r, e⟩ := s.countOverload_frame
        rw [e]
        exact h.update _ _ _ _ _ _
      unfold State.onOverloaded
      split
      · exact (hcount.overloadRun 0).changePool _ _
      · exact hcount.overloadRun _
    · exact (h.overloadRun 0).changePool _ _
  unfold State.judgeInterval
  dsimp only
  refine update ?_ _ _ _ _ _ _
  split
  · split
    · obtain ⟨c, r, e⟩ := (if s.overloaded then s.countOverload.onOverloaded else s.onClean).countClip_frame
      rw [e]
      exact hjudged.update _ _ _ _ _ _
    · exact hjudged
  all_goals exact h

theorem turn (h : s.FollowsPlan) (ms : PerSlot (Option (Int × Source))) (a : Turn) : (s.turn ms a).FollowsPlan := by
  cases a with
  | judge i => exact h.takeMeasurement i _
  | combiner => exact h.judgeInterval
  | holdOut i => exact h.holdOut i
  | reacquireOut i => exact h.reacquireOut i

theorem expireInterval (h : s.FollowsPlan) (order : List Turn) : (s.expireInterval order).FollowsPlan :=
  foldl_keeps State.FollowsPlan _ (fun _ a hu => hu.turn _ a) _ _ (h.update _ _ _ _ _ _)

/-! ### Plan Memory, the idle part and the reset -/

theorem of_engineActs (h : s.FollowsPlan) {t : State} (hk : s.EngineActs t) : t.FollowsPlan :=
  h.of_slots_eq (.of_engineActs hk) hk.slots

/-- Plan Memory's time and the item it reads, in the part left alone (R116, R125). -/
theorem memoryPeriod_reads (s : State) : s.memoryPeriod.startingUp = s.memory.startingUp
    ∧ s.memoryPeriod.reloading = s.memory.reloading := by
  rcases s.memoryPeriod_cases with e | ⟨op, next, hop, -, -, e⟩ <;> rw [e]
  · exact ⟨rfl, rfl⟩
  · have hread : (s.memory.readOn (s.readsIntact 0) op next).op = some (op.atItem next) := by
      unfold Memory.readOn
      dsimp only
      split
      · rw [Memory.markCorrupt_frame]
      · rfl
    unfold Memory.startingUp Memory.reloading
    dsimp only
    rw [hread, hop]
    cases op <;> exact ⟨rfl, rfl⟩

theorem samplePeriod (h : s.FollowsPlan) : s.samplePeriod.FollowsPlan := by
  obtain ⟨hstart, hreload⟩ := memoryPeriod_reads s
  refine h.of_admits ⟨rfl, rfl, rfl, fun _ => .inl rfl, hstart.symm.trans, hreload.symm.trans⟩ fun i => ?_
  show s.AdmitsSlot i (Vector.ofFn fun i => s.slots[i].tick : PerSlot Slot)[i]
  rw [PerSlot.getElem_ofFn]
  exact h.admits_same i rfl rfl rfl rfl

theorem idle (h : s.FollowsPlan) : s.idle.FollowsPlan := by
  have hclock {u : State} (hu : u.FollowsPlan) (n : Nat) : State.FollowsPlan { u with sampleClock := n } :=
    hu.of_slots_eq ⟨rfl, rfl, rfl, fun _ => .inl rfl, id, id⟩ rfl
  unfold State.idle
  split
  · exact hclock h _
  · split
    · exact h.of_slots_eq ⟨rfl, rfl, rfl, fun _ => .inl rfl, id, id⟩ rfl
    · exact hclock h.samplePeriod _

/-- An idle engine reads no boot page. -/
theorem noRead_of_idle {m : Memory} (hop : m.op = none) : m.startingUp = false ∧ m.reloading = false := by
  rw [Memory.startingUp, Memory.reloading, hop]
  exact ⟨rfl, rfl⟩

/-- A reset part is at its reset values, with an idle engine (R116, R132). -/
theorem deviceReset (s : State) (cause : ResetCause) : (s.deviceReset cause).FollowsPlan := by
  obtain ⟨hstart, hreload⟩ := noRead_of_idle s.memory.afterReset_idle.1
  exact reset_followsPlan.of_slots_eq ⟨rfl, rfl, rfl, fun _ => .inl rfl,
    fun e => absurd (hstart.symm.trans e) Bool.false_ne_true,
    fun e => absurd (hreload.symm.trans e) Bool.false_ne_true⟩ rfl

end State.FollowsPlan

end Sys2Proof.Machine

namespace Sys2Proof.Machine

/-! ### Changes of the active plan in READY (R34, R35) -/

namespace State.FollowsPlan

variable {s t : State}

/-- The Allocator is held outside READY (R73). -/
theorem held_of_busy (h : s.FollowsPlan) (hbusy : s.ctl.state ≠ .ready) : s.alloc.held = true := by
  by_contra hfree
  exact hbusy (h.ready_of_free hfree)

/-- Outside STARTING there is no reset, and the engine does not start up (R97, R125). -/
theorem noStartUp (h : s.FollowsPlan) (hstate : s.ctl.state ≠ .starting) :
    s.inReset = false ∧ s.memory.startingUp = false := by
  obtain ⟨hreset, hstart, -⟩ := h.reads
  constructor <;> by_contra hc <;> rw [Bool.not_eq_false] at hc
  · exact hstate (hreset hc)
  · exact hstate (hstart hc)

/-- Outside LOADING the engine reads for no RELOAD (R129). -/
theorem noReload (h : s.FollowsPlan) (hstate : s.ctl.state ≠ .loading) : s.memory.reloading = false := by
  obtain ⟨-, -, hreload⟩ := h.reads
  by_contra hc
  rw [Bool.not_eq_false] at hc
  exact hstate (hreload hc)

/-- A trim gives the READY Controller another active plan, which the slots and the shares follow. -/
theorem of_trim (h : s.FollowsPlan) (hready : s.ctl.state = .ready) {pl : Plan} {generation : Nat}
    (hctl : t.ctl = { s.ctl with active := pl, generation := generation }) (hheld : t.alloc.held = s.alloc.held)
    (hreset : t.inReset = s.inReset) (hmemory : t.memory = s.memory) (hplan : pl.valid = true) (hslots : t.SlotsFollow)
    (hshares : ∀ i : SlotIx, t.alloc.table[i].share = pl.entries[i].share) : t.FollowsPlan := by
  have hactive : t.ctl.active = pl := by rw [hctl]
  refine of_ready (by rw [State.PlanValid, hactive]; exact hplan) ?_ (by rw [hctl]; exact hready) ?_ hslots
    (by rw [hactive]; exact hshares)
  · rw [State.ControllerFits, hctl, hheld]
    exact h.controller
  · rw [State.ReadsFit, hctl, hreset, hmemory]
    exact h.reads

/-- An accepted TRIM LEVEL and its run (R35). -/
theorem trimLevel (h : s.FollowsPlan) (hready : s.ctl.state = .ready) (p : Port) (tag : Byte) (i : SlotIx) (delta : Int) :
    (s.trimLevel p tag i delta).FollowsPlan := by
  have hfree : ¬ (s.trimmedLevel p tag i delta).alloc.held = true := by
    have := h.controller.1.mp hready
    exact fun hheld => Bool.false_ne_true (this.symm.trans hheld)
  have hrun : s.trimLevel p tag i delta = (s.trimmedLevel p tag i delta).run false := if_neg hfree
  have hact : (s.trimmedLevel p tag i delta).SlotsAct (s.trimLevel p tag i delta) := (State.SlotsAct.refl _).startRun
  have hfollow : (s.trimmedLevel p tag i delta).SlotsFollow := by
    intro j
    have hj : s.slots[j].Follows s.ctl.active.entries[j] := h.slotsFollow (by rw [hready]; nofun) j
    show s.slots[j].Follows
      (s.ctl.active.setEntry i { s.ctl.active.entries[i] with share := trimmedShare (s.share i) delta }).entries[j]
    rw [Plan.setEntry_entries]
    split
    · subst j
      exact ⟨hj.copy, hj.enabled, hj.count⟩
    · exact hj
  refine h.of_trim hready (s.trimLevel_ctl p tag i delta) hact.held hact.inReset hact.memory
    (Plan.valid_setShare h.planValid i (trimmedShare_le _ _)) ?_ fun j => ?_
  · rw [hrun]
    exact hfollow.run false
  · rw [hrun, State.run_share]
    rfl

/-- An accepted TRIM FREQUENCY changes the entry and the slot's copy alike (R36). -/
theorem trimFrequency (h : s.FollowsPlan) (hready : s.ctl.state = .ready) (p : Port) (tag : Byte) (i : SlotIx) (delta : Int)
    (hadmits : s.ctl.active.AdmitsTx i (s.ctl.active.entries[i].txKhz + delta)) :
    (s.trimFrequency p tag i delta).FollowsPlan := by
  have hsame (j : SlotIx) : s.slots[j].Follows s.ctl.active.entries[j] := h.slotsFollow (by rw [hready]; nofun) j
  have hshare : ∀ j : SlotIx, s.alloc.table[j].share = s.ctl.active.entries[j].share := by
    rcases h.shares with e | e | e
    · rw [hready] at e; cases e
    · rw [hready] at e; cases e
    · exact e
  refine h.of_trim hready (s.trimFrequency_ctl p tag i delta) rfl rfl rfl (Plan.valid_setTx h.planValid hadmits)
    (fun j => ?_) fun j => ?_
  · rw [State.trimFrequency_ctl, Plan.setEntry_entries]
    show (s.slots.set i { s.slots[i] with
      inUse := { s.slots[i].inUse with txKhz := ((s.slots[i].inUse.txKhz : Int) + delta).toNat } })[j].Follows _
    rw [PerSlot.getElem_set]
    split
    · obtain ⟨hcopy, henabled, hcount⟩ := hsame i
      exact ⟨by rw [hcopy]; rfl, henabled, ⟨hcount.outside, hcount.muted, hcount.failed⟩⟩
    · exact hsame j
  · rw [Plan.setEntry_entries]
    split
    · subst j
      exact hshare i
    · exact hshare j

/-- An accepted RELOAD: LOADING, with the Allocator held and the engine reading for it (R129). -/
theorem beginReload (h : s.FollowsPlan) (hready : s.ctl.state = .ready) (p : Port) (tag : Byte) :
    (s.beginReload p tag).FollowsPlan := by
  have hslots := h.slotsFollow (by rw [hready]; nofun)
  obtain ⟨hreset, -⟩ := h.noStartUp (by rw [hready]; nofun)
  obtain ⟨-, -, hawaiting⟩ := h.controller
  exact {
    planValid := h.planValid
    controller := ⟨⟨nofun, nofun⟩, nofun, hawaiting⟩
    reads := ⟨fun e => absurd (hreset.symm.trans e) Bool.false_ne_true, nofun, fun _ => rfl⟩
    drains := nofun
    copies := fun i => ⟨.inr (hslots i).copy, (hslots i).enabled, nofun⟩
    attempts := h.attempts
    shares := h.shares.elim (fun e => by rw [hready] at e; cases e) fun e =>
      e.elim (fun e => by rw [hready] at e; cases e) fun e => .inr (.inr e) }

/-- The part comes up in STARTING (R125). -/
theorem comeUp (h : s.FollowsPlan) (hreset : s.inReset = true) : s.comeUp.FollowsPlan :=
  ⟨h.planValid, h.controller, ⟨nofun, fun _ => h.reads.1 hreset, nofun⟩, h.drains, h.copies, h.attempts, h.shares⟩

/-! ### The end of a change (R74, R107, R127, R130) -/

/-- READY with no change in progress and the Allocator free. -/
theorem of_ended {pl : Plan} {generation : Nat} (hctl : t.ctl = ⟨.ready, pl, generation, none, none, noSlots, noSlots⟩)
    (hheld : t.alloc.held = false) (hplan : pl.valid = true) (hreset : t.inReset = false)
    (hstart : t.memory.startingUp = false) (hreload : t.memory.reloading = false)
    (hslots : ∀ i : SlotIx, t.slots[i].Follows pl.entries[i])
    (hshares : ∀ i : SlotIx, t.alloc.table[i].share = pl.entries[i].share) : t.FollowsPlan := by
  have hactive : t.ctl.active = pl := by rw [hctl]
  refine of_ready (by rw [State.PlanValid, hactive]; exact hplan) ?_ (by rw [hctl]) ?_ (fun i => hactive ▸ hslots i)
    (fun i => hactive ▸ hshares i)
  · rw [State.ControllerFits, hctl, hheld]
    exact ⟨⟨fun _ => rfl, fun _ => rfl⟩, fun _ => ⟨rfl, rfl, rfl, rfl⟩, fun _ e => e⟩
  · rw [State.ReadsFit, hreset, hstart, hreload]
    exact ⟨nofun, nofun, nofun⟩

end State.FollowsPlan

/-- A raised slot follows its active entry, as does one that followed it before (R61, R62). -/
theorem State.raiseSlots_follow {s : State} {l : List SlotIx} (hl : l.Nodup) (hheld : s.alloc.held = true)
    (hoff : ∀ i ∈ l, s.slots[i].state = .off) (hrest : ∀ i ∉ l, s.slots[i].Follows s.ctl.active.entries[i]) (i : SlotIx) :
    (s.raiseSlots l).slots[i].Follows s.ctl.active.entries[i] := by
  have hctl : ((s.orderedFree l).tabled true).ctl = s.ctl := State.raiseSlots_ctl hl
  have hbefore : (if i ∈ l then s.slots[i].ordered s.ctl.active.entries[i] else s.slots[i]).Follows
      ((s.orderedFree l).tabled true).ctl.active.entries[i] := by
    rw [hctl]
    split
    · rename_i hi
      have hx : s.slots[i].state = .off := hoff i hi
      exact ⟨rfl, .inl hx, .of_zero rfl (by show s.slots[i].state ≠ _; rw [hx]; nofun)⟩
    · exact hrest i ‹_›
  have hafter := hbefore.delivered true s.alloc.table
  rw [hctl] at hafter
  rw [State.raiseSlots_slots hl hheld]
  exact hafter

namespace State.FollowsPlan

variable {s : State}

/-- RAISING, once every drained slot is OFF (R107). -/
theorem raise (h : s.FollowsPlan) (hdraining : s.ctl.state = .draining)
    (hoff : ∀ i : SlotIx, s.ctl.drainSet[i] = true → s.slots[i].state = .off) : s.raise.FollowsPlan := by
  have hheld : s.alloc.held = true := h.held_of_busy (by rw [hdraining]; nofun)
  obtain ⟨hreset, hstart⟩ := h.noStartUp (by rw [hdraining]; nofun)
  have hreload := h.noReload (by rw [hdraining]; nofun)
  have hframe := State.raise_frame hheld
  refine of_ended (pl := s.ctl.active) (generation := s.ctl.generation) (by rw [hframe]; rfl) (by rw [hframe])
    h.planValid (by rw [hframe]; exact hreset) (by rw [hframe]; exact hstart) (by rw [hframe]; exact hreload)
    (fun i => ?_) fun i => ?_
  · rw [State.raise_slots hheld]
    refine State.raiseSlots_follow (s := s.inRaising) (nodup_members _) hheld (fun j hj => hoff j (mem_members.mp hj))
      (fun j hj => h.follows fun hd => hj (mem_members.mpr hd.2)) i
  · rw [State.raise_alloc hheld, State.raisedDrained, State.raiseSlots_table (s := s.inRaising) (nodup_members _) hheld]
    rfl

/-- RAISING is entered from DRAINING once no fall is awaited (R104, R105). -/
theorem raiseIfDrained (h : s.FollowsPlan) (hdraining : s.ctl.state = .draining) : s.raiseIfDrained.FollowsPlan := by
  unfold State.raiseIfDrained
  split
  · rename_i hempty
    refine h.raise hdraining fun i hi => (h.drains hdraining i hi).resolve_right fun ⟨_, _, hawait, _⟩ => ?_
    rw [List.isEmpty_iff] at hempty
    have hmem := mem_members.mpr hawait
    rw [hempty] at hmem
    cases hmem
  · exact h

/-- The awaiting set lets go of a slot that is OFF (R105). -/
theorem unawait (h : s.FollowsPlan) {i : SlotIx} (hoff : s.slots[i].state = .off) :
    (s.modCtl fun c => { c with awaiting := c.awaiting.set i false }).FollowsPlan := by
  have hset (j : SlotIx) : (s.ctl.awaiting.set i false)[j] = if j = i then false else s.ctl.awaiting[j] :=
    PerSlot.getElem_set _ _ _ _
  refine ⟨h.planValid, ?_, h.reads, fun hd j hj => ?_, h.copies, h.attempts, h.shares⟩
  · obtain ⟨hheld, hready, hawaiting⟩ := h.controller
    refine ⟨hheld, fun e => ?_, fun j hj => hawaiting j ?_⟩
    · obtain ⟨hchange, hincoming, hdrain, hawait⟩ := hready e
      refine ⟨hchange, hincoming, hdrain, PerSlot.ext fun j => ?_⟩
      have hnone : s.ctl.awaiting[j] = false := by rw [hawait]; exact Vector.getElem_replicate _
      show (s.ctl.awaiting.set i false)[j] = noSlots[j]
      rw [hset, hnone, ite_self]
      exact (Vector.getElem_replicate _).symm
    · have hj' : (s.ctl.awaiting.set i false)[j] = true := hj
      rw [hset] at hj'
      split at hj'
      · cases hj'
      · exact hj'
  · by_cases hji : j = i
    · subst j
      exact .inl hoff
    · rcases h.drains hd j hj with e | ⟨e, e', hawait, hspaced⟩
      · exact .inl e
      · refine .inr ⟨e, e', ?_, hspaced⟩
        show (s.ctl.awaiting.set i false)[j] = true
        rw [hset, if_neg hji]
        exact hawait

/-- A fall completes (R55, R105). -/
theorem completeFall (h : s.FollowsPlan) {i : SlotIx} (hx : s.slots[i].state = .falling) :
    (s.completeFall i).FollowsPlan := by
  have hoff : (s.enterOff i).FollowsPlan :=
    h.of_set (.of_slotsAct ((State.SlotsAct.refl s).enterOff i)) i rfl (.of_off rfl rfl rfl)
  unfold State.completeFall
  split
  · rename_i hdest
    have hzero : s.slots[i].attempts = 0 := (h.count i).outside (by rw [hx]; nofun) (by rw [hx]; nofun)
    have hk := (((State.SlotsAct.refl s).modSlot i fun x => { x with fallDest := none }).enterDeferred i .grant)
    refine h.of_set (.of_slotsAct hk) i
      (y := { s.slots[i] with fallDest := none, state := .deferred, reacquire := none, ramp := none
                              attempts := if s.slots[i].state = .muted then 0 else s.slots[i].attempts }) ?_
      (h.admits_live (by rw [hx]; nofun) (.inr (by rw [hdest]; nofun)) rfl (.of_zero ?_ nofun))
    · show (s.slots.set i _).set i _ = _
      rw [PerSlot.set_set, State.modSlot_slots, PerSlot.getElem_set_self]
    · show (if s.slots[i].state = .muted then 0 else s.slots[i].attempts) = 0
      rw [hzero, ite_self]
  all_goals
    dsimp only
    split
    · rename_i hcond
      have hdraining : (s.enterOff i).ctl.state = .draining := of_decide_eq_true (Bool.and_eq_true_iff.mp hcond).1
      have hslot : (s.enterOff i).slots[i].state = .off := by
        show (s.slots.set i _)[i].state = _
        rw [PerSlot.getElem_set_self]
      exact (hoff.unawait hslot).raiseIfDrained hdraining
    · exact hoff

end State.FollowsPlan

/-- The release of a held Allocator without a raise, with or without one run, leaves the slots and the shares with the active
plan (R74). -/
theorem State.releaseWithoutRaise_follows {s : State} (hheld : s.alloc.held = true) (hslots : s.SlotsFollow)
    (hshares : ∀ i : SlotIx, s.alloc.table[i].share = s.ctl.active.entries[i].share) :
    ∃ sl tb r, s.releaseWithoutRaise = { s with
        slots := sl, ring := r, alloc := { s.alloc with table := tb, held := false, pendingRun := false } }
      ∧ (∀ i : SlotIx, sl[i].Follows s.ctl.active.entries[i])
      ∧ ∀ i : SlotIx, tb[i].share = s.ctl.active.entries[i].share := by
  unfold State.releaseWithoutRaise
  rw [if_pos hheld]
  dsimp only
  split
  · have hrun := State.SlotsFollow.run (s := s.modAlloc fun a => { a with held := false, pendingRun := false }) hslots false
    have hshare := State.run_share (s.modAlloc fun a => { a with held := false, pendingRun := false }) false
    obtain ⟨sl, tb, r, e⟩ := (s.modAlloc fun a => { a with held := false, pendingRun := false }).run_frame false
    rw [e] at hrun hshare
    exact ⟨sl, tb, r, e, hrun, hshare⟩
  · exact ⟨s.slots, s.alloc.table, s.ring, rfl, hslots, hshares⟩

namespace State.FollowsPlan

variable {s : State}

/-- The shares in force outside DRAINING and RAISING (R66). -/
theorem shares_of_settled (h : s.FollowsPlan) (hstate : s.ctl.state = .starting ∨ s.ctl.state = .loading) (i : SlotIx) :
    s.alloc.table[i].share = s.ctl.active.entries[i].share := by
  rcases h.shares with e | e | e
  · rw [e] at hstate; simp at hstate
  · rw [e] at hstate; simp at hstate
  · exact e i

/-- A start-up read ends with a page's record (R127). -/
theorem startUpInstall (h : s.FollowsPlan) (hstarting : s.ctl.state = .starting) (hreset : s.inReset = false)
    (hop : s.memory.op = none) {pl : Plan} (hpl : pl.valid = true) : (s.startUpInstall pl).FollowsPlan := by
  have hheld : s.alloc.held = true := h.held_of_busy (by rw [hstarting]; nofun)
  have hoff (i : SlotIx) : s.slots[i].state = .off := (h.copies i).2.2 hstarting
  have hframe := State.startUpInstall_frame hheld pl
  obtain ⟨hstart, hreload⟩ := noRead_of_idle hop
  refine of_ended (pl := pl) (generation := 1) (by rw [hframe]) (by rw [hframe]) hpl (by rw [hframe]; exact hreset)
    (by rw [hframe]; exact hstart) (by rw [hframe]; exact hreload) (fun i => ?_) fun i => ?_
  · exact State.raiseSlots_follow (s := s.activated pl) nodup_allSlots hheld (fun j _ => hoff j)
      (fun j hj => absurd (mem_allSlots j) hj) i
  · rw [State.startUpInstall_eq]
    show ((s.activated pl).raiseSlots allSlots).alloc.table[i].share = _
    rw [State.raiseSlots_table (s := s.activated pl) nodup_allSlots hheld]
    rfl

/-- A start-up without a usable page ends (R127). -/
theorem startUpFails (h : s.FollowsPlan) (hstarting : s.ctl.state = .starting) (hreset : s.inReset = false)
    (hop : s.memory.op = none) : (s.releaseWithoutRaise.endChange).FollowsPlan := by
  obtain ⟨sl, tb, r, e, hslots, hshares⟩ := State.releaseWithoutRaise_follows
    (h.held_of_busy (by rw [hstarting]; nofun)) (h.slotsFollow (by rw [hstarting]; nofun))
    (h.shares_of_settled (.inl hstarting))
  obtain ⟨hstart, hreload⟩ := noRead_of_idle hop
  rw [e]
  exact of_ended (pl := s.ctl.active) (generation := s.ctl.generation) rfl rfl h.planValid hreset hstart hreload hslots
    hshares

/-- A RELOAD without a usable page ends (R130). -/
theorem reloadFails (h : s.FollowsPlan) (hloading : s.ctl.state = .loading) (hop : s.memory.op = none) :
    (s.endChange.releaseWithoutRaise).FollowsPlan := by
  obtain ⟨hreset, -⟩ := h.noStartUp (by rw [hloading]; nofun)
  obtain ⟨sl, tb, r, e, hslots, hshares⟩ := State.releaseWithoutRaise_follows (s := s.endChange)
    (h.held_of_busy (by rw [hloading]; nofun)) (h.slotsFollow (by rw [hloading]; nofun))
    (h.shares_of_settled (.inr hloading))
  obtain ⟨hstart, hreload⟩ := noRead_of_idle hop
  rw [e]
  exact of_ended (pl := s.ctl.active) (generation := s.ctl.generation) rfl rfl h.planValid hreset hstart hreload hslots
    hshares

theorem startUpEnd (h : s.FollowsPlan) (hreset : s.inReset = false) (x y : Bool) : (s.startUpEnd x y).FollowsPlan := by
  rcases s.startUpEnd_cases x y with e | ⟨item, o, hop, hends⟩
  · rw [e]
    exact h
  · have hread := h.of_engineActs (.endRead s o)
    have hstarting : (s.endRead o).ctl.state = .starting := h.reads.2.1 (by rw [Memory.startingUp, hop])
    rcases hends with ⟨pl, hpl, e⟩ | e <;> rw [e]
    · exact (hread.startUpInstall hstarting hreset rfl hpl).write _
    · exact (hread.startUpFails hstarting hreset rfl).write _

end State.FollowsPlan

end Sys2Proof.Machine

namespace Sys2Proof.Machine

/-! ### The orders of an installation, slot by slot (R50, R60, R62, R100, R103, R104) -/

/-- Orders that each give their own slot a record as R says leave the other slots, while they keep P. -/
theorem foldl_orders {P : State → Prop} {R : SlotIx → Slot → Slot → Prop} {f : State → SlotIx → State}
    (hP : ∀ u i, P u → P (f u i))
    (hself : ∀ u i, P u → ∃ y, (f u i).slots = u.slots.set i y ∧ R i u.slots[i] y) {l : List SlotIx} (hl : l.Nodup)
    {u : State} (hu : P u) (j : SlotIx) :
    if j ∈ l then R j u.slots[j] (l.foldl f u).slots[j] else (l.foldl f u).slots[j] = u.slots[j] := by
  induction l generalizing u with
  | nil => exact rfl
  | cons i l ih =>
    obtain ⟨hi, hl⟩ := List.nodup_cons.mp hl
    obtain ⟨y, hslots, hR⟩ := hself u i hu
    have hrest := ih hl (hP u i hu)
    rw [hslots, PerSlot.getElem_set] at hrest
    rw [List.foldl_cons]
    by_cases hji : j = i
    · subst j
      rw [if_neg hi, if_pos rfl] at hrest
      rw [if_pos List.mem_cons_self, hrest]
      exact hR
    · rw [if_neg hji] at hrest
      simp only [List.mem_cons, hji, false_or]
      exact hrest

/-- The record y of a slot with record x when it has taken up the threshold and the limit of an entry: the rest of the copy
and the count's fit stay, and so does OFF (R50, R62). -/
structure Slot.Levelled (old new : Entry) (x y : Slot) : Prop where
  copy : y.inUse = { x.inUse with threshold := new.threshold }
  count : x.CountFits old.reacquireLimit → y.CountFits new.reacquireLimit
  off : x.state = .off → y.state = .off

/-- The record y of a slot with record x after a cut or a drain order: OFF, or on the air and falling towards OFF (R60). -/
structure Slot.Drained (x y : Slot) : Prop where
  copy : y.inUse = x.inUse
  count : ∀ old new : Nat, x.CountFits old → y.CountFits new
  state : y.state = .off ∨ x.state.onAir = true ∧ y.state = .falling ∧ y.fallDest = some .off

theorem State.startRun_slots_of_held {s : State} (hheld : s.alloc.held = true) : s.startRun.slots = s.slots := by
  unfold State.startRun
  rw [if_pos hheld]
  rfl

/-- A changed limit adjusts the attempt count of its slot so that it fits (R50). -/
theorem State.adjustLimit_slots {s : State} (hheld : s.alloc.held = true) (i : SlotIx) (limit : Nat) :
    ∃ y, (s.adjustLimit i limit).slots = s.slots.set i y ∧ y.inUse = s.slots[i].inUse
      ∧ (s.slots[i].state = .off → y.state = .off) ∧ ∀ old, s.slots[i].CountFits old → y.CountFits limit := by
  unfold State.adjustLimit
  split
  · rename_i hx
    split
    · refine ⟨s.revivedSlot i, ?_, rfl, ?_, fun _ _ => .of_zero rfl nofun⟩
      · rw [← s.revived_slots i, ← State.startRun_slots_of_held (s := s.revived i) hheld]
        rfl
      · rw [hx]
        nofun
    · rename_i hlimit
      refine ⟨_, rfl, rfl, id, fun _ _ => ⟨fun _ e => absurd hx e, fun e => ?_, fun _ => ?_⟩⟩
      · cases hx.symm.trans e
      · exact ⟨rfl, Nat.pos_of_ne_zero hlimit⟩
  · rename_i hx
    split
    · rename_i hcond
      rw [Bool.and_eq_true_iff, decide_eq_true_eq, decide_eq_true_eq] at hcond
      obtain ⟨hpos, hle⟩ := hcond
      refine ⟨_, rfl, rfl, id, fun old hcount => ⟨fun hm hf => ?_, fun _ _ => ?_, fun e => absurd e hx⟩⟩
      · have hzero := hcount.outside hm hf
        omega
      · show limit - 1 < limit
        omega
    · rename_i hcond
      rw [Bool.and_eq_true_iff, decide_eq_true_eq, decide_eq_true_eq, not_and, not_le] at hcond
      exact ⟨s.slots[i], (PerSlot.set_getElem_self _ _).symm, rfl, id,
        fun old hcount => ⟨hcount.outside, fun _ => hcond, fun e => absurd e hx⟩⟩

theorem State.levelOnly_slots {s : State} (hheld : s.alloc.held = true) (old : Plan) (i : SlotIx) :
    ∃ y, (State.levelOnly old s i).slots = s.slots.set i y
      ∧ Slot.Levelled old.entries[i] s.ctl.active.entries[i] s.slots[i] y := by
  let x : Slot := { s.slots[i] with inUse := { s.slots[i].inUse with threshold := s.ctl.active.entries[i].threshold } }
  unfold State.levelOnly
  dsimp only
  split
  · rename_i hlimit
    exact ⟨x, rfl, rfl, fun hcount => ⟨hcount.outside, by rw [hlimit]; exact hcount.muted, by rw [hlimit]; exact hcount.failed⟩, id⟩
  · obtain ⟨y, hslots, hcopy, hoff, hcount⟩ := State.adjustLimit_slots (s := s.modSlot i fun x =>
      { x with inUse := { x.inUse with threshold := s.ctl.active.entries[i].threshold } }) hheld i
      s.ctl.active.entries[i].reacquireLimit
    rw [State.modSlot_slots, PerSlot.set_set] at hslots
    rw [State.modSlot_slots, PerSlot.getElem_set_self] at hcopy hoff hcount
    exact ⟨y, hslots, hcopy, fun h => hcount old.entries[i].reacquireLimit ⟨h.outside, h.muted, h.failed⟩, hoff⟩

theorem State.enterOff_slots (s : State) (i : SlotIx) :
    ∃ y, (s.enterOff i).slots = s.slots.set i y ∧ Slot.Drained s.slots[i] y ∧ y.state = .off :=
  ⟨_, rfl, ⟨rfl, fun _ _ _ => .of_zero rfl nofun, .inl rfl⟩, rfl⟩

theorem State.drainOrder_slots (s : State) (i : SlotIx) :
    ∃ y, (s.drainOrder i).slots = s.slots.set i y ∧ Slot.Drained s.slots[i] y := by
  obtain ⟨z, hslots, hz, -⟩ := s.enterOff_slots i
  have hcount (hm : s.slots[i].state ≠ .muted) (hf : s.slots[i].state ≠ .failed) {y : Slot}
      (hy : y.attempts = s.slots[i].attempts) (hstate : y.state ≠ .failed) (old new : Nat) (h : s.slots[i].CountFits old) :
      y.CountFits new := .of_zero (hy.trans (h.outside hm hf)) hstate
  unfold State.drainOrder
  split
  case h_4 hx =>
    exact ⟨_, rfl, rfl, hcount (by rw [hx]; nofun) (by rw [hx]; nofun) rfl (by show s.slots[i].state ≠ _; rw [hx]; nofun),
      .inr ⟨by rw [hx]; rfl, hx, rfl⟩⟩
  case h_8 hx =>
    exact ⟨s.slots[i], (PerSlot.set_getElem_self _ _).symm, rfl,
      hcount (by rw [hx]; nofun) (by rw [hx]; nofun) rfl (by rw [hx]; nofun), .inl hx⟩
  case h_1 hx | h_2 hx | h_3 hx =>
    exact ⟨_, rfl, rfl, hcount (by rw [hx]; nofun) (by rw [hx]; nofun) rfl nofun, .inr ⟨by rw [hx]; rfl, rfl, rfl⟩⟩
  all_goals exact ⟨z, hslots, hz⟩

/-- The orders of an installation slot by slot: a slot that is not drained takes up its threshold and its limit, a drained
one has a cut or a drain order (R100, R103, R104). -/
theorem State.sendOrders_slots {s : State} (hheld : s.alloc.held = true) (old : Plan) {drain cut : PerSlot Bool}
    (hcut : ∀ i : SlotIx, cut[i] = true → drain[i] = true) (i : SlotIx) :
    (drain[i] = false → Slot.Levelled old.entries[i] s.ctl.active.entries[i] s.slots[i] (s.sendOrders old drain cut).slots[i])
    ∧ (drain[i] = true → Slot.Drained s.slots[i] (s.sendOrders old drain cut).slots[i]
      ∧ (cut[i] = true → (s.sendOrders old drain cut).slots[i].state = .off)) := by
  have hlevel := foldl_orders (P := s.SlotsAct) (fun _ i hu => hu.levelOnly old i)
    (R := fun i => Slot.Levelled old.entries[i] s.ctl.active.entries[i])
    (fun u i hu => by
      rw [← hu.ctl]
      exact State.levelOnly_slots (hu.held.trans hheld) old i)
    (nodup_allSlots.filter fun i => !drain[i]) (.refl s) i
  have hs1 : s.SlotsAct ((allSlots.filter fun i => !drain[i]).foldl (State.levelOnly old) s) :=
    (State.SlotsAct.refl s).foldl (fun i hu => hu.levelOnly old i) _
  have hoff := foldl_orders (P := s.SlotsAct) (fun _ i hu => hu.enterOff i)
    (R := fun _ x y => Slot.Drained x y ∧ y.state = .off) (fun u i _ => u.enterOff_slots i) (nodup_members cut) hs1 i
  have hs2 := hs1.foldl (fun i hu => hu.enterOff i) (members cut)
  have hdrain := foldl_orders (P := s.SlotsAct) (fun _ i hu => hu.drainOrder i) (R := fun _ => Slot.Drained)
    (fun u i _ => u.drainOrder_slots i) (nodup_allSlots.filter fun i => drain[i] && !cut[i]) hs2 i
  simp only [List.mem_filter, mem_allSlots, true_and, mem_members, Bool.not_eq_true', Bool.and_eq_true]
    at hlevel hoff hdrain
  unfold State.sendOrders
  dsimp only
  constructor
  · intro hi
    have hnocut : ¬ cut[i] = true := fun hc => by rw [hcut i hc] at hi; cases hi
    rw [if_neg (by rw [hi]; nofun)] at hdrain
    rw [if_neg hnocut] at hoff
    rw [if_pos hi] at hlevel
    rw [hdrain, hoff]
    exact hlevel
  · intro hi
    rw [if_neg (by rw [hi]; nofun)] at hlevel
    by_cases hc : cut[i] = true
    · rw [if_neg (by rw [hc]; nofun)] at hdrain
      rw [if_pos hc, hlevel] at hoff
      rw [hdrain]
      exact ⟨hoff.1, fun _ => hoff.2⟩
    · rw [if_neg hc, hlevel] at hoff
      rw [if_pos ⟨hi, by simpa using hc⟩, hoff] at hdrain
      exact ⟨hdrain, fun h => absurd h hc⟩

/-! ### An installation through DRAINING (R100 to R105) -/

/-- A slot that an incoming plan does not drain differs from its entry in the threshold alone (R101). -/
theorem drains_eq_false {u : InUse} {n : Entry} {centre : Bool} (h : drains u n centre = false) :
    { u with threshold := n.threshold } = n.inUse := by
  simp only [drains, Bool.or_eq_false_iff, decide_eq_false_iff_not, ne_eq, not_not] at h
  obtain ⟨⟨⟨⟨⟨henabled, hrx⟩, htx⟩, hbw⟩, halt⟩, -⟩ := h
  rw [Entry.inUse, henabled, hrx, htx, hbw, halt]

theorem State.drainSetFor_getElem (s : State) (pl : Plan) (i : SlotIx) : (s.drainSetFor pl)[i]
    = drains s.slots[i].inUse pl.entries[i] (centreChanged s.ctl.active.header pl.header) := PerSlot.getElem_ofFn _ i

theorem State.cutSetFor_getElem (s : State) (pl : Plan) (i : SlotIx) :
    (s.cutSetFor pl)[i] = s.cuts (s.drainSetFor pl) pl.header.guardKhz i := PerSlot.getElem_ofFn _ i

theorem State.drains_of_cuts {s : State} {drain : PerSlot Bool} {guardKhz : Nat} {i : SlotIx}
    (h : s.cuts drain guardKhz i = true) : drain[i] = true := by
  simp only [State.cuts, Bool.and_eq_true] at h
  exact h.1.1

/-- A drained slot on the air that is not cut keeps the incoming guard to the slots that stay on the air (R103). -/
theorem State.spaced_of_not_cut {s : State} {drain : PerSlot Bool} {guardKhz : Nat} {i : SlotIx}
    (h : ¬ s.cuts drain guardKhz i = true) (hi : drain[i] = true) (honAir : s.slots[i].state.onAir = true) {j : SlotIx}
    (hj : j ≠ i) (hother : if drain[j] = true then s.slots[j].state.onAir = true else s.slots[j].inUse.enabled = true) :
    s.inUseSpacing guardKhz i j = true := by
  by_contra hclose
  refine h ?_
  rw [State.cuts, hi, honAir, Bool.and_self, Bool.true_and, List.any_eq_true]
  refine ⟨j, mem_allSlots j, ?_⟩
  rw [Bool.not_eq_true] at hclose
  rw [hclose, Bool.not_false, Bool.and_true, Bool.and_eq_true, decide_eq_true_eq]
  refine ⟨hj, ?_⟩
  split at hother <;> simp_all [-Fin.getElem_fin]

theorem State.awaitFalls_state (s : State) (drain : PerSlot Bool) : (s.awaitFalls drain).ctl.state = s.ctl.state := by
  unfold State.awaitFalls
  generalize (Vector.ofFn fun i => drain[i] && s.slots[i].state = .falling : PerSlot Bool) = awaiting
  rfl

namespace State.FollowsPlan

variable {s : State}

/-- In DRAINING the rest follows from the records of the slots that are drained and of those that are not. -/
theorem of_draining (hplan : s.PlanValid) (hstate : s.ctl.state = .draining) (hheld : s.alloc.held = true)
    (hreset : s.inReset = false) (hstart : s.memory.startingUp = false) (hreload : s.memory.reloading = false)
    (hawait : ∀ i : SlotIx, s.ctl.awaiting[i] = true ↔ s.ctl.drainSet[i] = true ∧ s.slots[i].state = .falling)
    (hkept : ∀ i : SlotIx, s.ctl.drainSet[i] = false → s.slots[i].Follows s.ctl.active.entries[i])
    (hdrained : ∀ i : SlotIx, s.ctl.drainSet[i] = true → s.slots[i].CountFits s.ctl.active.entries[i].reacquireLimit
      ∧ (s.slots[i].state = .off ∨ s.slots[i].inUse.enabled = true ∧ s.slots[i].state = .falling
        ∧ s.slots[i].fallDest = some .off ∧ ∀ j : SlotIx, j ≠ i →
          (if s.ctl.drainSet[j] = true then s.slots[j].state.onAir = true else s.slots[j].inUse.enabled = true) →
          s.Spaced i j)) : s.FollowsPlan := by
  have hcases (i : SlotIx) : s.ctl.drainSet[i] = true ∨ s.ctl.drainSet[i] = false := Bool.eq_false_or_eq_true _
  refine ⟨hplan, ?_, ?_, fun _ i hi => ?_, fun i => ?_, fun i => ?_, .inl hstate⟩
  · rw [State.ControllerFits, hstate, hheld]
    exact ⟨⟨nofun, nofun⟩, nofun, fun i hi => ((hawait i).mp hi).1⟩
  · rw [State.ReadsFit, hreset, hstart, hreload]
    exact ⟨nofun, nofun, nofun⟩
  · refine (hdrained i hi).2.imp_right fun ⟨_, hfalling, hdest, hspaced⟩ => ?_
    exact ⟨hfalling, hdest, (hawait i).mpr ⟨hi, hfalling⟩, hspaced⟩
  · rw [hstate]
    rcases hcases i with hi | hi
    · exact ⟨.inl ⟨rfl, hi⟩, (hdrained i hi).2.imp_right fun h => h.1, nofun⟩
    · exact ⟨.inr (hkept i hi).copy, (hkept i hi).enabled, nofun⟩
  · have hcount : s.slots[i].CountFits s.ctl.active.entries[i].reacquireLimit :=
      (hcases i).elim (fun hi => (hdrained i hi).1) fun hi => (hkept i hi).count
    exact ⟨hcount.outside, hcount.muted, hcount.failed⟩

/-- The slots that replied to the orders of an installation are with the new plan in DRAINING (R101 to R104). -/
theorem awaitFalls (h : s.FollowsPlan) (hstate : s.ctl.state = .ready ∨ s.ctl.state = .loading)
    (hreload : s.memory.reloading = false) {pl : Plan} (hpl : pl.valid = true) {change : Change} {u : State}
    (hu : (s.takePlan pl change).SlotsAct u)
    (hlevel : ∀ i : SlotIx, (s.drainSetFor pl)[i] = false →
      Slot.Levelled s.ctl.active.entries[i] pl.entries[i] s.slots[i] u.slots[i])
    (hdrain : ∀ i : SlotIx, (s.drainSetFor pl)[i] = true → Slot.Drained s.slots[i] u.slots[i]
      ∧ ((s.cutSetFor pl)[i] = true → u.slots[i].state = .off)) :
    (u.awaitFalls (s.drainSetFor pl)).FollowsPlan := by
  have hsettled : s.ctl.state ≠ .starting ∧ s.ctl.state ≠ .draining := by
    rcases hstate with e | e <;> rw [e] <;> exact ⟨nofun, nofun⟩
  obtain ⟨hreset, hstart⟩ := h.noStartUp hsettled.1
  have hbefore := h.slotsFollow hsettled.2
  have hkept (i : SlotIx) (hi : (s.drainSetFor pl)[i] = false) : u.slots[i].Follows pl.entries[i] := by
    obtain ⟨hcopy, hcount, hoff⟩ := hlevel i hi
    refine ⟨hcopy.trans (drains_eq_false (by rw [← State.drainSetFor_getElem]; exact hi)), ?_, hcount (hbefore i).count⟩
    exact (hbefore i).enabled.imp hoff fun e => by rw [hcopy]; exact e
  have hplace (i : SlotIx) : u.slots[i].inUse.txKhz = s.slots[i].inUse.txKhz
      ∧ u.slots[i].inUse.bwClass = s.slots[i].inUse.bwClass ∧ u.slots[i].inUse.enabled = s.slots[i].inUse.enabled := by
    cases hi : (s.drainSetFor pl)[i] with
    | false => rw [(hlevel i hi).copy]; exact ⟨rfl, rfl, rfl⟩
    | true => rw [(hdrain i hi).1.copy]; exact ⟨rfl, rfl, rfl⟩
  have hspacing (i j : SlotIx) (guardKhz : Nat) : u.inUseSpacing guardKhz i j = s.inUseSpacing guardKhz i j := by
    obtain ⟨htx, hbw, -⟩ := hplace i
    obtain ⟨htx', hbw', -⟩ := hplace j
    rw [State.inUseSpacing, htx, hbw, htx', hbw']
    rfl
  have hdrained (i : SlotIx) (hi : (s.drainSetFor pl)[i] = true) : u.slots[i].CountFits pl.entries[i].reacquireLimit
      ∧ (u.slots[i].state = .off ∨ u.slots[i].inUse.enabled = true ∧ u.slots[i].state = .falling
        ∧ u.slots[i].fallDest = some .off ∧ ∀ j : SlotIx, j ≠ i →
          (if (s.drainSetFor pl)[j] = true then u.slots[j].state.onAir = true else u.slots[j].inUse.enabled = true) →
          u.inUseSpacing pl.header.guardKhz i j = true) := by
    obtain ⟨⟨hcopy, hcount, horder⟩, hcut⟩ := hdrain i hi
    refine ⟨hcount _ _ (hbefore i).count, ?_⟩
    by_cases hoff : u.slots[i].state = .off
    · exact .inl hoff
    · obtain ⟨honAir, hfalling, hdest⟩ := horder.resolve_left hoff
      have henabled : s.slots[i].inUse.enabled = true :=
        (hbefore i).enabled.resolve_left fun e => by rw [e] at honAir; cases honAir
      refine .inr ⟨by rw [hcopy]; exact henabled, hfalling, hdest, fun j hj hother => ?_⟩
      rw [hspacing]
      refine State.spaced_of_not_cut (fun hc => hoff (hcut (by rwa [State.cutSetFor_getElem]))) hi honAir hj ?_
      split at hother
      · rename_i hdj
        rw [if_pos hdj]
        obtain ⟨-, -, hoffj | ⟨honAirj, -⟩⟩ := (hdrain j hdj).1
        · rw [hoffj] at hother; cases hother
        · exact honAirj
      · rename_i hdj
        rw [if_neg hdj, ← (hplace j).2.2]
        exact hother
  have hctl : u.ctl = { s.ctl with
      state := .draining, active := pl, incoming := some pl, generation := nextGeneration s.ctl.generation
      change := some change, drainSet := s.drainSetFor pl, awaiting := noSlots } := hu.ctl
  have hawait (i : SlotIx) : (u.awaitFalls (s.drainSetFor pl)).ctl.awaiting[i] = true
      ↔ (s.drainSetFor pl)[i] = true ∧ u.slots[i].state = .falling := by
    rw [← decide_eq_true_iff (p := u.slots[i].state = .falling), ← Bool.and_eq_true]
    exact iff_of_eq (congrArg (· = true) (PerSlot.getElem_ofFn _ i))
  unfold State.awaitFalls at hawait ⊢
  generalize s.drainSetFor pl = drain at *
  generalize (Vector.ofFn fun i => drain[i] && u.slots[i].state = .falling : PerSlot Bool) = awaiting at *
  have hdraining : u.ctl.state = .draining := by rw [hctl]
  have hactive : u.ctl.active = pl := by rw [hctl]
  have hset : u.ctl.drainSet = drain := by rw [hctl]
  clear hctl
  subst hactive hset
  exact of_draining hpl hdraining hu.held (hu.inReset.trans hreset) (by rw [State.modCtl_memory, hu.memory]; exact hstart)
    (by rw [State.modCtl_memory, hu.memory]; exact hreload) hawait hkept hdrained

/-- A plan is installed (R100, R111). -/
theorem install (h : s.FollowsPlan) (hstate : s.ctl.state = .ready ∨ s.ctl.state = .loading)
    (hreload : s.memory.reloading = false) {pl : Plan} (hpl : pl.valid = true) (change : Change) :
    (s.install pl change).FollowsPlan := by
  let t : State := (s.takePlan pl change).writeOpt
    (begunNotice change (members (s.drainSetFor pl)).length (members (s.cutSetFor pl)).length)
  have ht : (s.takePlan pl change).SlotsAct t := (State.SlotsAct.refl _).writeOpt _
  have hslots : t.slots = s.slots := by
    show (State.writeOpt _ _).slots = _
    rw [State.writeOpt_eq]
    rfl
  have hactive : t.ctl.active = pl := by rw [ht.ctl]; rfl
  have horders := State.sendOrders_slots (s := t) (ht.held.trans rfl) s.ctl.active (drain := s.drainSetFor pl)
    (cut := s.cutSetFor pl) fun i hi => State.drains_of_cuts (by rwa [← State.cutSetFor_getElem])
  rw [hslots, hactive] at horders
  have hdraining : ((t.sendOrders s.ctl.active (s.drainSetFor pl) (s.cutSetFor pl)).awaitFalls
      (s.drainSetFor pl)).ctl.state = .draining := by
    rw [State.awaitFalls_state, ((State.SlotsAct.refl t).sendOrders _ _ _).ctl, ht.ctl]
    rfl
  exact (h.awaitFalls hstate hreload hpl (ht.sendOrders _ _ _) (fun i => (horders i).1) fun i => (horders i).2).raiseIfDrained
    hdraining

end State.FollowsPlan

end Sys2Proof.Machine

namespace Sys2Proof.Machine

/-! ### Every command keeps the slots and the shares with the plan -/

namespace State.FollowsPlan

variable {s : State}

theorem reloadEnd (h : s.FollowsPlan) (x y : Bool) : (s.reloadEnd x y).FollowsPlan := by
  rcases s.reloadEnd_cases x y with e | ⟨item, p, tag, o, hop, hends⟩
  · rw [e]
    exact h
  · have hread := h.of_engineActs (.endRead s o)
    have hloading : (s.endRead o).ctl.state = .loading := h.reads.2.2 (by rw [Memory.reloading, hop])
    rcases hends with ⟨pl, hpl, e⟩ | e <;> rw [e]
    · exact hread.install (.inr hloading) rfl hpl _
    · exact (hread.reloadFails hloading rfl).write _

theorem modDraft (h : s.FollowsPlan) (p : Port) (f : Draft → Draft) : (s.modDraft p f).FollowsPlan :=
  h.of_slots_eq ⟨rfl, rfl, rfl, fun _ => .inl rfl, id, id⟩ rfl

/-- The engine takes an operation that reads no boot page, or a change of the pages and the boot record goes with it. -/
theorem engine (h : s.FollowsPlan) (memory : Memory) (hstart : memory.startingUp = false)
    (hreload : memory.reloading = false) : State.FollowsPlan { s with memory := memory } :=
  h.of_engineActs (.of_frame s memory s.drafts s.ring hstart hreload)

end State.FollowsPlan

theorem Does.followsPlan {c : Instr} {s t : State} (hdoes : Does c s t) (h : s.FollowsPlan) : t.FollowsPlan := by
  cases hdoes with
  | nothing => exact h
  | deviceReset cause => exact .deviceReset s cause
  | resetEnd _ hreset => exact h.comeUp hreset
  | trimLevel p tag i delta _ hready => exact h.trimLevel hready p tag i delta
  | trimFrequency p tag i delta _ hready hadmits => exact h.trimFrequency hready p tag i delta hadmits
  | revive p tag i _ hfailed => exact h.reviveSlot hfailed _ _ _
  | draftCopy p => exact h.modDraft p _
  | draftClear p => exact h.modDraft p _
  | draftPutEntry p => exact h.modDraft p _
  | draftPutHeader p => exact h.modDraft p _
  | commit p tag _ hready hvalid => exact h.install (.inl hready) (h.noReload (by rw [hready]; nofun)) hvalid _
  | pageStore => exact h.engine _ rfl rfl
  | pageLoad p => exact (h.engine _ rfl rfl).modDraft p _
  | pageErase => exact h.engine _ rfl rfl
  | bootSet => exact h.engine _ rfl rfl
  | reload p tag _ hready => exact h.beginReload hready p tag
  | levelIntervalExpiry order => exact h.expireInterval order
  | holdTimerExpiry i => exact h.holdOut i
  | reacquireTimerExpiry i => exact h.reacquireOut i
  | riseCompletion i => exact h.completeRise i
  | fallCompletion i _ hfalling => exact h.completeFall hfalling
  | storeEraseDone => exact h.of_engineActs (.storeErased s)
  | storeProgramDone => exact h.of_engineActs (.storeProgrammed s)
  | storeVerifyDone intact => exact h.of_engineActs (.storeVerified s intact)
  | pageEraseDone => exact h.of_engineActs (.pageErased s)
  | pageLoadReadDone intact => exact h.of_engineActs (.pageLoaded s intact)
  | bootWriteDone intact => exact h.of_engineActs (.bootWritten s intact)
  | startUpReadEnd x y _ hreset => exact h.startUpEnd hreset x y
  | reloadReadEnd x y => exact h.reloadEnd x y

theorem Comes.followsPlan {c : Instr} {s t : State} (h : Comes c s t) (hs : s.FollowsPlan) : t.FollowsPlan := by
  obtain ⟨u, v, hu, hdoes, hv⟩ := h
  exact (hdoes.followsPlan (hs.of_alike hu)).of_alike hv

/-! ### The slots on the air keep the active guard (R103) -/

namespace State.FollowsPlan

variable {s : State}

/-- A drained slot on the air falls, and keeps the guard to every slot on the air (R103, R104). -/
theorem spaced_of_drained (h : s.FollowsPlan) (hdraining : s.ctl.state = .draining) {i j : SlotIx}
    (hi : s.ctl.drainSet[i] = true) (hij : j ≠ i) (honAir : s.slots[i].state.onAir = true)
    (honAir' : s.slots[j].state.onAir = true) : s.Spaced i j := by
  rcases h.drains hdraining i hi with e | ⟨-, -, -, hspaced⟩
  · rw [e] at honAir; cases honAir
  · refine hspaced j hij ?_
    split
    · exact honAir'
    · exact (h.copies j).2.1.resolve_left fun e => by rw [e] at honAir'; cases honAir'

/-- A slot on the air that no change drains holds its enabled entry's placement. -/
theorem onAir_follows (h : s.FollowsPlan) {i : SlotIx}
    (hi : ¬ (s.ctl.state = .draining ∧ s.ctl.drainSet[i] = true)) (honAir : s.slots[i].state.onAir = true) :
    s.slots[i].inUse = s.ctl.active.entries[i].inUse ∧ s.ctl.active.entries[i].enabled = true := by
  obtain ⟨hcopy, henabled, -⟩ := h.follows hi
  refine ⟨hcopy, ?_⟩
  have := henabled.resolve_left fun e => by rw [e] at honAir; cases honAir
  rwa [hcopy] at this

/-- Two slots on the air keep the active guard: by the fall that is awaited of a drained one, else by the validity of the
active plan. -/
theorem apart_of_onAir (h : s.FollowsPlan) {i j : SlotIx} (hij : i ≠ j) (honAir : s.slots[i].state.onAir = true)
    (honAir' : s.slots[j].state.onAir = true) :
    apart s.ctl.active.header.guardKhz s.slots[i].inUse.txKhz s.slots[i].inUse.bwClass s.slots[j].inUse.txKhz
      s.slots[j].inUse.bwClass := by
  by_cases hi : s.ctl.state = .draining ∧ s.ctl.drainSet[i] = true
  · exact of_decide_eq_true (h.spaced_of_drained hi.1 hi.2 hij.symm honAir honAir')
  by_cases hj : s.ctl.state = .draining ∧ s.ctl.drainSet[j] = true
  · exact apart_symm (of_decide_eq_true (h.spaced_of_drained hj.1 hj.2 hij honAir' honAir))
  obtain ⟨hcopy, hen⟩ := h.onAir_follows hi honAir
  obtain ⟨hcopy', hen'⟩ := h.onAir_follows hj honAir'
  obtain ⟨-, hreport⟩ := (Plan.valid_iff _).mp h.planValid
  obtain ⟨-, -, -, -, hapart⟩ := (Plan.report_eq_none_iff _).mp hreport i hen
  rw [hcopy, hcopy']
  exact hapart j hij hen'

end State.FollowsPlan

/-- Settles O23: what a command does keeps the records in range and the slots with the plan, whose validity and whose drains
keep the guard. -/
theorem stepKeepsRecordsAndSlotsOnPlan : Obligations.StepKeepsRecordsAndSlotsOnPlan := by
  refine ⟨fun s t hs ht => ?_, fun s t hs ht => ?_, fun s hs i j hij honAir honAir' =>
    hs.apart_of_onAir hij honAir honAir'⟩
  · rcases step_cases ht with ⟨-, rfl⟩ | ⟨c, rest, -, hc⟩
    · exact hs.idle
    · exact (exec_comes hc).recordsInRange hs
  · rcases step_cases ht with ⟨-, rfl⟩ | ⟨c, rest, -, hc⟩
    · exact hs.idle
    · exact (exec_comes hc).followsPlan (hs.of_alike ⟨rfl, rfl, rfl, rfl, rfl, rfl⟩)

end Sys2Proof.Machine

namespace Sys2Proof.Machine

/-! ### The moves of a slot and its record of the grant table (R41, R43 to R63, R66) -/

/-- The hold timer of y is stopped, or it is that of x, which is not in HOLD. -/
def Slot.HoldStops (x y : Slot) : Prop := y.hold = none ∨ x.state ≠ .hold ∧ y.hold = x.hold

/-- The reacquire timer of y is stopped, or it is that of x, which is not MUTED. -/
def Slot.ReacquireStops (x y : Slot) : Prop := y.reacquire = none ∨ x.state ≠ .muted ∧ y.reacquire = x.reacquire

/-- All that one action can make of a slot's record and its record of the grant table, as far as the state, the timers and
the grant go. -/
inductive SlotMove : Slot × GrantRec → Slot × GrantRec → Prop where
  | stays {x y : Slot} {g : GrantRec} : y.state = x.state → (y.hold.isSome = true → x.hold.isSome = true) →
    (y.reacquire.isSome = true → x.reacquire.isSome = true) → SlotMove (x, g) (y, g)
  | mutes {x y : Slot} {g g' : GrantRec} : y.state = .muted → x.HoldStops y → g' = g ∨ g' = g.freed →
    SlotMove (x, g) (y, g')
  | holds {x y : Slot} {g : GrantRec} : x.state = .on → y.state = .hold → y.reacquire = x.reacquire →
    SlotMove (x, g) (y, g)
  | carries {x y : Slot} {g : GrantRec} : x.state = .hold ∨ x.state = .rising → y.state = .on → x.HoldStops y →
    y.reacquire = x.reacquire → SlotMove (x, g) (y, g)
  | rises {x y : Slot} {g : GrantRec} : x.state = .muted → 0 < g.grant → y.state = .rising → y.hold = x.hold →
    y.reacquire = none → SlotMove (x, g) (y, g)
  | quiets {x y : Slot} {g : GrantRec} : y.state ∈ [SlotState.off, .deferred, .falling, .failed] → x.HoldStops y →
    x.ReacquireStops y → SlotMove (x, g) (y, g.freed)
  | given {x : Slot} {g : GrantRec} {grant share : Nat} (fall rise ceiling : Int) (ramp : Nat) : grant ≤ share →
    (x.state ∈ [SlotState.off, .falling, .failed] → grant = 0) →
    SlotMove (x, g) (x.given grant fall rise ramp, ⟨grant, targetOf ceiling grant, share⟩)
  | raised {x : Slot} {g : GrantRec} {grant share : Nat} (rise ceiling : Int) (ramp : Nat) : grant ≤ share →
    x.state = .off → SlotMove (x, g) (x.raised grant rise ramp, ⟨grant, targetOf ceiling grant, share⟩)

/-- Every slot of t comes from that of s by moves. -/
def State.SlotsMove (s t : State) : Prop :=
  ∀ i : SlotIx, Relation.ReflTransGen SlotMove (s.slots[i], s.alloc.table[i]) (t.slots[i], t.alloc.table[i])

/-- A slot that a run does not serve is given nothing (R68). -/
theorem State.runGrant_of_not_served {s : State} {raise : Bool} {i : SlotIx} (h : ¬ s.served raise i = true) :
    s.runGrant raise i = 0 := if_neg h

/-- A cut level's floor part is at most the share (R68). -/
theorem cutFloor_le {share r d : Nat} (h : r < d) : cutFloor share r d ≤ share :=
  Nat.div_le_of_le_mul (by rw [Nat.mul_comm d]; exact Nat.mul_le_mul_left share h.le)

/-- A run gives no slot more than its share (R68, R69). -/
theorem State.runGrant_le_share (s : State) (raise : Bool) (i : SlotIx) : s.runGrant raise i ≤ s.share i := by
  unfold State.runGrant State.grantAt
  split
  · split
    · exact le_refl _
    · rename_i hcut
      have hfloor := cutFloor_le (share := s.share i) (not_le.mp hcut)
      split
      · rename_i hshort
        have hmem := List.mem_of_mem_take (List.contains_iff_mem.mp hshort)
        have hbelow := (Bool.and_eq_true_iff.mp (List.mem_filter.mp hmem).2).2
        rw [decide_eq_true_eq] at hbelow
        omega
      · omega
  · exact Nat.zero_le _

namespace State.SlotsMove

variable {s t u : State}

theorem refl (s : State) : s.SlotsMove s := fun _ => .refl

theorem trans (h : s.SlotsMove t) (h' : t.SlotsMove u) : s.SlotsMove u := fun i => (h i).trans (h' i)

/-- What leaves the slots and the grant table alone. -/
theorem of_same (hslots : t.slots = s.slots) (htable : t.alloc.table = s.alloc.table) : s.SlotsMove t := by
  intro i
  rw [hslots, htable]

/-- One slot and its grant move. -/
theorem of_set {i : SlotIx} {y : Slot} {g : GrantRec} (hslots : t.slots = s.slots.set i y)
    (htable : t.alloc.table = s.alloc.table.set i g) (h : SlotMove (s.slots[i], s.alloc.table[i]) (y, g)) :
    s.SlotsMove t := by
  intro j
  rw [hslots, htable, PerSlot.getElem_set, PerSlot.getElem_set]
  by_cases hj : j = i
  · subst j
    rw [if_pos rfl, if_pos rfl]
    exact .single h
  · rw [if_neg hj, if_neg hj]

/-- One slot moves on its grant. -/
theorem of_setSlot {i : SlotIx} {y : Slot} (hslots : t.slots = s.slots.set i y) (htable : t.alloc.table = s.alloc.table)
    (h : SlotMove (s.slots[i], s.alloc.table[i]) (y, s.alloc.table[i])) : s.SlotsMove t :=
  of_set hslots (htable.trans (PerSlot.set_getElem_self _ i).symm) h

/-- A slot's state stays, and its timers at most stop. -/
theorem modSlot (s : State) (i : SlotIx) (f : Slot → Slot) (hstate : (f s.slots[i]).state = s.slots[i].state)
    (hhold : (f s.slots[i]).hold = s.slots[i].hold ∨ (f s.slots[i]).hold = none)
    (hreacquire : (f s.slots[i]).reacquire = s.slots[i].reacquire ∨ (f s.slots[i]).reacquire = none) :
    s.SlotsMove (s.modSlot i f) :=
  of_setSlot rfl rfl (.stays hstate (by rcases hhold with e | e <;> rw [e] <;> simp)
    (by rcases hreacquire with e | e <;> rw [e] <;> simp))

/-- The grant table stays. -/
theorem modAlloc (s : State) {f : Allocator → Allocator} (h : (f s.alloc).table = s.alloc.table) : s.SlotsMove (s.modAlloc f) :=
  of_same rfl h

theorem modCtl (s : State) (f : Controller → Controller) : s.SlotsMove (s.modCtl f) := of_same rfl rfl

theorem modCombiner (s : State) (f : Combiner → Combiner) : s.SlotsMove (s.modCombiner f) := of_same rfl rfl

theorem endRead (s : State) (o : BootOutcome) : s.SlotsMove (s.endRead o) := of_same rfl rfl

theorem foldl {α : Type} {f : State → α → State} (hf : ∀ (u : State) (a : α), u.SlotsMove (f u a)) (l : List α)
    (s : State) : s.SlotsMove (l.foldl f s) :=
  foldl_keeps s.SlotsMove f (fun u a hu => hu.trans (hf u a)) l s (refl s)

/-! The runs (R56, R61, R68 to R74). -/

/-- A run moves every slot by its grant. -/
theorem run (s : State) (raise : Bool) : s.SlotsMove (s.run raise) := by
  intro i
  have hrecord : (s.tabled raise).alloc.table[i]
      = ⟨s.runGrant raise i, targetOf s.ctl.active.header.ceiling (s.runGrant raise i), s.share i⟩ :=
    s.runTable_getElem raise i
  have hslot : (s.run raise).slots[i] = (s.tabled raise).delivered raise s.alloc.table i s.slots[i] := by
    rw [State.run_eq]
    exact PerSlot.getElem_ofFn _ i
  rw [hslot, State.run_table, State.runTable_getElem]
  refine .single ?_
  by_cases hwaits : raise = true ∧ s.slots[i].state = .off ∧ s.ctl.active.entries[i].enabled = true
  · rw [State.delivered_of_waiting (s := s.tabled raise) hwaits, hrecord]
    exact .raised _ _ _ (s.runGrant_le_share raise i) hwaits.2.1
  · rw [State.delivered_of_not_waiting (s := s.tabled raise) hwaits, hrecord]
    refine .given _ _ _ _ (s.runGrant_le_share raise i) fun hx => State.runGrant_of_not_served fun hserved => ?_
    simp only [State.served, State.claimant, Bool.and_eq_true] at hserved
    obtain ⟨⟨hen, -⟩, hstate⟩ := hserved
    simp only [List.mem_cons, List.not_mem_nil, or_false] at hx
    rcases hx with e | e | e <;> rw [e] at hstate
    · exact hwaits ⟨hstate, e, hen⟩
    · cases hstate
    · cases hstate

theorem startRun (s : State) : s.SlotsMove s.startRun := by
  unfold State.startRun
  split
  · exact modAlloc s rfl
  · exact run s false

theorem releaseWithRaise (s : State) : s.SlotsMove s.releaseWithRaise := by
  unfold State.releaseWithRaise
  split
  · exact (modAlloc s rfl).trans (run _ true)
  · exact refl s

theorem releaseWithoutRaise (s : State) : s.SlotsMove s.releaseWithoutRaise := by
  unfold State.releaseWithoutRaise
  dsimp only
  split
  · split
    · exact (modAlloc s rfl).trans (run _ false)
    · exact modAlloc s rfl
  · exact refl s

/-! The transitions of a slot. -/

theorem write (s : State) (n : Notice) : s.SlotsMove (s.write n) := of_same rfl rfl

theorem writeOpt (s : State) (n : Option Notice) : s.SlotsMove (s.writeOpt n) := by
  cases n with
  | none => exact refl s
  | some n => exact write s n

theorem count (s : State) (k : SlotKind) (i : SlotIx) : s.SlotsMove (s.count k i) := by
  obtain ⟨c, r, e⟩ := s.count_frame k i
  rw [e]
  exact of_same rfl rfl

theorem enterDeferred {i : SlotIx} (hx : s.slots[i].state ≠ .hold) (cause : Cause) :
    s.SlotsMove (s.enterDeferred i cause) :=
  of_set rfl rfl (.quiets (by simp) (.inr ⟨hx, rfl⟩) (.inl rfl))

theorem enterFalling {i : SlotIx} (hx : s.slots[i].state ≠ .muted) (dest : FallDest) :
    s.SlotsMove (s.enterFalling i dest) :=
  of_set rfl rfl (.quiets (by simp) (.inl rfl) (.inr ⟨hx, rfl⟩))

theorem enterOff (s : State) (i : SlotIx) : s.SlotsMove (s.enterOff i) :=
  of_set rfl rfl (.quiets (by simp) (.inl rfl) (.inl rfl))

theorem enterFailed {i : SlotIx} (hx : s.slots[i].state ≠ .hold) : s.SlotsMove (s.enterFailed i) := by
  unfold State.enterFailed
  refine SlotsMove.trans ?_ (startRun _)
  exact of_set rfl rfl (.quiets (by simp) (.inr ⟨hx, rfl⟩) (.inl rfl))

theorem loseCarrier (s : State) (i : SlotIx) (cause : Cause) : s.SlotsMove (s.loseCarrier i cause) := by
  have hslots := s.loseCarrier_slots i cause
  obtain ⟨sl, x, c, r, e⟩ := s.loseCarrier_frame i cause
  rw [e] at hslots ⊢
  exact of_setSlot hslots rfl (.mutes rfl (.inl rfl) (.inl rfl))

theorem reviveSlot {i : SlotIx} (hx : s.slots[i].state ≠ .hold) (port : Option Port) (tag : Option Byte) (cause : Cause) :
    s.SlotsMove (s.reviveSlot i port tag cause) := by
  have hrevived : s.SlotsMove (s.revived i) :=
    of_set (s.revived_slots i) rfl (.mutes rfl (.inr ⟨hx, rfl⟩) (.inr rfl))
  exact (hrevived.trans (startRun _)).trans (write _ _)

/-- An attempt counted: the slot stays MUTED (R49). -/
theorem attempt {i : SlotIx} (hx : s.slots[i].state = .muted) : s.SlotsMove (s.attempt i) := by
  have hcounted : s.SlotsMove ((s.modSlot i fun x => { x with attempts := min 255 (x.attempts + 1) }).count .attempts i) :=
    (modSlot s i _ rfl (.inl rfl) (.inl rfl)).trans (count _ _ _)
  have hstate : ((s.modSlot i fun x => { x with attempts := min 255 (x.attempts + 1) }).count .attempts i).slots[i].state
      = .muted := by
    rw [State.count_slots, State.modSlot_slots, PerSlot.getElem_set_self]
    exact hx
  unfold State.attempt
  dsimp only
  generalize (s.modSlot i fun x => { x with attempts := min 255 (x.attempts + 1) }).count .attempts i = u at *
  split
  · exact hcounted.trans (enterFailed (by rw [hstate]; nofun))
  · have hslots := u.flipSource_slots i .expiry
    obtain ⟨x, c, r, e⟩ := u.flipSource_frame i .expiry
    rw [e] at hslots ⊢
    exact hcounted.trans
      (of_setSlot rfl rfl (.mutes hstate (.inr ⟨by rw [hstate]; nofun, rfl⟩) (.inl rfl)))

theorem adjustLimit (s : State) (i : SlotIx) (limit : Nat) : s.SlotsMove (s.adjustLimit i limit) := by
  unfold State.adjustLimit
  split
  · rename_i hx
    split
    · exact reviveSlot (by rw [hx]; nofun) _ _ _
    · exact modSlot s i _ rfl (.inl rfl) (.inl rfl)
  · split
    · exact modSlot s i _ rfl (.inl rfl) (.inl rfl)
    · exact refl s

/-! The level interval expiry and the timers (R43 to R49, R85 to R87). -/

theorem regain {i : SlotIx} (hx : s.slots[i].state = .muted) : s.SlotsMove (s.regain i) := by
  unfold State.regain
  split
  · exact of_setSlot rfl rfl (.rises hx ‹_› rfl rfl rfl)
  · exact enterDeferred (by rw [hx]; nofun) _

theorem act (s : State) (i : SlotIx) (level : Int) : s.SlotsMove (s.act i level) := by
  unfold State.act
  dsimp only
  split
  case h_1 hx =>
    unfold State.levelLoop State.carrierAbsentOn
    dsimp only
    split
    · split
      · exact count s _ i
      · exact modSlot s i _ rfl (.inl rfl) (.inl rfl)
    · split
      · exact loseCarrier s i _
      · exact of_setSlot rfl rfl (.holds hx rfl rfl)
  case h_2 hx =>
    split
    · exact SlotsMove.trans (t := s.modSlot i fun x => { x with state := .on, hold := none })
        (of_setSlot rfl rfl (.carries (.inl hx) rfl (.inl rfl) rfl)) (count _ _ _)
    · exact refl s
  case h_3 =>
    split
    · exact refl s
    · exact (count s _ i).trans (loseCarrier _ _ _)
  case h_4 hx =>
    split
    · exact regain hx
    · exact refl s
  all_goals exact refl s

theorem takeMeasurement (s : State) (i : SlotIx) (m : Option (Int × Source)) : s.SlotsMove (s.takeMeasurement i m) := by
  unfold State.takeMeasurement
  split
  · exact refl s
  · split
    · exact act s i _
    · exact refl s

theorem holdOut (s : State) (i : SlotIx) : s.SlotsMove (s.holdOut i) := by
  unfold State.holdOut
  split
  · exact loseCarrier s i _
  · exact refl s

theorem reacquireOut (s : State) (i : SlotIx) : s.SlotsMove (s.reacquireOut i) := by
  unfold State.reacquireOut
  split
  · rename_i hcond
    exact attempt (of_decide_eq_true (Bool.and_eq_true_iff.mp hcond).1)
  · exact refl s

theorem completeRise (s : State) (i : SlotIx) : s.SlotsMove (s.completeRise i) := by
  refine of_setSlot rfl rfl ?_
  dsimp only
  split
  · rename_i hcond
    have hx : s.slots[i].state = .rising := of_decide_eq_true (Bool.and_eq_true_iff.mp hcond).1
    exact .carries (.inr hx) rfl (.inr ⟨by rw [hx]; nofun, rfl⟩) rfl
  · exact .stays rfl id id

theorem changePool (s : State) (new : Nat) (n : Option Notice) : s.SlotsMove (s.changePool new n) := by
  unfold State.changePool
  split
  · exact refl s
  · exact ((modAlloc s rfl).trans (writeOpt _ n)).trans (startRun _)

theorem countOverload (s : State) : s.SlotsMove s.countOverload := by
  obtain ⟨c, r, e⟩ := s.countOverload_frame
  rw [e]
  exact of_same rfl rfl

theorem countClip (s : State) : s.SlotsMove s.countClip := by
  obtain ⟨c, r, e⟩ := s.countClip_frame
  rw [e]
  exact of_same rfl rfl

theorem onOverloaded (s : State) : s.SlotsMove s.onOverloaded := by
  unfold State.onOverloaded
  split
  · exact (modAlloc s rfl).trans (changePool _ _ _)
  · exact modAlloc s rfl

theorem onClean (s : State) : s.SlotsMove s.onClean := (modAlloc s rfl).trans (changePool _ _ _)

theorem judgeInterval (s : State) : s.SlotsMove s.judgeInterval := by
  have hjudged : s.SlotsMove (if s.overloaded then s.countOverload.onOverloaded else s.onClean) := by
    split
    · exact (countOverload s).trans (onOverloaded _)
    · exact onClean s
  unfold State.judgeInterval
  refine SlotsMove.trans ?_ (modCombiner _ _)
  split
  · dsimp only
    split
    · exact hjudged.trans (countClip _)
    · exact hjudged
  all_goals exact refl s

theorem turn (ms : PerSlot (Option (Int × Source))) (s : State) (a : Turn) : s.SlotsMove (s.turn ms a) := by
  cases a with
  | judge i => exact takeMeasurement s i _
  | combiner => exact judgeInterval s
  | holdOut i => exact holdOut s i
  | reacquireOut i => exact reacquireOut s i

theorem expireInterval (s : State) (order : List Turn) : s.SlotsMove (s.expireInterval order) :=
  SlotsMove.trans (t := s.measure) (of_same rfl rfl) (foldl (turn _) _ s.measure)

/-! Installing a plan and raising (R60 to R62, R100 to R107, R111, R127). -/

theorem raiseOrder (s : State) (i : SlotIx) : s.SlotsMove (s.raiseOrder i) :=
  of_setSlot rfl rfl (.stays rfl nofun nofun)

theorem raiseIn (s : State) (l : List SlotIx) : s.SlotsMove (s.raiseSlots l) :=
  (foldl raiseOrder l s).trans (releaseWithRaise _)

theorem raise (s : State) : s.SlotsMove s.raise :=
  (((modCtl s _).trans (raiseIn s.inRaising _)).trans (modCtl _ _)).trans (writeOpt _ _)

theorem raiseIfDrained (s : State) : s.SlotsMove s.raiseIfDrained := by
  unfold State.raiseIfDrained
  split
  · exact raise s
  · exact refl s

theorem levelOnly (old : Plan) (s : State) (i : SlotIx) : s.SlotsMove (State.levelOnly old s i) := by
  unfold State.levelOnly
  dsimp only
  split
  · exact modSlot s i _ rfl (.inl rfl) (.inl rfl)
  · exact (modSlot s i _ rfl (.inl rfl) (.inl rfl)).trans (adjustLimit _ i _)

theorem drainOrder (s : State) (i : SlotIx) : s.SlotsMove (s.drainOrder i) := by
  unfold State.drainOrder
  split
  case h_1 hx | h_2 hx | h_3 hx => exact enterFalling (by rw [hx]; nofun) _
  case h_4 => exact modSlot s i _ rfl (.inl rfl) (.inl rfl)
  case h_8 => exact refl s
  all_goals exact enterOff s i

theorem sendOrders (s : State) (old : Plan) (drain cut : PerSlot Bool) : s.SlotsMove (s.sendOrders old drain cut) :=
  ((foldl (levelOnly old) _ s).trans (foldl enterOff _ _)).trans (foldl drainOrder _ _)

theorem install (s : State) (pl : Plan) (c : Change) : s.SlotsMove (s.install pl c) := by
  have htaken : s.SlotsMove (s.takePlan pl c) := of_same rfl rfl
  unfold State.install
  dsimp only
  refine SlotsMove.trans (SlotsMove.trans ?_ (modCtl _ _)) (raiseIfDrained _)
  exact (htaken.trans (writeOpt _ _)).trans (sendOrders _ _ _ _)

theorem completeFall {i : SlotIx} (hx : s.slots[i].state = .falling) : s.SlotsMove (s.completeFall i) := by
  unfold State.completeFall
  split
  · refine SlotsMove.trans (modSlot s i (fun x => { x with fallDest := none }) rfl (.inl rfl) (.inl rfl))
      (enterDeferred ?_ _)
    rw [State.modSlot_slots, PerSlot.getElem_set_self]
    exact fun e => by cases hx.symm.trans e
  all_goals
    dsimp only
    split
    · exact ((enterOff s i).trans (modCtl _ _)).trans (raiseIfDrained _)
    · exact enterOff s i

theorem startUpEnd (s : State) (x y : Bool) : s.SlotsMove (s.startUpEnd x y) := by
  rcases s.startUpEnd_cases x y with e | ⟨item, o, -, ⟨pl, -, e⟩ | e⟩ <;> rw [e]
  · exact refl s
  · exact ((((endRead s o).trans (modCtl _ _)).trans (raiseIn ((s.endRead o).activated pl) allSlots)).trans
      (modCtl _ _)).trans (write _ _)
  · exact (((endRead s o).trans (releaseWithoutRaise _)).trans (modCtl _ _)).trans (write _ _)

theorem reloadEnd (s : State) (x y : Bool) : s.SlotsMove (s.reloadEnd x y) := by
  rcases s.reloadEnd_cases x y with e | ⟨item, p, tag, o, -, ⟨pl, -, e⟩ | e⟩ <;> rw [e]
  · exact refl s
  · exact (endRead s o).trans (install _ _ _)
  · exact (((endRead s o).trans (modCtl _ _)).trans (releaseWithoutRaise _)).trans (write _ _)

theorem of_engineActs (h : s.EngineActs t) : s.SlotsMove t := of_same h.slots (by rw [h.alloc])

/-! Time. -/

theorem samplePeriod (s : State) : s.SlotsMove s.samplePeriod := by
  intro i
  have hslot : s.samplePeriod.slots[i] = s.slots[i].tick := PerSlot.getElem_ofFn _ i
  rw [hslot]
  exact .single (.stays rfl (by simp [Slot.tick, tickTimer]) (by simp [Slot.tick, tickTimer]))

theorem idle (s : State) : s.SlotsMove s.idle := by
  unfold State.idle
  split
  · exact of_same rfl rfl
  · split
    · exact of_same rfl rfl
    · exact (samplePeriod s).trans (of_same rfl rfl)

end State.SlotsMove

/-- Every command moves the slots, but a device reset, which puts each at its reset values (R40, R66). -/
theorem Does.slotsMove {c : Instr} {s t : State} (h : Does c s t) : s.SlotsMove t ∨ State.reset.SlotsMove t := by
  by_cases hreset : ∃ cause, c = .deviceReset cause
  · obtain ⟨cause, rfl⟩ := hreset
    cases h with
    | nothing => exact .inl (.refl s)
    | deviceReset => exact .inr (.of_same rfl rfl)
  refine .inl ?_
  cases h with
  | nothing => exact .refl s
  | deviceReset cause => exact absurd ⟨cause, rfl⟩ hreset
  | resetEnd => exact .of_same rfl rfl
  | trimLevel p tag i delta => exact State.SlotsMove.trans (t := s.trimmedLevel p tag i delta) (.of_same rfl rfl) (.startRun _)
  | trimFrequency p tag i delta => exact .of_setSlot rfl rfl (.stays rfl id id)
  | revive p tag i _ hx => exact .reviveSlot (by rw [hx]; nofun) _ _ _
  | draftCopy => exact .of_same rfl rfl
  | draftClear => exact .of_same rfl rfl
  | draftPutEntry => exact .of_same rfl rfl
  | draftPutHeader => exact .of_same rfl rfl
  | commit p tag => exact .install s _ _
  | pageStore => exact .of_same rfl rfl
  | pageLoad => exact .of_same rfl rfl
  | pageErase => exact .of_same rfl rfl
  | bootSet => exact .of_same rfl rfl
  | reload => exact .of_same rfl rfl
  | levelIntervalExpiry order => exact .expireInterval s order
  | holdTimerExpiry i => exact .holdOut s i
  | reacquireTimerExpiry i => exact .reacquireOut s i
  | riseCompletion i => exact .completeRise s i
  | fallCompletion i _ hx => exact .completeFall hx
  | storeEraseDone => exact .of_engineActs (.storeErased s)
  | storeProgramDone => exact .of_engineActs (.storeProgrammed s)
  | storeVerifyDone intact => exact .of_engineActs (.storeVerified s intact)
  | pageEraseDone => exact .of_engineActs (.pageErased s)
  | pageLoadReadDone intact => exact .of_engineActs (.pageLoaded s intact)
  | bootWriteDone intact => exact .of_engineActs (.bootWritten s intact)
  | startUpReadEnd x y => exact .startUpEnd s x y
  | reloadReadEnd x y => exact .reloadEnd s x y

/-- So does every step. -/
theorem step_slotsMove {s t : State} (h : step s = .next t) : s.SlotsMove t ∨ State.reset.SlotsMove t := by
  rcases step_cases h with ⟨-, rfl⟩ | ⟨c, rest, -, hc⟩
  · exact .inl (.idle s)
  · obtain ⟨u, v, hu, hdoes, hv⟩ := exec_comes hc
    have hbefore : s.SlotsMove u := .of_same hu.slots (by rw [hu.alloc])
    have hafter : v.SlotsMove t := .of_same hv.slots (by rw [hv.alloc])
    exact hdoes.slotsMove.imp (fun h => (hbefore.trans h).trans hafter) fun h => h.trans hafter

/-- What every move keeps of a slot and its grant, and the reset values have, every step keeps of all. -/
theorem step_keeps_of_moves {P : Slot × GrantRec → Prop} (hmove : ∀ a b, SlotMove a b → P a → P b)
    (hreset : P (Slot.reset, ⟨0, none, 0⟩)) {s t : State} (hs : ∀ i : SlotIx, P (s.slots[i], s.alloc.table[i]))
    (h : step s = .next t) (i : SlotIx) : P (t.slots[i], t.alloc.table[i]) := by
  have hmoves {a b : Slot × GrantRec} (hab : Relation.ReflTransGen SlotMove a b) (ha : P a) : P b := by
    induction hab with
    | refl => exact ha
    | tail _ hbc ih => exact hmove _ _ hbc ih
  rcases step_slotsMove h with hm | hm
  · exact hmoves (hm i) (hs i)
  · refine hmoves (hm i) ?_
    obtain ⟨hslot, -, -, hrecord, -⟩ := reset_slot_values i
    rw [hslot, hrecord]
    exact hreset

/-! ### Grants (R41, R66) -/

/-- A record of the grant table agrees with the state of its slot, is within the share, and has a target exactly with a
grant. -/
def GrantRec.Fits (g : GrantRec) (st : SlotState) : Prop :=
  st.grantFits g.grant = true ∧ g.grant ≤ g.share ∧ (g.target.isSome = true ↔ 0 < g.grant)

/-- A record without a grant fits every state but RISING, ON and HOLD. -/
theorem GrantRec.freed_fits (g : GrantRec) {st : SlotState} (h : st.grantFits 0 = true) : g.freed.Fits st :=
  ⟨h, Nat.zero_le _, by simp⟩

theorem targetOf_isSome (ceiling : Int) (g : Nat) : (targetOf ceiling g).isSome = true ↔ 0 < g := by
  unfold targetOf
  split
  · simp_all
  · simp; omega

/-- The state a slot goes to by its grant fits the grant (R56). -/
theorem Slot.given_grantFits (x : Slot) {grant : Nat} (h : x.state ∈ [SlotState.off, .falling, .failed] → grant = 0)
    (fall rise : Int) (ramp : Nat) : (x.given grant fall rise ramp).state.grantFits grant = true := by
  unfold Slot.given
  cases hx : x.state <;> rw [hx] at h <;> dsimp only
  case deferred => split <;> simp_all [SlotState.grantFits]
  case rising => split_ifs <;> simp_all [SlotState.grantFits] <;> omega
  case on => split_ifs <;> simp_all [SlotState.grantFits] <;> omega
  case hold => split_ifs <;> simp_all [SlotState.grantFits] <;> omega
  case muted => split <;> simp_all [SlotState.grantFits]
  all_goals simp_all [SlotState.grantFits]

theorem Slot.raised_grantFits (x : Slot) (grant : Nat) (rise : Int) (ramp : Nat) :
    (x.raised grant rise ramp).state.grantFits grant = true := by
  unfold Slot.raised Slot.risen
  split <;> simp_all [SlotState.grantFits]

theorem SlotMove.grantFits {a b : Slot × GrantRec} (h : SlotMove a b) (ha : a.2.Fits a.1.state) : b.2.Fits b.1.state := by
  cases h with
  | stays hstate => exact hstate ▸ ha
  | mutes hstate _ hg =>
    rcases hg with rfl | rfl
    · exact ⟨by rw [hstate]; rfl, ha.2⟩
    · exact GrantRec.freed_fits _ (by rw [hstate]; rfl)
  | holds hx hstate => exact ⟨by rw [hstate, ← ha.1, hx]; rfl, ha.2⟩
  | carries hx hstate => exact ⟨by rw [hstate, ← ha.1]; rcases hx with e | e <;> rw [e] <;> rfl, ha.2⟩
  | rises _ hgrant hstate => exact ⟨by rw [hstate]; exact decide_eq_true hgrant, ha.2⟩
  | quiets hstate =>
    refine GrantRec.freed_fits _ ?_
    simp only [List.mem_cons, List.not_mem_nil, or_false] at hstate
    rcases hstate with e | e | e | e <;> rw [e] <;> rfl
  | given fall rise ceiling ramp hle hzero => exact ⟨Slot.given_grantFits _ hzero _ _ _, hle, targetOf_isSome _ _⟩
  | raised rise ceiling ramp hle => exact ⟨Slot.raised_grantFits _ _ _ _, hle, targetOf_isSome _ _⟩

/-- Settles O8: every move of a slot keeps its grant in agreement. -/
theorem stepKeepsGrantsFit : Obligations.StepKeepsGrantsFit := by
  intro s t hs ht i
  exact step_keeps_of_moves (P := fun a => a.2.Fits a.1.state) (fun _ _ => SlotMove.grantFits)
    ⟨rfl, le_refl _, by simp⟩ hs ht i

/-! ### The slots' timers (R46, R49) -/

/-- The hold timer runs in HOLD alone and the reacquire timer in MUTED alone. -/
def Slot.TimersFit (x : Slot) : Prop :=
  (x.hold.isSome = true → x.state = .hold) ∧ (x.reacquire.isSome = true → x.state = .muted)

theorem Slot.TimersFit.hold_none {x y : Slot} (h : x.TimersFit) (hy : x.HoldStops y) : y.hold = none := by
  rcases hy with e | ⟨hx, e⟩
  · exact e
  · rw [e, ← Option.not_isSome_iff_eq_none]
    exact fun hsome => hx (h.1 hsome)

theorem Slot.TimersFit.reacquire_none {x y : Slot} (h : x.TimersFit) (hy : x.ReacquireStops y) : y.reacquire = none := by
  rcases hy with e | ⟨hx, e⟩
  · exact e
  · rw [e, ← Option.not_isSome_iff_eq_none]
    exact fun hsome => hx (h.2 hsome)

/-- A slot with both timers stopped. -/
theorem Slot.TimersFit.of_none {y : Slot} (hhold : y.hold = none) (hreacquire : y.reacquire = none) : y.TimersFit := by
  rw [Slot.TimersFit, hhold, hreacquire]
  exact ⟨nofun, nofun⟩

theorem Slot.TimersFit.given {x : Slot} (h : x.TimersFit) (grant : Nat) (fall rise : Int) (ramp : Nat) :
    (x.given grant fall rise ramp).TimersFit := by
  have hstop (hhold : x.state ≠ .hold) : x.hold = none := h.hold_none (.inr ⟨hhold, rfl⟩)
  have hstop' (hmuted : x.state ≠ .muted) : x.reacquire = none := h.reacquire_none (.inr ⟨hmuted, rfl⟩)
  unfold Slot.given Slot.risen
  cases hx : x.state <;> rw [hx] at hstop hstop' <;> dsimp only
  case deferred =>
    split
    · exact .of_none (hstop nofun) rfl
    · exact h
  case rising | on | hold =>
    split_ifs
    · exact .of_none rfl (hstop' nofun)
    · exact ⟨fun e => hx.symm.trans (h.1 e), fun e => hx.symm.trans (h.2 e)⟩
    · exact h
  case muted =>
    split
    · exact .of_none (hstop nofun) rfl
    · exact h
  all_goals exact h

theorem Slot.TimersFit.raised {x : Slot} (h : x.TimersFit) (hx : x.state = .off) (grant : Nat) (rise : Int) (ramp : Nat) :
    (x.raised grant rise ramp).TimersFit := by
  have hhold : x.hold = none := h.hold_none (.inr ⟨by rw [hx]; nofun, rfl⟩)
  unfold Slot.raised Slot.risen
  split <;> exact .of_none hhold rfl

theorem SlotMove.timersFit {a b : Slot × GrantRec} (h : SlotMove a b) (ha : a.1.TimersFit) : b.1.TimersFit := by
  have hstopped {x y : Slot} (hx : x.TimersFit) (hstate : x.state ≠ .muted) (e : y.reacquire = x.reacquire) :
      y.reacquire = none := hx.reacquire_none (.inr ⟨hstate, e⟩)
  cases h with
  | stays hstate hhold hreacquire =>
    exact ⟨fun e => hstate.trans (ha.1 (hhold e)), fun e => hstate.trans (ha.2 (hreacquire e))⟩
  | mutes hstate hhold =>
    refine ⟨fun e => ?_, fun _ => hstate⟩
    rw [ha.hold_none hhold] at e
    cases e
  | holds hx hstate hreacquire =>
    refine ⟨fun _ => hstate, fun e => ?_⟩
    rw [hstopped ha (by rw [hx]; nofun) hreacquire] at e
    cases e
  | carries hx _ hhold hreacquire =>
    exact .of_none (ha.hold_none hhold) (hstopped ha (by rcases hx with e | e <;> rw [e] <;> nofun) hreacquire)
  | rises hx _ _ hhold hreacquire => exact .of_none (ha.hold_none (.inr ⟨by rw [hx]; nofun, hhold⟩)) hreacquire
  | quiets _ hhold hreacquire => exact .of_none (ha.hold_none hhold) (ha.reacquire_none hreacquire)
  | given fall rise ceiling ramp => exact ha.given _ _ _ _
  | raised rise ceiling ramp _ hx => exact ha.raised hx _ _ _

/-- Every move of a slot keeps its timers to their states. -/
theorem step_slotTimersFit {s t : State} (hs : s.SlotTimersFit) (ht : step s = .next t) : t.SlotTimersFit := fun i =>
  step_keeps_of_moves (P := fun a => a.1.TimersFit) (fun _ _ => SlotMove.timersFit) (.of_none rfl rfl) hs ht i

end Sys2Proof.Machine

namespace Sys2Proof.Machine

/-! ### A slot's transitions, written out (R43 to R51, R53, R58, R63) -/

section SlotTransitions

variable (s : State) (i : SlotIx)

theorem State.count_extractions (k : SlotKind) : (s.count k i).extractions = s.extractions := by
  obtain ⟨c, r, e⟩ := s.count_frame k i
  rw [e]

theorem State.count_alloc (k : SlotKind) : (s.count k i).alloc = s.alloc := by
  obtain ⟨c, r, e⟩ := s.count_frame k i
  rw [e]

theorem State.count_ctl (k : SlotKind) : (s.count k i).ctl = s.ctl := by
  obtain ⟨c, r, e⟩ := s.count_frame k i
  rw [e]

/-- A flip of the source, from what it reads of the slot and its extraction (R52). -/
theorem State.flipSource_eq {x : Slot} {src : Source} (hx : s.slots[i] = x) (hsrc : s.extractions[i].source = src)
    (cause : Cause) : s.flipSource i cause = if x.inUse.altRxKhz = none then s else
      ((s.count .switches i).write
        { kind := .sourceSwitched, slot := some i, value1 := some src.flipped.code, value2 := some x.attempts
          cause := some cause }).selectSource i src.flipped := by
  subst hx hsrc
  unfold State.flipSource
  cases s.slots[i].inUse.altRxKhz <;> rfl

/-- Entry to MUTED by carrier loss in the words of R46, R47 and R64. -/
theorem State.loseCarrier_eq_lost (cause : Cause) : s.loseCarrier i cause = s.lost i cause := by
  unfold State.loseCarrier State.lost
  dsimp only
  rw [State.flipSource_eq (x := { s.slots[i] with state := .muted, ramp := none, hold := none })
    (src := s.extractions[i].source)]
  · rfl
  · rw [State.write_slots, State.count_slots, State.modSlot_slots, PerSlot.getElem_set_self]
  · rw [State.write_extractions, State.count_extractions, State.modSlot_extractions]

/-- A MUTED slot is deferred (R58). -/
theorem State.enterDeferred_of_muted {s : State} {i : SlotIx} (hx : s.slots[i].state = .muted) (cause : Cause) :
    s.enterDeferred i cause = ({ s with
        slots := s.slots.set i { s.slots[i] with state := .deferred, reacquire := none, ramp := none, attempts := 0 }
        alloc := { s.alloc with table := s.alloc.table.set i s.alloc.table[i].freed } } : State).write
      { kind := .slotDeferred, slot := some i, value1 := some s.extractions[i].lastLevel, cause := some cause } := by
  simp only [State.enterDeferred, State.modSlot_eq, hx, if_true]
  rfl

/-- A revival, written out: its steps, the run, and SLOT_REVIVED (R63). -/
theorem State.reviveSlot_eq (port : Option Port) (tag : Option Byte) (cause : Cause) :
    s.reviveSlot i port tag cause = ({ s with
        slots := s.slots.set i (s.revivedSlot i)
        extractions := s.extractions.set i (s.extractions[i].select s.slots[i].inUse .primary)
        alloc := { s.alloc with
          table := s.alloc.table.set i { s.alloc.table[i] with grant := 0, target := none } } } : State).startRun.write
      { kind := .slotRevived, slot := some i, port := port, tag := tag, value1 := some s.extractions[i].source.code
        cause := some cause } := by
  have hrevived : s.revived i = { s with
      slots := s.slots.set i (s.revivedSlot i)
      extractions := s.extractions.set i (s.extractions[i].select s.slots[i].inUse .primary)
      alloc := { s.alloc with
        table := s.alloc.table.set i { s.alloc.table[i] with grant := 0, target := none } } } := by
    rw [← s.revived_slots i]
    simp only [State.revived, State.selectSource, State.modSlot_eq, PerSlot.getElem_set_self]
    rfl
  rw [← hrevived]
  rfl

end SlotTransitions

/-! ### What a slot does with a measurement (R43 to R48, R53, R75) -/

section Measurements

variable {s : State} {i : SlotIx} {level : Int}

theorem State.act_on_present (hx : s.slots[i].state = .on) (hlevel : s.slots[i].inUse.threshold ≤ level) :
    s.act i level = s.levelLoop i level := by simp only [State.act, hx, if_pos hlevel]

theorem State.act_on_absent (hx : s.slots[i].state = .on) (hlevel : level < s.slots[i].inUse.threshold) :
    s.act i level = s.carrierAbsentOn i := by simp only [State.act, hx, if_neg hlevel.not_ge]

theorem State.act_hold (hx : s.slots[i].state = .hold) :
    s.act i level = if s.slots[i].inUse.threshold ≤ level then s.returnFromHold i else s := by simp only [State.act, hx]

theorem State.act_rising (hx : s.slots[i].state = .rising) : s.act i level =
    if s.slots[i].inUse.threshold ≤ level then s else (s.count .rampAborts i).lost i .rampAbort := by
  simp only [State.act, hx, State.loseCarrier_eq_lost]

theorem State.act_muted (hx : s.slots[i].state = .muted) :
    s.act i level = if s.slots[i].inUse.threshold + 6 ≤ level then s.regain i else s := by simp only [State.act, hx]

/-- Off the air but MUTED, and while it falls, a slot lets its measurement pass (R43). -/
theorem State.act_idle (hx : s.slots[i].state ∈ [SlotState.off, .deferred, .falling, .failed]) : s.act i level = s := by
  unfold State.act
  simp only [List.mem_cons, List.not_mem_nil, or_false] at hx
  rcases hx with e | e | e | e <;> rw [e]

end Measurements

/-- Settles O48: a case for each state of the slot. -/
theorem carrierDecisions : Obligations.CarrierDecisions := by
  intro s i level src x act absent
  refine ⟨fun h => if_neg h, fun h => ?_⟩
  have hact : act = s.act i level := if_pos h
  refine ⟨fun hx hl hms => ?_, fun hx hl hms => ?_, fun hx hl => ?_, fun hx hl => ?_, fun hx hl => ?_, fun hx hl => ?_,
    fun hx hl => ⟨fun hg => ?_, fun hg => ?_⟩, fun hx hl => ?_, fun hx => hact.trans (State.act_idle hx)⟩
  · rw [hact, State.act_on_absent hx hl, State.carrierAbsentOn, if_neg hms.ne']
    rfl
  · rw [hact, State.act_on_absent hx hl, State.carrierAbsentOn, if_pos hms, State.loseCarrier_eq_lost]
  · rw [hact, State.act_hold hx, if_pos (not_lt.mp hl)]
    rfl
  · rw [hact, State.act_hold hx, if_neg (not_le.mpr hl)]
  · rw [hact, State.act_rising hx, if_neg (not_le.mpr hl)]
  · rw [hact, State.act_rising hx, if_pos (not_lt.mp hl)]
  · rw [hact, State.act_muted hx, if_pos hl, State.regain, if_pos hg]
    rfl
  · rw [hact, State.act_muted hx, if_pos hl, State.regain, if_neg (Nat.not_lt.mpr hg.le), State.enterDeferred_of_muted hx]
  · rw [hact, State.act_muted hx, if_neg (not_le.mpr hl)]

/-- The move of the level loop in the words of R75. -/
theorem loopGain_eq (e g : Int) : loopGain e g = if -1 ≤ e ∧ e ≤ 1 then g
    else if 1 < e then max (-80) (min 120 (g + min e 4)) else max (-80) (min 120 (g - min (-e) 4)) := by
  unfold loopGain
  by_cases hnear : -1 ≤ e ∧ e ≤ 1
  · rw [if_pos hnear, if_pos (by simpa using hnear)]
  · rw [if_neg hnear, if_neg (by simpa using hnear)]
    have hside : 0 < e ↔ 1 < e := by omega
    simp only [hside]
    rfl

theorem State.levelLoop_eq {s : State} {i : SlotIx} {target : Int} (htarget : s.alloc.table[i].target = some target)
    (level : Int) : s.levelLoop i level =
      if 1 < target - (level + s.slots[i].gain) ∧ s.slots[i].gain = 120 then s.count .shortfall i
      else { s with slots := s.slots.set i { s.slots[i] with
        gain := loopGain (target - (level + s.slots[i].gain)) s.slots[i].gain } } := by
  simp only [State.levelLoop, State.target, htarget, Option.getD_some, Bool.and_eq_true, decide_eq_true_eq]
  rfl

theorem targetFall_of_not_fall {before after : Int} (h : before ≤ after) : targetFall (some before) (some after) = 0 :=
  max_eq_left (by omega)

theorem targetFall_of_fall {before after : Int} (h : after < before) :
    targetFall (some before) (some after) = before - after := max_eq_right (by omega)

theorem Slot.cutGain_of_carrying {x : Slot} {fall : Int} (hfall : fall ≠ 0) (hx : x.state = .on ∨ x.state = .hold) :
    x.cutGain fall = { x with gain := max (-80) (min 120 (x.gain - fall)) } := by
  unfold Slot.cutGain
  rw [if_neg hfall]
  rcases hx with e | e <;> rw [e] <;> rfl

theorem Slot.cutGain_of_rising {x : Slot} {fall : Int} (hfall : fall ≠ 0) (hx : x.state = .rising) :
    x.cutGain fall = { x with endGain := max (-80) (min 120 (x.endGain - fall))
                              gain := max (-80) (min 120 (x.endGain - fall)) } := by
  unfold Slot.cutGain
  rw [if_neg hfall, hx]
  rfl

/-- Settles O49: the loop's cases by the error, and the cut's by the fall of the target. -/
theorem levelLoopAndTargetCut : Obligations.LevelLoopAndTargetCut := by
  refine ⟨fun s i level target hx hl ht => ?_, fun x before after => ⟨fun h => ?_, fun h hx => ?_, fun h hx => ?_⟩⟩
  · have hact : s.takeMeasurement i (some (level, s.extractions[i].source)) = s.act i level := if_pos rfl
    rw [hact, State.act_on_present hx hl, State.levelLoop_eq ht, loopGain_eq]
  · rw [targetFall_of_not_fall h]
    rfl
  · rw [targetFall_of_fall h, Slot.cutGain_of_carrying (by omega) hx]
  · rw [targetFall_of_fall h, Slot.cutGain_of_rising (by omega) hx]
    exact ⟨rfl, rfl, rfl⟩

/-! ### The expiry of a slot's timers (R46, R47, R49, R51) -/

section Expiry

variable {s : State} {i : SlotIx}

/-- The hold timer acts where it runs in HOLD (R46). -/
theorem State.holdOut_of_running (hx : s.slots[i].state = .hold) (hhold : s.slots[i].hold ≠ none) :
    s.holdOut i = s.lost i .holdExpiry := by
  rw [State.holdOut, if_pos (by simp [hx, Option.isSome_iff_ne_none.mpr hhold, -Fin.getElem_fin]),
    State.loseCarrier_eq_lost]

/-- Elsewhere its expiry does not happen (log entry 3). -/
theorem State.holdOut_of_stopped (h : s.slots[i].state ≠ .hold ∨ s.slots[i].hold = none) : s.holdOut i = s := by
  refine if_neg fun hcond => ?_
  obtain ⟨hstate, hsome⟩ := Bool.and_eq_true_iff.mp hcond
  rcases h with h | h
  · exact h (of_decide_eq_true hstate)
  · rw [h] at hsome
    cases hsome

theorem State.reacquireOut_of_running (hx : s.slots[i].state = .muted) (ht : s.slots[i].reacquire ≠ none) :
    s.reacquireOut i = s.attempt i :=
  if_pos (by simp [hx, Option.isSome_iff_ne_none.mpr ht, -Fin.getElem_fin])

/-- The attempt counted, before what it leads to (R49). -/
def State.attempted (s : State) (i : SlotIx) : State :=
  ({ s with slots := s.slots.set i { s.slots[i] with attempts := min 255 (s.slots[i].attempts + 1) } } : State).count
    .attempts i

theorem State.attempted_slots :
    (s.attempted i).slots[i] = { s.slots[i] with attempts := min 255 (s.slots[i].attempts + 1) } := by
  rw [State.attempted, State.count_slots, PerSlot.getElem_set_self]

theorem State.attempted_extractions : (s.attempted i).extractions = s.extractions := by
  rw [State.attempted, State.count_extractions]

/-- The attempt that reaches the limit fails the slot (R49, R51). -/
theorem State.attempt_of_last (hlimit : 0 < s.ctl.active.entries[i].reacquireLimit)
    (hlast : min 255 (s.slots[i].attempts + 1) = s.ctl.active.entries[i].reacquireLimit) :
    s.attempt i = (s.attempted i).enterFailed i := by
  refine if_pos ?_
  have hcount : (s.attempted i).slots[i].attempts = _ := congrArg Slot.attempts State.attempted_slots
  exact Bool.and_eq_true_iff.mpr ⟨decide_eq_true hlimit, decide_eq_true (hcount.trans hlast)⟩

/-- Any other attempt tries the other source and starts the timer again (R49). -/
theorem State.attempt_of_more (hmore : s.ctl.active.entries[i].reacquireLimit = 0
      ∨ min 255 (s.slots[i].attempts + 1) ≠ s.ctl.active.entries[i].reacquireLimit) :
    s.attempt i = ((s.attempted i).flipSource i .expiry).modSlot i fun x =>
      { x with reacquire := some s.reacquireSamples } := by
  refine if_neg fun hcond => ?_
  have hcount : (s.attempted i).slots[i].attempts = _ := congrArg Slot.attempts State.attempted_slots
  obtain ⟨hlimit, hlast⟩ := Bool.and_eq_true_iff.mp hcond
  rcases hmore with h | h
  · exact (of_decide_eq_true hlimit).ne' h
  · exact h (hcount.symm.trans (of_decide_eq_true hlast))

end Expiry

/-- Settles O50: the expiry of each timer by whether it runs in its state, and of the reacquire timer by the limit. -/
theorem holdAndReacquireExpiry : Obligations.HoldAndReacquireExpiry := by
  refine ⟨fun s i hr => ⟨fun hx hhold => ?_, fun h => ?_⟩, fun s i hr hx ht => ?_⟩
  · exact (State.running_of_not_reset hr _).trans (congrArg _ (State.holdOut_of_running hx hhold))
  · exact (State.running_of_not_reset hr _).trans (congrArg _ (State.holdOut_of_stopped h))
  · have hexec : exec (.reacquireTimerExpiry i) s = .next (s.attempt i) :=
      (State.running_of_not_reset hr _).trans (congrArg _ (State.reacquireOut_of_running hx ht))
    refine ⟨fun hlimit hlast => ?_, fun hmore => ?_⟩
    · rw [hexec, State.attempt_of_last hlimit hlast, State.enterFailed, State.attempted_slots, State.attempted_extractions]
      rfl
    · rw [hexec, State.attempt_of_more hmore, State.flipSource_eq _ _ State.attempted_slots
        (src := s.extractions[i].source) (by rw [State.attempted_extractions])]
      rfl

/-! ### A run made or pending (R56, R71 to R73) -/

/-- The state that a grant puts a slot in, when the slot does not wait for a raise (R56). -/
theorem Slot.given_state (x : Slot) (grant : Nat) (fall rise : Int) (ramp : Nat) :
    (x.given grant fall rise ramp).state = match x.state with
      | .deferred => if 0 < grant then .rising else .deferred
      | .rising => if grant = 0 then .falling else .rising
      | .on => if grant = 0 then .falling else .on
      | .hold => if grant = 0 then .falling else .hold
      | .muted => if grant = 0 then .deferred else .muted
      | .off => .off
      | .falling => .falling
      | .failed => .failed := by
  unfold Slot.given
  cases hx : x.state <;> dsimp only
  case deferred | muted =>
    split
    · rfl
    · exact hx
  case rising | on | hold =>
    split_ifs
    · rfl
    · rfl
    · exact hx
  all_goals exact hx

/-- A run without a raise gives every slot its grant (R53 to R58, R76). -/
theorem State.run_given (s : State) (i : SlotIx) : (s.run false).slots[i] = s.slots[i].given (s.runGrant false i)
    (targetDrop s.alloc.table[i].target (targetOf s.ctl.active.header.ceiling (s.runGrant false i)))
    (max (-80) (min 120 ((targetOf s.ctl.active.header.ceiling (s.runGrant false i)).getD 0 - s.extractions[i].lastLevel)))
    (s.ctl.active.header.rampMs * 160000) := by
  have hslot : (s.run false).slots[i] = (s.tabled false).delivered false s.alloc.table i s.slots[i] := by
    rw [State.run_eq]
    exact PerSlot.getElem_ofFn _ i
  have hrecord : (s.tabled false).alloc.table[i]
      = ⟨s.runGrant false i, targetOf s.ctl.active.header.ceiling (s.runGrant false i), s.share i⟩ :=
    s.runTable_getElem false i
  rw [hslot, State.delivered_of_not_waiting (s := s.tabled false) (fun h => by cases h.1), State.riseGain, State.target,
    hrecord]
  rfl

theorem State.run_record (s : State) (raise : Bool) (i : SlotIx) : (s.run raise).alloc.table[i]
    = ⟨s.runGrant raise i, targetOf s.ctl.active.header.ceiling (s.runGrant raise i), s.ctl.active.entries[i].share⟩ := by
  rw [State.run_table]
  exact s.runTable_getElem raise i

/-- The events of a run, in the words of R64 (log entry 12). -/
theorem State.run_ring (s : State) (raise : Bool) :
    (s.run raise).ring = s.ring.after s.ctl.generation (allSlots.filterMap (s.grantNotice (s.run raise) raise)) := by
  have hnotice : s.grantNotice (s.run raise) raise = s.grantNotice (s.tabled raise) raise :=
    s.grantNotice_congr (by rw [State.run_eq]) (by rw [State.run_eq]) raise
  rw [hnotice, State.run_eq]
  rfl

/-- A run changes the slots, the grant table and the ring alone (R71). -/
theorem State.run_within (s : State) (raise : Bool) : s.run raise = { s with
    slots := (s.run raise).slots, ring := (s.run raise).ring
    alloc := { s.alloc with table := (s.run raise).alloc.table } } := by
  rw [State.run_eq]
  rfl

/-- Settles O54: the run that a free Allocator makes. -/
theorem runsStartOrWait : Obligations.RunsStartOrWait := by
  intro s
  refine ⟨fun hheld => if_pos hheld, fun hfree i => ?_⟩
  have hrun : s.startRun = s.run false := if_neg (by rw [hfree]; decide)
  rw [hrun]
  refine ⟨?_, s.run_record false i, ?_, s.run_given i, s.run_ring false, s.run_within false⟩
  · rw [s.run_record false i]
  · rw [s.run_given i]
    exact Slot.given_state _ _ _ _ _

/-! ### REVIVE (R63) -/

/-- Settles O33: REVIVE with the holder's authority, by its argument and the slot's state. -/
theorem revive : Obligations.Revive := by
  intro s p r ht hh
  have href : s.authorityRefusal p = none := State.authorityRefusal_of_holder hh
  have href' : (s.dequeue p).authorityRefusal p = none := href
  have hexec : exec (.revive p) s = _ := State.take_of_takes ht onRevive
  refine ⟨fun hn => ?_, fun i hi => ⟨fun hx => ?_, fun hx => ?_⟩⟩
  · rw [hexec, onRevive, href', indexOf_of_le hn]
    rfl
  · have hx' : (s.dequeue p).slots[i].state ≠ .failed := hx
    simp only [hexec, onRevive, href', hi, indexOf_val, if_neg hx']
    rfl
  · have hx' : (s.dequeue p).slots[i].state = .failed := hx
    simp only [hexec, onRevive, href', hi, indexOf_val, if_pos hx', State.reviveSlot_eq]
    rfl

end Sys2Proof.Machine

namespace Sys2Proof.Machine

/-! ### The bodies of SLOT READ, BUDGET READ, PAGE INFO and BOOT READ (R65, R89, R122, R124, R178) -/

section SlotBody

variable (s : State) (i : SlotIx)

/-- The difference flag as a byte (R65). -/
theorem State.flagByte_differs :
    flagByte (s.differs i) = if s.slots[i].inUse = s.ctl.active.entries[i].inUse then 0 else 1 := by
  unfold flagByte State.differs
  by_cases h : s.slots[i].inUse = s.ctl.active.entries[i].inUse
  · rw [if_pos h, if_neg (by simpa using h)]
  · rw [if_neg h, if_pos (by simpa using h)]

theorem State.slotBody_length : (s.slotBody i).length = 45 := by
  simp only [State.slotBody, InUse.bytes, timer16, be32, be16, signed16, opt16, optSigned16, List.cons_append,
    List.nil_append, List.length_cons, List.length_nil]

/-- The index, the state and the copy in use (R178). -/
theorem State.slotBody_copy : (s.slotBody i).take 2 = [byteOf i.val, byteOf s.slots[i].state.code]
    ∧ ((s.slotBody i).drop 2).take 16 = s.slots[i].inUse.bytes := by
  constructor <;> simp only [State.slotBody, InUse.bytes, be32, be16, signed16, List.cons_append, List.nil_append,
    List.drop_succ_cons, List.take_succ_cons, List.drop_zero, List.take_zero]

/-- The difference flag and the selected source (R178). -/
theorem State.slotBody_flags :
    ((s.slotBody i).drop 18).take 2 = [flagByte (s.differs i), byteOf s.extractions[i].source.code] := by
  simp only [State.slotBody, InUse.bytes, be32, be16, signed16, List.cons_append, List.nil_append, List.drop_succ_cons,
    List.take_succ_cons, List.drop_zero, List.take_zero]

/-- The input level, the gain, the output level, the grant and the target (R178). -/
theorem State.slotBody_levels : ((s.slotBody i).drop 20).take 10 = signed16 s.extractions[i].lastLevel
    ++ signed16 s.slots[i].gain ++ signed16 (s.extractions[i].lastLevel + s.slots[i].gain) ++ be16 s.alloc.table[i].grant
    ++ optSigned16 s.alloc.table[i].target := by
  simp only [State.slotBody, InUse.bytes, be32, be16, signed16, optSigned16, List.cons_append,
    List.nil_append, List.drop_succ_cons, List.take_succ_cons, List.drop_zero, List.take_zero]

/-- The two timers and the attempt count (R178). -/
theorem State.slotBody_timers : ((s.slotBody i).drop 37).take 5 =
    timer16 s.slots[i].hold ++ timer16 s.slots[i].reacquire ++ [byteOf s.slots[i].attempts] := by
  simp only [State.slotBody, InUse.bytes, timer16, be32, be16, signed16, opt16, optSigned16, List.cons_append,
    List.nil_append, List.drop_succ_cons, List.take_succ_cons, List.drop_zero, List.take_zero]

theorem State.slotBody_dest : (s.slotBody i)[42]? = some (byteOf (fallCode s.slots[i].fallDest)) := by
  rw [← List.head?_drop]
  simp only [State.slotBody, InUse.bytes, timer16, be32, be16, signed16, opt16, optSigned16, List.cons_append,
    List.nil_append, List.drop_succ_cons, List.drop_zero, List.head?_cons]

theorem State.slotBody_generation : (s.slotBody i).drop 43 = be16 s.ctl.generation := by
  simp only [State.slotBody, InUse.bytes, timer16, be32, be16, signed16, opt16, optSigned16, List.cons_append,
    List.nil_append, List.drop_succ_cons, List.drop_zero]

/-- The ramp bytes: direction, elapsed time, duration and end gain (R178). -/
theorem State.slotBody_rampField : ((s.slotBody i).drop 30).take 7 = [byteOf (rampCode s.slots[i].ramp)]
    ++ opt16 (s.slots[i].ramp.map fun r => reportMs r.elapsed) ++ opt16 (s.slots[i].ramp.map fun r => reportMs r.duration)
    ++ optSigned16 s.slots[i].endGainField := by
  simp only [State.slotBody, InUse.bytes, be32, be16, signed16, opt16, optSigned16, List.cons_append, List.nil_append, List.drop_succ_cons,
    List.take_succ_cons, List.drop_zero, List.take_zero]

theorem State.slotBody_rampless (h : s.slots[i].ramp = none) :
    ((s.slotBody i).drop 30).take 7 = 0 :: [0xFF, 0xFF, 0xFF, 0xFF, 0x80, 0x00] := by
  rw [s.slotBody_rampField, Slot.endGainField, h]
  simp [rampCode, opt16, optSigned16, signed16, be16, byteOf]

/-- Only a rising ramp has an end gain (R178). -/
theorem State.slotBody_ramp {x : Ramp} (h : s.slots[i].ramp = some x) :
    ((s.slotBody i).drop 30).take 7 = [if x.dir = .rising then 1 else 2] ++ be16 (reportMs x.elapsed)
      ++ be16 (reportMs x.duration) ++ (if x.dir = .rising then signed16 s.slots[i].endGain else [0x80, 0x00]) := by
  rw [s.slotBody_rampField, Slot.endGainField, h]
  cases hdir : x.dir <;> simp only [rampCode, hdir] <;> rfl

/-- The fall destination's byte (R178). -/
theorem byteOf_fallCode (d : Option FallDest) : byteOf (fallCode d) = match d with
    | none => 0
    | some .off => 1
    | some .deferred => 2 := by
  rcases d with _ | _ | _ <;> rfl

end SlotBody

/-- What a BUDGET READ response says before its sixteen records (R178). -/
def State.budgetLead (s : State) : List Byte :=
  be16 s.alloc.pool ++ [flagByte s.alloc.held, flagByte s.alloc.pendingRun, byteOf s.alloc.overloadRun]
    ++ be16 s.alloc.grantSum ++ be16 (s.alloc.pool - s.alloc.grantSum)
    ++ [byteOf s.combiner.state.code]
    ++ opt16 (s.combiner.resume.map fun r => reportMs r.elapsed)
    ++ opt16 (s.combiner.resume.map fun r => reportMs r.duration)
    ++ signed16 s.combiner.lastLevel ++ signed8 s.ctl.active.header.ceiling

section BudgetBody

variable (s : State)

theorem State.budgetBody_eq :
    s.budgetBody = s.budgetLead ++ (allSlots.flatMap s.budgetRecord ++ be16 s.ctl.generation) := by
  rw [← List.append_assoc]
  rfl

theorem State.budgetLead_length : s.budgetLead.length = 17 := rfl

theorem State.budgetRecord_length (i : SlotIx) : (s.budgetRecord i).length = 8 := rfl

theorem State.budgetRecords_length : (allSlots.flatMap s.budgetRecord).length = 128 := by
  simp only [List.length_flatMap, s.budgetRecord_length]
  rfl

theorem State.budgetBody_length : s.budgetBody.length = 147 := by
  rw [s.budgetBody_eq, List.length_append, List.length_append, s.budgetLead_length, s.budgetRecords_length]
  rfl

/-- The record of a slot (R178). -/
theorem State.budgetBody_record (i : SlotIx) : (s.budgetBody.drop (17 + 8 * i.val)).take 8 = s.budgetRecord i := by
  have hi : i.val < 16 := i.isLt
  have hslot : allSlots[i.val] = i := by fin_cases i <;> rfl
  have hskip : s.budgetBody.drop 17 = allSlots.flatMap s.budgetRecord ++ be16 s.ctl.generation := by
    rw [s.budgetBody_eq, List.drop_left' s.budgetLead_length]
  have hfits : 8 ≤ ((allSlots.flatMap s.budgetRecord).drop (8 * i.val)).length := by
    rw [List.length_drop, s.budgetRecords_length]
    omega
  rw [← List.drop_drop, hskip, List.drop_append_of_le_length (by rw [s.budgetRecords_length]; omega),
    List.take_append_of_le_length hfits, take_drop_flatMap (n := 8) _ _ (fun j _ => s.budgetRecord_length j) hi, hslot]

theorem State.budgetBody_generation : s.budgetBody.drop 145 = be16 s.ctl.generation := by
  rw [s.budgetBody_eq, ← List.append_assoc, List.drop_left' (by
    rw [List.length_append, s.budgetLead_length, s.budgetRecords_length])]

/-- A part of the lead is a part of the body (R178). -/
theorem State.budgetBody_lead {k n : Nat} (h : k + n ≤ 17) :
    (s.budgetBody.drop k).take n = (s.budgetLead.drop k).take n := by
  have hlead := s.budgetLead_length
  rw [s.budgetBody_eq, List.drop_append_of_le_length (by omega), List.take_append_of_le_length (by
    rw [List.length_drop]
    omega)]

/-- E, the flags, the run count, the grant sum and what is left, and the composite state (R89). -/
theorem State.budgetBody_pool : s.budgetBody.take 10 =
    be16 s.alloc.pool ++ [flagByte s.alloc.held, flagByte s.alloc.pendingRun, byteOf s.alloc.overloadRun]
      ++ be16 s.alloc.grantSum ++ be16 (s.alloc.pool - s.alloc.grantSum) ++ [byteOf s.combiner.state.code] := by
  rw [← List.drop_zero (l := s.budgetBody), s.budgetBody_lead (by decide)]
  simp only [State.budgetLead, be16, opt16, signed16, signed8, List.cons_append, List.nil_append, List.take_succ_cons,
    List.drop_zero, List.take_zero]

/-- The resuming ramp, absent outside RESUMING (R89). -/
theorem State.budgetBody_resume : (s.budgetBody.drop 10).take 4 =
    opt16 (s.combiner.resume.map fun r => reportMs r.elapsed)
      ++ opt16 (s.combiner.resume.map fun r => reportMs r.duration) := by
  rw [s.budgetBody_lead (by decide)]
  simp only [State.budgetLead, be16, opt16, signed16, signed8, List.cons_append, List.nil_append, List.drop_succ_cons,
    List.take_succ_cons, List.drop_zero, List.take_zero]

/-- The composite level and the ceiling (R89). -/
theorem State.budgetBody_levels : (s.budgetBody.drop 14).take 3 =
    signed16 s.combiner.lastLevel ++ signed8 s.ctl.active.header.ceiling := by
  rw [s.budgetBody_lead (by decide)]
  simp only [State.budgetLead, be16, opt16, signed16, signed8, List.cons_append, List.nil_append, List.drop_succ_cons,
    List.take_succ_cons, List.drop_zero, List.take_zero]

end BudgetBody

/-- The resuming ramp is absent outside RESUMING (R89). -/
theorem Combiner.resume_eq (c : Combiner) : c.resume = if c.state = .resuming then c.ramp else none := rfl

section InfoBody

variable (s : State) (pg : PageIx)

/-- The engine's state and phase as PAGE INFO answers them of a page (R122). -/
def State.engineOn : List Byte :=
  [if s.operatingOn pg then byteOf s.memory.engineCode else 0, if s.operatingOn pg then byteOf s.memory.phaseCode else 0]

/-- The body of a PAGE INFO response, byte by byte (R178). -/
theorem State.infoBody_eq : s.infoBody pg =
    [byteOf pg.val, byteOf s.memory.pages[pg].state.code] ++ be32 s.memory.pages[pg].storeCount
      ++ [flagByte s.memory.pages[pg].worn, byteOf (s.memory.bootRole pg)] ++ s.engineOn pg
      ++ [flagByte s.memory.pages[pg].label.isSome] ++ labelBytes s.memory.pages[pg].label := by
  unfold State.infoBody State.engineOn
  cases s.operatingOn pg <;> rfl

/-- The engine operates on the page of a store, an erase, a load or a read, and on no page in a boot write (R122; log
entry 14). -/
theorem State.engineOn_eq : s.engineOn pg = match s.memory.op with
    | none => [0, 0]
    | some (.store q ph _ _ _) => if q = pg then
        [1, match ph with
          | .erase => 1
          | .program => 2
          | .verify => 3] else [0, 0]
    | some (.erase q _ _) => if q = pg then [2, 0] else [0, 0]
    | some (.load q _ _) => if q = pg then [3, 0] else [0, 0]
    | some (.bootWrite _ _ _ _) => [0, 0]
    | some (.startUpRead item) => if s.memory.pageOfItem item = some pg then [3, 0] else [0, 0]
    | some (.reloadRead item _ _) => if s.memory.pageOfItem item = some pg then [3, 0] else [0, 0] := by
  unfold State.engineOn State.operatingOn State.enginePage Memory.engineCode Memory.phaseCode
  rcases s.memory.op with _ | op
  · rfl
  · cases op with
    | bootWrite => rfl
    | store q ph =>
      simp only [Option.some.injEq, decide_eq_true_eq]
      split
      · cases ph <;> rfl
      · rfl
    | erase | load | startUpRead | reloadRead =>
      simp only [Option.some.injEq, decide_eq_true_eq]
      split <;> rfl

/-- Only a VALID page answers a label (R122). -/
theorem Page.label_of_not_valid {x : Page} (h : x.state ≠ .valid) : x.label = none := if_neg h

theorem Page.label_of_valid {x : Page} {m : Image} (h : x.state = .valid) (hm : x.image = some m) :
    x.label = m.record.header.label := by
  rw [Page.label, if_pos h, hm]
  rfl

theorem byteOf_bootRole_of_record {m : Memory} {pr : PageIx} {fb : Option PageIx} (h : readBoot m.boot = some (pr, fb)) :
    byteOf (m.bootRole pg) = if pg = pr then 1 else if fb = some pg then 2 else 0 := by
  unfold Memory.bootRole
  rw [h]
  by_cases hpr : pg = pr
  · rw [if_pos hpr]
    simp only [if_pos hpr.symm]
    rfl
  · rw [if_neg hpr]
    simp only [if_neg (Ne.symm hpr)]
    split <;> rfl

end InfoBody

/-- The label field is thirteen bytes, so that the body of a PAGE INFO response is 24 (R178). -/
theorem State.infoBody_length (s : State) (pg : PageIx) : (s.infoBody pg).length = 24 := by
  rw [State.infoBody_eq, List.length_append, labelBytes_length]
  rfl

/-- The outcome's bytes end with the used page and have no field of another length (R178). -/
theorem outcomeBytes_length (o : Option BootOutcome) : (outcomeBytes o).length = 14 := by
  have hreport (r : Option Report) : (reportBytes r).length = 3 := by cases r <;> rfl
  cases o with
  | none => rfl
  | some x => simp [outcomeBytes, hreport]

section BootBody

variable (m : Memory)

/-- The outcome stands behind the first six bytes (R178). -/
theorem Memory.bootBody_drop : m.bootBody.drop 6 = outcomeBytes m.lastOutcome := rfl

theorem Memory.bootBody_length : m.bootBody.length = 20 := by
  have hsplit : m.bootBody.length = 6 + (m.bootBody.drop 6).length := by
    rw [List.length_drop]
    have : 6 ≤ m.bootBody.length := Nat.le_add_left 6 _
    omega
  rw [hsplit, m.bootBody_drop, outcomeBytes_length]

/-- The busy mark is set while the boot record is being written (R124). -/
theorem Memory.bootBody_busy : m.bootBody[5]? = some (match m.op with
    | some (.bootWrite _ _ _ _) => 1
    | _ => 0 : Byte) := by
  have hbyte : m.bootBody[5]? = some (flagByte (m.engineCode = 4)) := rfl
  rw [hbyte, Memory.engineCode]
  rcases m.op with _ | op
  · rfl
  · cases op <;> rfl

theorem Memory.bootBody_record {pr : PageIx} {fb : Option PageIx} (h : readBoot m.boot = some (pr, fb)) :
    m.bootBody.take 5 = [1, byteOf pr.val, optByte (fb.map Fin.val), byteOf m.pages[pr].state.code,
      optByte (fb.map fun f => m.pages[f].state.code)] := by
  unfold Memory.bootBody
  rw [h]
  rfl

theorem Memory.bootBody_no_record (h : readBoot m.boot = none) : m.bootBody.take 5 = [0, 0xFF, 0xFF, 0xFF, 0xFF] := by
  unfold Memory.bootBody
  rw [h]
  rfl

/-- The bytes of a boot outcome, with the codes of its origin written out (R178). -/
theorem outcomeBytes_some (o : BootOutcome) : outcomeBytes (some o) =
    [1, if o.origin = .startUp then 0 else 1, if o.record.isSome then 1 else 0,
      optByte (o.record.map fun x => x.1.val), optByte (o.record.bind fun x => x.2.map Fin.val),
      byteOf o.primary.code, byteOf o.fallback.code]
    ++ reportBytes o.primaryReport ++ reportBytes o.fallbackReport ++ [optByte (o.used.map Fin.val)] := by
  unfold outcomeBytes
  have horigin : byteOf o.origin.code = if o.origin = .startUp then 0 else 1 := by cases o.origin <;> rfl
  have hfallback : (o.record.bind fun r => r.2).map Fin.val = o.record.bind fun x => x.2.map Fin.val := by
    cases o.record <;> rfl
  simp only [horigin, hfallback]
  rfl

end BootBody

/-- Settles O20: the four bodies, each from its bytes. -/
theorem slotBudgetPageAndBootReads : Obligations.SlotBudgetPageAndBootReads := by
  refine ⟨fun s p r ht => ⟨fun hn => ?_, fun i hi => ⟨s.slotBody i, ?_, s.slotBody_length i,
      (s.slotBody_copy i).1, (s.slotBody_copy i).2, ?_, s.slotBody_levels i, s.slotBody_rampless i,
      fun x hx => s.slotBody_ramp i hx, s.slotBody_timers i, ?_, s.slotBody_generation i⟩⟩,
    fun s p r ht => ⟨s.budgetBody, State.take_of_takes ht onBudgetRead, s.budgetBody_length,
      s.budgetBody_pool, fun h => ?_, fun x h hx => ?_, s.budgetBody_levels, fun i => s.budgetBody_record i,
      s.budgetBody_generation⟩,
    fun s p r ht => ⟨fun hn => ?_, fun pg hpg => ⟨s.infoBody pg, ?_, s.infoBody_length pg, ?_, ?_, fun h => ?_,
      fun m h hm => ?_, fun pr fb h => ?_, fun h => ?_, ?_⟩⟩,
    fun s p r ht => ⟨s.memory.bootBody, State.take_of_takes ht onBootRead, s.memory.bootBody_length,
      fun pr fb h => s.memory.bootBody_record h, s.memory.bootBody_no_record, s.memory.bootBody_busy, fun h => ?_,
      fun o h => ?_⟩⟩
  · exact (State.take_of_takes ht onSlotRead).trans (by rw [onSlotRead, indexOf_of_le hn]; rfl)
  · exact (State.take_of_takes ht onSlotRead).trans (by rw [onSlotRead, hi, indexOf_val]; rfl)
  · rw [s.slotBody_flags, s.flagByte_differs]
  · exact (s.slotBody_dest i).trans (congrArg some (byteOf_fallCode _))
  · rw [s.budgetBody_resume, Combiner.resume_eq, if_neg h]
    rfl
  · rw [s.budgetBody_resume, Combiner.resume_eq, if_pos h, hx]
    rfl
  · exact (State.take_of_takes ht onPageInfo).trans (by rw [onPageInfo, indexOf_of_le hn]; rfl)
  · exact (State.take_of_takes ht onPageInfo).trans (by rw [onPageInfo, hpg, indexOf_val]; rfl)
  · rfl
  · have hbyte : (s.infoBody pg)[6]? = some (flagByte s.memory.pages[pg].worn) := rfl
    rw [hbyte, flagByte, Page.worn]
    simp only [decide_eq_true_eq]
  · rw [s.infoBody_eq pg, Page.label_of_not_valid h]
    rfl
  · rw [s.infoBody_eq pg, Page.label_of_valid h hm]
    rfl
  · exact congrArg some (byteOf_bootRole_of_record pg h)
  · have hrole : s.memory.bootRole pg = 0 := by rw [Memory.bootRole, h]
    exact congrArg (fun n => some (byteOf n)) hrole
  · have hbytes : ((s.infoBody pg).drop 8).take 2 = s.engineOn pg := by rw [s.infoBody_eq pg]; rfl
    exact hbytes.trans (s.engineOn_eq pg)
  · rw [s.memory.bootBody_drop, h]
    rfl
  · rw [s.memory.bootBody_drop, h, outcomeBytes_some]

end Sys2Proof.Machine

namespace Sys2Proof.Machine

/-! ### Orders to slots, each acting on its own slot (R60, R62, R63, R100 to R104) -/

/-- What an order makes of the records of the slot it is given to, whether it makes a run pending, and what it writes. -/
structure SlotOrder where
  slot : Slot → Slot
  extraction : Slot → Extraction → Extraction
  record : Slot → GrantRec → GrantRec
  pends : Slot → Bool
  notice : Slot → Extraction → Option Notice

/-- A state in which some slots, one after another, have each obeyed their order. -/
def State.obeyed (s : State) (o : SlotIx → SlotOrder) (l : List SlotIx) : State := { s with
  slots := Vector.ofFn fun j => if j ∈ l then (o j).slot s.slots[j] else s.slots[j]
  extractions := Vector.ofFn fun j => if j ∈ l then (o j).extraction s.slots[j] s.extractions[j] else s.extractions[j]
  alloc := { s.alloc with
    table := Vector.ofFn fun j => if j ∈ l then (o j).record s.slots[j] s.alloc.table[j] else s.alloc.table[j]
    pendingRun := s.alloc.pendingRun || l.any fun j => (o j).pends s.slots[j] }
  ring := s.ring.after s.ctl.generation (l.filterMap fun j => (o j).notice s.slots[j] s.extractions[j]) }

/-- A slot obeys an order. -/
def State.obeys (s : State) (o : SlotOrder) (i : SlotIx) : State := { s with
  slots := s.slots.set i (o.slot s.slots[i])
  extractions := s.extractions.set i (o.extraction s.slots[i] s.extractions[i])
  alloc := { s.alloc with
    table := s.alloc.table.set i (o.record s.slots[i] s.alloc.table[i])
    pendingRun := s.alloc.pendingRun || o.pends s.slots[i] }
  ring := s.ring.after s.ctl.generation (o.notice s.slots[i] s.extractions[i]).toList }

section Obeyed

variable (s : State) (o : SlotIx → SlotOrder) (l : List SlotIx) (j : SlotIx)

theorem State.obeyed_held : (s.obeyed o l).alloc.held = s.alloc.held := rfl

theorem State.obeyed_rampSamples : (s.obeyed o l).rampSamples = s.rampSamples := rfl

theorem State.obeyed_slot : (s.obeyed o l).slots[j] = if j ∈ l then (o j).slot s.slots[j] else s.slots[j] :=
  PerSlot.getElem_ofFn _ j

theorem State.obeyed_extraction : (s.obeyed o l).extractions[j]
    = if j ∈ l then (o j).extraction s.slots[j] s.extractions[j] else s.extractions[j] := PerSlot.getElem_ofFn _ j

theorem State.obeyed_record : (s.obeyed o l).alloc.table[j]
    = if j ∈ l then (o j).record s.slots[j] s.alloc.table[j] else s.alloc.table[j] := PerSlot.getElem_ofFn _ j

/-- A slot's records: its own, its extraction's and that of the grant table. -/
def State.recordsOf : Slot × Extraction × GrantRec := (s.slots[j], s.extractions[j], s.alloc.table[j])

/-- What an order makes of them. -/
def SlotOrder.apply (o : SlotOrder) (a : Slot × Extraction × GrantRec) : Slot × Extraction × GrantRec :=
  (o.slot a.1, o.extraction a.1 a.2.1, o.record a.1 a.2.2)

theorem State.obeyed_recordsOf :
    (s.obeyed o l).recordsOf j = if j ∈ l then (o j).apply (s.recordsOf j) else s.recordsOf j := by
  rw [State.recordsOf, s.obeyed_slot, s.obeyed_extraction, s.obeyed_record]
  split <;> rfl

/-- Orders change the slots, their extractions, the grants, the pending run and the ring. -/
theorem State.obeyed_frame : ∃ (slots : PerSlot Slot) (extractions : PerSlot Extraction) (table : PerSlot GrantRec)
    (pendingRun : Bool) (ring : Ring), s.obeyed o l = { s with
      slots := slots, extractions := extractions
      alloc := { s.alloc with table := table, pendingRun := pendingRun }, ring := ring } := ⟨_, _, _, _, _, rfl⟩

/-- Orders that write nothing. -/
theorem State.obeyed_ring_of_quiet (h : ∀ i x e, (o i).notice x e = none) : (s.obeyed o l).ring = s.ring := by
  have hnone : l.filterMap (fun i => (o i).notice s.slots[i] s.extractions[i]) = [] := by simp [h]
  rw [State.obeyed]
  exact congrArg (s.ring.after s.ctl.generation) hnone

/-- Orders that make no run pending. -/
theorem State.obeyed_pendingRun_of_quiet (h : ∀ i x, (o i).pends x = false) :
    (s.obeyed o l).alloc.pendingRun = s.alloc.pendingRun := by
  have hnone : l.any (fun i => (o i).pends s.slots[i]) = false := by simp [h]
  rw [State.obeyed]
  exact (congrArg (s.alloc.pendingRun || ·) hnone).trans (Bool.or_false _)

/-- An order that leaves all but its slot's record alone. -/
theorem State.obeys_of_slot {s : State} {o : SlotOrder} {i : SlotIx}
    (hext : o.extraction s.slots[i] s.extractions[i] = s.extractions[i])
    (hrecord : o.record s.slots[i] s.alloc.table[i] = s.alloc.table[i]) (hpends : o.pends s.slots[i] = false)
    (hnotice : o.notice s.slots[i] s.extractions[i] = none) :
    s.obeys o i = { s with slots := s.slots.set i (o.slot s.slots[i]) } := by
  rw [State.obeys, hext, hrecord, hpends, hnotice, PerSlot.set_getElem_self, PerSlot.set_getElem_self, Bool.or_false]
  rfl

/-- An order that leaves the rest of the slots' channels alone, but for its grant. -/
theorem State.obeys_of_grant {s : State} {o : SlotOrder} {i : SlotIx}
    (hext : o.extraction s.slots[i] s.extractions[i] = s.extractions[i]) (hpends : o.pends s.slots[i] = false)
    (hnotice : o.notice s.slots[i] s.extractions[i] = none) :
    s.obeys o i = { s with
      slots := s.slots.set i (o.slot s.slots[i])
      alloc := { s.alloc with table := s.alloc.table.set i (o.record s.slots[i] s.alloc.table[i]) } } := by
  rw [State.obeys, hext, hpends, hnotice, PerSlot.set_getElem_self, Bool.or_false]
  rfl

/-- Items set one after another by what stood there. -/
theorem PerSlot.ofFn_set {α : Type} (v : PerSlot α) (i : SlotIx) (l : List SlotIx) (hi : i ∉ l) (f : SlotIx → α → α) :
    (Vector.ofFn fun j => if j ∈ l then f j (v.set i (f i v[i]))[j] else (v.set i (f i v[i]))[j] : PerSlot α)
      = Vector.ofFn fun j => if j ∈ i :: l then f j v[j] else v[j] := by
  refine PerSlot.ext fun j => ?_
  rw [PerSlot.getElem_ofFn, PerSlot.getElem_ofFn, PerSlot.getElem_set]
  by_cases hji : j = i
  · subst j
    rw [if_neg hi, if_pos rfl, if_pos List.mem_cons_self]
  · simp only [List.mem_cons, hji, false_or, if_false]

end Obeyed

/-- The record of a slot after an order, read from the state before it, is that of the slot alone. -/
theorem State.obeys_obeyed (s : State) (o : SlotIx → SlotOrder) {i : SlotIx} {l : List SlotIx} (hi : i ∉ l) :
    (s.obeys (o i) i).obeyed o l = s.obeyed o (i :: l) := by
  have hslot {j : SlotIx} (hj : j ∈ l) : (s.obeys (o i) i).slots[j] = s.slots[j] :=
    PerSlot.getElem_set_ne _ _ fun h => hi (h ▸ hj)
  have hext {j : SlotIx} (hj : j ∈ l) : (s.obeys (o i) i).extractions[j] = s.extractions[j] :=
    PerSlot.getElem_set_ne _ _ fun h => hi (h ▸ hj)
  have hslots : ((s.obeys (o i) i).obeyed o l).slots = (s.obeyed o (i :: l)).slots :=
    PerSlot.ofFn_set s.slots i l hi fun j x => (o j).slot x
  have hexts : ((s.obeys (o i) i).obeyed o l).extractions = (s.obeyed o (i :: l)).extractions := by
    refine Eq.trans (PerSlot.ext fun j => ?_) (PerSlot.ofFn_set s.extractions i l hi fun j x => (o j).extraction s.slots[j] x)
    rw [State.obeyed_extraction, PerSlot.getElem_ofFn]
    by_cases hj : j ∈ l
    · rw [if_pos hj, if_pos hj, hslot hj]
      rfl
    · rw [if_neg hj, if_neg hj]
      rfl
  have htable : ((s.obeys (o i) i).obeyed o l).alloc.table = (s.obeyed o (i :: l)).alloc.table := by
    refine Eq.trans (PerSlot.ext fun j => ?_) (PerSlot.ofFn_set s.alloc.table i l hi fun j x => (o j).record s.slots[j] x)
    rw [State.obeyed_record, PerSlot.getElem_ofFn]
    by_cases hj : j ∈ l
    · rw [if_pos hj, if_pos hj, hslot hj]
      rfl
    · rw [if_neg hj, if_neg hj]
      rfl
  have hpending : ((s.obeys (o i) i).obeyed o l).alloc.pendingRun = (s.obeyed o (i :: l)).alloc.pendingRun := by
    have hany : (l.any fun j => (o j).pends (s.obeys (o i) i).slots[j]) = l.any fun j => (o j).pends s.slots[j] := by
      rw [Bool.eq_iff_iff, List.any_eq_true, List.any_eq_true]
      exact exists_congr fun j => and_congr_right fun hj => by rw [hslot hj]
    show ((s.alloc.pendingRun || _) || _) = (s.alloc.pendingRun || _)
    rw [hany, List.any_cons, Bool.or_assoc]
  have hring : ((s.obeys (o i) i).obeyed o l).ring = (s.obeyed o (i :: l)).ring := by
    show (s.ring.after s.ctl.generation _).after s.ctl.generation _ = s.ring.after s.ctl.generation _
    rw [← Ring.after_append, List.filterMap_cons, List.filterMap_congr fun j hj => by rw [hslot hj, hext hj]]
    cases (o i).notice s.slots[i] s.extractions[i] <;> rfl
  calc (s.obeys (o i) i).obeyed o l = { s with
        slots := ((s.obeys (o i) i).obeyed o l).slots, extractions := ((s.obeys (o i) i).obeyed o l).extractions
        alloc := { s.alloc with
          table := ((s.obeys (o i) i).obeyed o l).alloc.table
          pendingRun := ((s.obeys (o i) i).obeyed o l).alloc.pendingRun }
        ring := ((s.obeys (o i) i).obeyed o l).ring } := rfl
    _ = s.obeyed o (i :: l) := by
      rw [hslots, hexts, htable, hpending, hring]
      rfl

theorem State.obeyed_nil (s : State) (o : SlotIx → SlotOrder) : s.obeyed o [] = s := by
  have hslots : (s.obeyed o []).slots = s.slots := PerSlot.ext fun j => s.obeyed_slot o [] j
  have hexts : (s.obeyed o []).extractions = s.extractions := PerSlot.ext fun j => s.obeyed_extraction o [] j
  have htable : (s.obeyed o []).alloc.table = s.alloc.table := PerSlot.ext fun j => s.obeyed_record o [] j
  calc s.obeyed o [] = { s with
        slots := (s.obeyed o []).slots, extractions := (s.obeyed o []).extractions
        alloc := { s.alloc with table := (s.obeyed o []).alloc.table, pendingRun := s.alloc.pendingRun || false } } := rfl
    _ = s := by rw [hslots, hexts, htable, Bool.or_false]

/-- Orders given to some slots, one after another, while the Allocator is held, are all obeyed (R103; log entry 12). -/
theorem State.foldl_obeyed {f : State → SlotIx → State} {o : SlotIx → SlotOrder} {s : State}
    (hf : ∀ (u : State) (i : SlotIx), u.alloc.held = true → u.ctl = s.ctl → f u i = u.obeys (o i) i) {l : List SlotIx}
    (hl : l.Nodup) {u : State} (hheld : u.alloc.held = true) (hctl : u.ctl = s.ctl) : l.foldl f u = u.obeyed o l := by
  induction l generalizing u with
  | nil => exact (u.obeyed_nil o).symm
  | cons i l ih =>
    obtain ⟨hi, hl⟩ := List.nodup_cons.mp hl
    rw [List.foldl_cons, hf u i hheld hctl, ih hl (u := u.obeys (o i) i) hheld hctl, u.obeys_obeyed o hi]

/-! ### The orders of an installation -/

/-- A FAILED slot is revived by a limit that becomes 0 (R50). -/
abbrev Slot.RevivedBy (x : Slot) (old new : Entry) : Prop :=
  x.state = .failed ∧ new.reacquireLimit = 0 ∧ old.reacquireLimit ≠ 0

/-- The record of a slot that takes up the threshold and the limit of its new entry (R50, R62, R63). -/
def Slot.levelled (x : Slot) (old new : Entry) (reacquire : Nat) : Slot :=
  if x.RevivedBy old new then
    { x with inUse := { x.inUse with threshold := new.threshold }, state := .muted, attempts := 0
             reacquire := some reacquire }
  else
    { x with inUse := { x.inUse with threshold := new.threshold }
             attempts := if new.reacquireLimit = old.reacquireLimit then x.attempts
               else if x.state = .failed then new.reacquireLimit
               else if 0 < new.reacquireLimit ∧ new.reacquireLimit ≤ x.attempts then new.reacquireLimit - 1
               else x.attempts }

/-- The level-only order of an installation (R50, R62, R102). -/
def levelOrder (i : SlotIx) (old new : Entry) (reacquire : Nat) : SlotOrder where
  slot x := x.levelled old new reacquire
  extraction x e := if x.RevivedBy old new then e.select x.inUse .primary else e
  record x g := if x.RevivedBy old new then g.freed else g
  pends x := x.RevivedBy old new
  notice x e := if x.RevivedBy old new then
      some { kind := .slotRevived, slot := some i, value1 := some e.source.code, cause := some .limit }
    else none

/-- The cut order (R103). -/
def cutOrder : SlotOrder where
  slot := Slot.turnedOff
  extraction _ e := e
  record _ g := g.freed
  pends _ := false
  notice _ _ := none

/-- The drain order, over a ramp duration (R60). -/
def fallOrder (ramp : Nat) : SlotOrder where
  slot x := match x.state with
    | .rising | .on | .hold =>
      { x with state := .falling, hold := none, fallDest := some .off
               ramp := some ⟨.falling, 0, ramp, if x.state = .rising then (x.ramp.map Ramp.factor).getD 1 else 1⟩ }
    | .falling => { x with fallDest := some .off }
    | .muted | .deferred | .failed => x.turnedOff
    | .off => x
  extraction _ e := e
  record x g := match x.state with
    | .rising | .on | .hold | .muted | .deferred | .failed => g.freed
    | .falling | .off => g
  pends _ := false
  notice _ _ := none

theorem Slot.not_revivedBy_of_same {x : Slot} {old new : Entry} (h : new.reacquireLimit = old.reacquireLimit) :
    ¬ x.RevivedBy old new := fun ⟨_, hzero, hold⟩ => hold (h.symm.trans hzero)

/-- A level-only order that revives nothing. -/
theorem State.obeys_levelOrder_of_not_revived {s : State} {i : SlotIx} {old new : Entry} {reacquire : Nat}
    (h : ¬ s.slots[i].RevivedBy old new) : s.obeys (levelOrder i old new reacquire) i
      = { s with slots := s.slots.set i (s.slots[i].levelled old new reacquire) } :=
  State.obeys_of_slot (if_neg h) (if_neg h) (decide_eq_false h) (if_neg h)

/-- A revival of a slot that has taken up its threshold, while the Allocator is held (R63, R73). -/
theorem State.reviveSlot_modSlot {s : State} (hheld : s.alloc.held = true) (i : SlotIx) (f : Slot → Slot) (cause : Cause) :
    (s.modSlot i f).reviveSlot i none none cause = { s with
      slots := s.slots.set i
        { f s.slots[i] with state := .muted, reacquire := some s.reacquireSamples, attempts := 0 }
      extractions := s.extractions.set i (s.extractions[i].select (f s.slots[i]).inUse .primary)
      alloc := { s.alloc with table := s.alloc.table.set i s.alloc.table[i].freed, pendingRun := true }
      ring := s.ring.write s.ctl.generation
        { kind := .slotRevived, slot := some i, value1 := some s.extractions[i].source.code, cause := some cause } } := by
  rw [State.reviveSlot_eq, State.startRun, if_pos (by exact hheld), State.revivedSlot, State.modSlot_slots,
    PerSlot.getElem_set_self, PerSlot.set_set]
  rfl

/-- The model's level-only order. -/
theorem State.levelOnly_obeys {s : State} (hheld : s.alloc.held = true) (old : Plan) (i : SlotIx) : State.levelOnly old s i
    = s.obeys (levelOrder i old.entries[i] s.ctl.active.entries[i] s.reacquireSamples) i := by
  unfold State.levelOnly State.adjustLimit
  dsimp only
  generalize s.ctl.active.entries[i] = new
  rw [State.modSlot_slots, PerSlot.getElem_set_self]
  split
  · rename_i hsame
    rw [State.obeys_levelOrder_of_not_revived (Slot.not_revivedBy_of_same hsame), Slot.levelled,
      if_neg (Slot.not_revivedBy_of_same hsame), if_pos hsame]
    rfl
  · rename_i hchanged
    split
    · rename_i hfailed
      split
      · rename_i hzero
        have hrevived : s.slots[i].RevivedBy old.entries[i] new := ⟨hfailed, hzero, fun h => hchanged (hzero.trans h.symm)⟩
        rw [State.reviveSlot_modSlot hheld]
        simp only [State.obeys, levelOrder, Slot.levelled, if_pos hrevived, decide_eq_true hrevived, Bool.or_true]
        rfl
      · rename_i hpos
        have hkept : ¬ s.slots[i].RevivedBy old.entries[i] new := fun h => hpos h.2.1
        rw [State.obeys_levelOrder_of_not_revived hkept, Slot.levelled, if_neg hkept, if_neg hchanged, if_pos hfailed,
          State.modSlot_modSlot]
        rfl
    · rename_i hfailed
      have hkept : ¬ s.slots[i].RevivedBy old.entries[i] new := fun h => hfailed h.1
      rw [State.obeys_levelOrder_of_not_revived hkept, Slot.levelled, if_neg hkept, if_neg hchanged, if_neg hfailed]
      simp only [Bool.and_eq_true, decide_eq_true_eq]
      split
      · rw [State.modSlot_modSlot]
        rfl
      · rfl

/-- Entry to FALLING, written out (R55). -/
theorem State.enterFalling_eq (s : State) (i : SlotIx) (dest : FallDest) : s.enterFalling i dest = { s with
    slots := s.slots.set i { s.slots[i] with
      state := .falling, hold := none, fallDest := some dest
      ramp := some ⟨.falling, 0, s.rampSamples, s.slots[i].fallStart⟩ }
    alloc := { s.alloc with table := s.alloc.table.set i s.alloc.table[i].freed } } := rfl

/-- The model's cut order. -/
theorem State.enterOff_obeys (s : State) (i : SlotIx) : s.enterOff i = s.obeys cutOrder i := by
  rw [State.obeys_of_grant (o := cutOrder) rfl rfl rfl]
  rfl

section FallOrder

variable {ramp : Nat} {x : Slot}

/-- A slot with a carrier falls from where it stands (R60). -/
theorem fallOrder_of_carrying (hx : x.state ∈ [SlotState.rising, .on, .hold]) (g : GrantRec) :
    (fallOrder ramp).slot x = { x with
      state := .falling, hold := none, fallDest := some .off
      ramp := some ⟨.falling, 0, ramp, if x.state = .rising then (x.ramp.map Ramp.factor).getD 1 else 1⟩ }
    ∧ (fallOrder ramp).record x g = g.freed := by
  simp only [List.mem_cons, List.not_mem_nil, or_false] at hx
  unfold fallOrder
  dsimp only
  rcases hx with e | e | e <;> rw [e] <;> exact ⟨rfl, rfl⟩

/-- A falling one falls on (R60). -/
theorem fallOrder_of_falling (hx : x.state = .falling) (g : GrantRec) :
    (fallOrder ramp).slot x = { x with fallDest := some .off } ∧ (fallOrder ramp).record x g = g := by
  unfold fallOrder
  dsimp only
  rw [hx]
  exact ⟨rfl, rfl⟩

/-- A silent one is OFF at once (R60). -/
theorem fallOrder_of_silent (hx : x.state ∈ [SlotState.muted, .deferred, .failed]) (g : GrantRec) :
    (fallOrder ramp).slot x = x.turnedOff ∧ (fallOrder ramp).record x g = g.freed := by
  simp only [List.mem_cons, List.not_mem_nil, or_false] at hx
  unfold fallOrder
  dsimp only
  rcases hx with e | e | e <;> rw [e] <;> exact ⟨rfl, rfl⟩

/-- One in OFF stays (R60). -/
theorem fallOrder_of_off (hx : x.state = .off) (g : GrantRec) :
    (fallOrder ramp).slot x = x ∧ (fallOrder ramp).record x g = g := by
  unfold fallOrder
  dsimp only
  rw [hx]
  exact ⟨rfl, rfl⟩

end FallOrder

/-- The model's drain order. -/
theorem State.drainOrder_obeys (s : State) (i : SlotIx) : s.drainOrder i = s.obeys (fallOrder s.rampSamples) i := by
  rw [State.obeys_of_grant (o := fallOrder s.rampSamples) rfl rfl rfl]
  unfold State.drainOrder
  split
  case h_1 hx | h_2 hx | h_3 hx =>
    obtain ⟨hslot, hrecord⟩ := fallOrder_of_carrying (ramp := s.rampSamples) (x := s.slots[i]) (by rw [hx]; decide)
      s.alloc.table[i]
    rw [hslot, hrecord, State.enterFalling_eq, Slot.fallStart_eq]
  case h_4 hx =>
    obtain ⟨hslot, hrecord⟩ := fallOrder_of_falling (ramp := s.rampSamples) hx s.alloc.table[i]
    rw [hslot, hrecord, PerSlot.set_getElem_self]
    rfl
  case h_8 hx =>
    obtain ⟨hslot, hrecord⟩ := fallOrder_of_off (ramp := s.rampSamples) hx s.alloc.table[i]
    rw [hslot, hrecord, PerSlot.set_getElem_self, PerSlot.set_getElem_self]
  case h_5 hx | h_6 hx | h_7 hx =>
    obtain ⟨hslot, hrecord⟩ := fallOrder_of_silent (ramp := s.rampSamples) (x := s.slots[i]) (by rw [hx]; decide)
      s.alloc.table[i]
    rw [hslot, hrecord]
    rfl

/-- The order that an installation gives a slot: a level-only one if it is not drained, a cut or a drain order if it is
(R100, R102 to R104). -/
def State.installOrder (s : State) (old : Plan) (drain cut : PerSlot Bool) (i : SlotIx) : SlotOrder :=
  if drain[i] = true then (if cut[i] = true then cutOrder else fallOrder s.rampSamples)
  else levelOrder i old.entries[i] s.ctl.active.entries[i] s.reacquireSamples

section SendOrders

variable {s : State} {old : Plan} {drain cut : PerSlot Bool}

theorem State.installOrder_of_cut {i : SlotIx} (hcut : cut[i] = true) (hdrain : drain[i] = true) :
    s.installOrder old drain cut i = cutOrder := by rw [State.installOrder, if_pos hdrain, if_pos hcut]

theorem State.installOrder_of_falling {i : SlotIx} (hcut : ¬ cut[i] = true) (hdrain : drain[i] = true) :
    s.installOrder old drain cut i = fallOrder s.rampSamples := by rw [State.installOrder, if_pos hdrain, if_neg hcut]

theorem State.installOrder_of_kept {i : SlotIx} (hdrain : ¬ drain[i] = true) : s.installOrder old drain cut i
    = levelOrder i old.entries[i] s.ctl.active.entries[i] s.reacquireSamples := if_neg hdrain

/-- The level-only round (R102). -/
theorem State.levelRound (hheld : s.alloc.held = true) (l : List SlotIx) (hl : l.Nodup) :
    l.foldl (State.levelOnly old) s
      = s.obeyed (fun i => levelOrder i old.entries[i] s.ctl.active.entries[i] s.reacquireSamples) l :=
  State.foldl_obeyed (o := fun i => levelOrder i old.entries[i] s.ctl.active.entries[i] s.reacquireSamples)
    (fun u i hu hctl => by rw [State.levelOnly_obeys hu, State.reacquireSamples, hctl]; rfl) hl hheld rfl

/-- The cut round (R103). -/
theorem State.cutRound (hheld : s.alloc.held = true) (l : List SlotIx) (hl : l.Nodup) :
    l.foldl State.enterOff s = s.obeyed (fun _ => cutOrder) l :=
  State.foldl_obeyed (fun u i _ _ => u.enterOff_obeys i) hl hheld rfl

/-- The drain round (R104). -/
theorem State.fallRound (hheld : s.alloc.held = true) (l : List SlotIx) (hl : l.Nodup) :
    l.foldl State.drainOrder s = s.obeyed (fun _ => fallOrder s.rampSamples) l :=
  State.foldl_obeyed (fun u i _ hctl => by rw [u.drainOrder_obeys, State.rampSamples, hctl]; rfl) hl hheld rfl

/-- The three rounds of an installation's orders. -/
theorem State.sendOrders_rounds (hheld : s.alloc.held = true) : s.sendOrders old drain cut =
    ((s.obeyed (fun i => levelOrder i old.entries[i] s.ctl.active.entries[i] s.reacquireSamples)
      (allSlots.filter fun i => !drain[i])).obeyed (fun _ => cutOrder) (members cut)).obeyed
        (fun _ => fallOrder s.rampSamples) (allSlots.filter fun i => drain[i] && !cut[i]) := by
  unfold State.sendOrders
  dsimp only
  rw [State.levelRound hheld _ (nodup_allSlots.filter _), State.cutRound ?_ _ (nodup_members cut),
    State.fallRound ?_ _ (nodup_allSlots.filter _), State.obeyed_rampSamples, State.obeyed_rampSamples]
  · rw [State.obeyed_held, State.obeyed_held]
    exact hheld
  · rw [State.obeyed_held]
    exact hheld

/-- The orders of an installation: each slot obeys its own (R100, R102 to R104). -/
theorem State.sendOrders_recordsOf (hheld : s.alloc.held = true) (hcut : ∀ i : SlotIx, cut[i] = true → drain[i] = true)
    (i : SlotIx) :
    (s.sendOrders old drain cut).recordsOf i = (s.installOrder old drain cut i).apply (s.recordsOf i) := by
  have hkept : i ∈ allSlots.filter (fun i => !drain[i]) ↔ ¬ drain[i] = true := by
    simp [mem_allSlots, -Fin.getElem_fin]
  have hfalls : i ∈ allSlots.filter (fun i => drain[i] && !cut[i]) ↔ drain[i] = true ∧ ¬ cut[i] = true := by
    simp [mem_allSlots, -Fin.getElem_fin]
  rw [State.sendOrders_rounds hheld, State.obeyed_recordsOf, State.obeyed_recordsOf, State.obeyed_recordsOf]
  by_cases hd : drain[i] = true
  · rw [if_neg fun h => hkept.mp h hd]
    by_cases hc : cut[i] = true
    · rw [if_neg fun h => (hfalls.mp h).2 hc, if_pos (mem_members.mpr hc), State.installOrder_of_cut hc hd]
    · rw [if_pos (hfalls.mpr ⟨hd, hc⟩), if_neg fun h => hc (mem_members.mp h), State.installOrder_of_falling hc hd]
  · rw [if_neg fun h => hd (hfalls.mp h).1, if_neg fun h => hd (hcut i (mem_members.mp h)), if_pos (hkept.mpr hd),
      State.installOrder_of_kept hd]

/-- The events of an installation's orders: those of the level-only ones (R50). -/
theorem State.sendOrders_ring (hheld : s.alloc.held = true) : (s.sendOrders old drain cut).ring
    = s.ring.after s.ctl.generation (allSlots.filterMap fun i =>
      if !drain[i] then (levelOrder i old.entries[i] s.ctl.active.entries[i] s.reacquireSamples).notice s.slots[i]
        s.extractions[i] else none) := by
  rw [State.sendOrders_rounds hheld, State.obeyed_ring_of_quiet _ _ _ fun _ _ _ => rfl,
    State.obeyed_ring_of_quiet _ _ _ fun _ _ _ => rfl, ← List.filterMap_filter]
  rfl

/-- A run is pending after the orders of an installation if one was or a slot was revived (R73). -/
theorem State.sendOrders_pendingRun (hheld : s.alloc.held = true) : (s.sendOrders old drain cut).alloc.pendingRun = true
    ↔ s.alloc.pendingRun = true
      ∨ ∃ i : SlotIx, ¬ drain[i] = true ∧ s.slots[i].RevivedBy old.entries[i] s.ctl.active.entries[i] := by
  rw [State.sendOrders_rounds hheld, State.obeyed_pendingRun_of_quiet _ _ _ fun _ _ => rfl,
    State.obeyed_pendingRun_of_quiet _ _ _ fun _ _ => rfl, State.obeyed, Bool.or_eq_true, List.any_eq_true]
  simp only [levelOrder, decide_eq_true_eq, List.mem_filter, mem_allSlots, true_and, Bool.not_eq_true', Bool.not_eq_true]

/-- The orders of an installation change no more. -/
theorem State.sendOrders_frame (hheld : s.alloc.held = true) : ∃ (slots : PerSlot Slot) (extractions : PerSlot Extraction)
    (table : PerSlot GrantRec) (pendingRun : Bool) (ring : Ring), s.sendOrders old drain cut = { s with
      slots := slots, extractions := extractions
      alloc := { s.alloc with table := table, pendingRun := pendingRun }, ring := ring } := by
  obtain ⟨_, _, _, _, _, hlevel⟩ := s.obeyed_frame
    (fun i => levelOrder i old.entries[i] s.ctl.active.entries[i] s.reacquireSamples) (allSlots.filter fun i => !drain[i])
  rw [State.sendOrders_rounds hheld, hlevel]
  generalize hu : ({ s with slots := _, extractions := _, alloc := _, ring := _ } : State) = u
  obtain ⟨_, _, _, _, _, hcut⟩ := u.obeyed_frame (fun _ => cutOrder) (members cut)
  obtain ⟨_, _, _, _, _, hfall⟩ := (u.obeyed (fun _ => cutOrder) (members cut)).obeyed_frame
    (fun _ => fallOrder s.rampSamples) (allSlots.filter fun i => drain[i] && !cut[i])
  rw [hfall, hcut, ← hu]
  exact ⟨_, _, _, _, _, rfl⟩

end SendOrders

end Sys2Proof.Machine

namespace Sys2Proof.Machine

/-! ### The installation of a plan (R100 to R107, R111) -/

section DrainAndCut

variable {s : State} {pl : Plan} {i : SlotIx}

theorem SlotState.onAir_iff (x : SlotState) : x.onAir = true ↔ x ∈ [SlotState.rising, .on, .hold, .falling] := by
  cases x <;> decide

/-- The drain set in the words of R101. -/
theorem State.drained_iff (s : State) (pl : Plan) (i : SlotIx) : (s.drainSetFor pl)[i] = true ↔ s.Drained pl i := by
  rw [State.drainSetFor_getElem]
  simp only [drains, centreChanged, Bool.or_eq_true, Bool.and_eq_true, decide_eq_true_eq, State.Drained, or_assoc,
    ne_comm (a := pl.entries[i].rxKhz), ne_comm (a := pl.entries[i].txKhz), ne_comm (a := pl.entries[i].bwClass),
    ne_comm (a := pl.entries[i].altRxKhz)]

/-- The spacing bound between copies in the words of R6. -/
theorem State.inUseSpacing_iff (s : State) (guard : Nat) (i j : SlotIx) : s.inUseSpacing guard i j = true ↔
    apart guard s.slots[i].inUse.txKhz s.slots[i].inUse.bwClass s.slots[j].inUse.txKhz s.slots[j].inUse.bwClass :=
  decide_eq_true_iff

/-- The cut set in the words of R103. -/
theorem State.cut_iff (s : State) (pl : Plan) (i : SlotIx) : (s.cutSetFor pl)[i] = true ↔ s.Cut pl i := by
  have hother (j : SlotIx) : (if (s.drainSetFor pl)[j] = true then s.slots[j].state.onAir else s.slots[j].inUse.enabled) = true
      ↔ s.Drained pl j ∧ s.OnAir j ∨ ¬ s.Drained pl j ∧ s.slots[j].inUse.enabled = true := by
    rw [← s.drained_iff pl j, State.OnAir, ← SlotState.onAir_iff]
    split
    · rename_i hd
      simp [hd]
    · rename_i hd
      simp [hd]
  rw [State.cutSetFor_getElem, State.cuts, Bool.and_eq_true, Bool.and_eq_true, List.any_eq_true, s.drained_iff,
    SlotState.onAir_iff, and_assoc]
  refine and_congr_right fun _ => and_congr_right fun _ => exists_congr fun j => ?_
  rw [Bool.and_eq_true, Bool.and_eq_true, hother, decide_eq_true_eq, Bool.not_eq_true', ← Bool.not_eq_true,
    s.inUseSpacing_iff, and_assoc]
  refine ⟨fun ⟨_, hne, h, hclose⟩ => ⟨hne, hclose, h⟩, fun ⟨hne, hclose, h⟩ => ⟨mem_allSlots j, hne, h, hclose⟩⟩

/-- A drained slot must fall, in the words of R104. -/
theorem State.mustFall_iff (s : State) (pl : Plan) :
    s.MustFall pl ↔ ∃ i : SlotIx, s.Drained pl i ∧ ¬ s.Cut pl i ∧ s.OnAir i := by
  refine exists_congr fun i => ?_
  rw [s.drained_iff, ← Bool.not_eq_true, s.cut_iff, SlotState.onAir_iff]

end DrainAndCut

/-- The plan is active and the events that begin the change are written (R100, steps 1 to 4; R108). -/
def State.begun (s : State) (pl : Plan) (c : Change) : State :=
  (s.takePlan pl c).writeOpt (begunNotice c (members (s.drainSetFor pl)).length (members (s.cutSetFor pl)).length)

/-- The orders are given, and the drained slots that fall are awaited (R100, steps 5 to 8). -/
def State.draining (s : State) (pl : Plan) (c : Change) : State :=
  ((s.begun pl c).sendOrders s.ctl.active (s.drainSetFor pl) (s.cutSetFor pl)).awaitFalls (s.drainSetFor pl)

theorem State.install_eq (s : State) (pl : Plan) (c : Change) : s.install pl c = (s.draining pl c).raiseIfDrained := rfl

theorem State.awaitFalls_awaiting (s : State) (drain : PerSlot Bool) (i : SlotIx) :
    (s.awaitFalls drain).ctl.awaiting[i] = (drain[i] && decide (s.slots[i].state = .falling)) := PerSlot.getElem_ofFn _ i

theorem State.awaitFalls_slots (s : State) (drain : PerSlot Bool) : (s.awaitFalls drain).slots = s.slots := rfl

theorem State.awaitFalls_alloc (s : State) (drain : PerSlot Bool) : (s.awaitFalls drain).alloc = s.alloc := rfl

theorem State.awaitFalls_ring (s : State) (drain : PerSlot Bool) : (s.awaitFalls drain).ring = s.ring := rfl

theorem State.awaitFalls_recordsOf (s : State) (drain : PerSlot Bool) (i : SlotIx) :
    (s.awaitFalls drain).recordsOf i = s.recordsOf i := rfl

/-- The three records that an order leaves of a slot. -/
theorem SlotOrder.recordsOf_apply {s t : State} {o : SlotOrder} {i : SlotIx} (h : t.recordsOf i = o.apply (s.recordsOf i)) :
    t.slots[i] = o.slot s.slots[i] ∧ t.extractions[i] = o.extraction s.slots[i] s.extractions[i]
    ∧ t.alloc.table[i] = o.record s.slots[i] s.alloc.table[i] :=
  ⟨congrArg Prod.fst h, congrArg (fun a => a.2.1) h, congrArg (fun a => a.2.2) h⟩

/-- A drain order leaves a slot falling exactly where it found it on the air (R60). -/
theorem fallOrder_falls (ramp : Nat) (x : Slot) : ((fallOrder ramp).slot x).state = .falling ↔ x.state.onAir = true := by
  cases hx : x.state
  case rising | on | hold =>
    rw [(fallOrder_of_carrying (by rw [hx]; decide) ⟨0, none, 0⟩).1]
    exact iff_of_true rfl rfl
  case falling =>
    rw [(fallOrder_of_falling hx ⟨0, none, 0⟩).1]
    exact iff_of_true hx rfl
  case off =>
    rw [(fallOrder_of_off hx ⟨0, none, 0⟩).1, hx]
    decide
  all_goals
    rw [(fallOrder_of_silent (by rw [hx]; decide) ⟨0, none, 0⟩).1]
    exact iff_of_false nofun nofun

section Install

variable (s : State) (pl : Plan) (c : Change)

/-- The generation that an installation makes active (R107). -/
theorem nextGeneration_eq (g : Nat) : nextGeneration g = if g = 65535 then 1 else g + 1 := rfl

theorem State.begun_eq : s.begun pl c = { s.takePlan pl c with
    ring := s.ring.after (nextGeneration s.ctl.generation)
      (begunNotice c (members (s.drainSetFor pl)).length (members (s.cutSetFor pl)).length).toList } := by
  rw [State.begun, State.writeOpt_eq]
  rfl

theorem State.begun_held : (s.begun pl c).alloc.held = true := by
  rw [State.begun_eq]
  rfl

/-- The order that an installation gives a slot acts on its records of before. -/
theorem State.draining_recordsOf (i : SlotIx) : (s.draining pl c).recordsOf i
    = ((s.begun pl c).installOrder s.ctl.active (s.drainSetFor pl) (s.cutSetFor pl) i).apply (s.recordsOf i) := by
  have hcut (j : SlotIx) (h : (s.cutSetFor pl)[j] = true) : (s.drainSetFor pl)[j] = true :=
    (s.drained_iff pl j).mpr ((s.cut_iff pl j).mp h).1
  have hbegun : (s.begun pl c).recordsOf i = s.recordsOf i := by
    rw [State.begun_eq]
    rfl
  rw [← hbegun, State.draining, State.awaitFalls_recordsOf]
  exact State.sendOrders_recordsOf (s.begun_held pl c) hcut i

/-- An installation's orders change the slots, their extractions, the Allocator, the Controller and the ring. -/
theorem State.draining_frame : ∃ (slots : PerSlot Slot) (extractions : PerSlot Extraction) (table : PerSlot GrantRec)
    (pendingRun : Bool) (ring : Ring) (awaiting : PerSlot Bool), s.draining pl c = { s with
      slots := slots, extractions := extractions
      alloc := ⟨s.alloc.pool, table, s.alloc.overloadRun, true, pendingRun⟩
      ctl := ⟨.draining, pl, nextGeneration s.ctl.generation, some pl, some c, s.drainSetFor pl, awaiting⟩
      ring := ring } := by
  obtain ⟨_, _, _, _, _, e⟩ := State.sendOrders_frame (old := s.ctl.active) (drain := s.drainSetFor pl)
    (cut := s.cutSetFor pl) (s.begun_held pl c)
  rw [State.draining, e, State.begun_eq]
  exact ⟨_, _, _, _, _, _, rfl⟩

theorem State.draining_awaiting (i : SlotIx) : (s.draining pl c).ctl.awaiting[i]
    = ((s.drainSetFor pl)[i] && decide ((s.draining pl c).slots[i].state = .falling)) := by
  rw [State.draining, State.awaitFalls_awaiting, State.awaitFalls_slots]

variable {s pl c} {i : SlotIx}

/-- A cut slot is OFF (R59, R103). -/
theorem State.draining_of_cut (h : s.Cut pl i) : (s.draining pl c).slots[i] = s.slots[i].turnedOff
    ∧ (s.draining pl c).extractions[i] = s.extractions[i] ∧ (s.draining pl c).alloc.table[i] = s.alloc.table[i].freed := by
  have hrec := s.draining_recordsOf pl c i
  rw [State.installOrder_of_cut ((s.cut_iff pl i).mpr h) ((s.drained_iff pl i).mpr h.1)] at hrec
  exact SlotOrder.recordsOf_apply hrec

/-- Another drained slot obeys its drain order (R60, R104). -/
theorem State.draining_of_drained (hd : s.Drained pl i) (hc : ¬ s.Cut pl i) :
    (s.draining pl c).slots[i] = (fallOrder (pl.header.rampMs * 160000)).slot s.slots[i]
    ∧ (s.draining pl c).extractions[i] = s.extractions[i]
    ∧ (s.draining pl c).alloc.table[i] = (fallOrder (pl.header.rampMs * 160000)).record s.slots[i] s.alloc.table[i] := by
  have hramp : (s.begun pl c).rampSamples = pl.header.rampMs * 160000 := by
    rw [State.begun_eq]
    rfl
  have hrec := s.draining_recordsOf pl c i
  rw [State.installOrder_of_falling (fun h => hc ((s.cut_iff pl i).mp h)) ((s.drained_iff pl i).mpr hd), hramp] at hrec
  exact SlotOrder.recordsOf_apply hrec

/-- A slot that is not drained takes up its threshold and limit (R50, R62, R102). -/
theorem State.draining_of_kept (hd : ¬ s.Drained pl i) :
    (s.draining pl c).slots[i]
      = s.slots[i].levelled s.ctl.active.entries[i] pl.entries[i] (pl.header.reacquireMs * 160000)
    ∧ (s.draining pl c).extractions[i]
      = (if s.LimitRevives pl i then s.extractions[i].select s.slots[i].inUse .primary else s.extractions[i])
    ∧ (s.draining pl c).alloc.table[i] = if s.LimitRevives pl i then s.alloc.table[i].freed else s.alloc.table[i] := by
  have hreacquire : (s.begun pl c).reacquireSamples = pl.header.reacquireMs * 160000 := by
    rw [State.begun_eq]
    rfl
  have hactive : (s.begun pl c).ctl.active = pl := by rw [State.begun_eq]; rfl
  have hrec := s.draining_recordsOf pl c i
  rw [State.installOrder_of_kept (fun h => hd ((s.drained_iff pl i).mp h)), hreacquire, hactive] at hrec
  exact SlotOrder.recordsOf_apply hrec

/-- The slots, their extractions and their grants after the orders (R50, R60, R62, R63, R102 to R104). -/
theorem State.draining_ordered : s.Ordered (s.draining pl c) pl := by
  refine ⟨?_, fun i => ⟨?_, fun hc => ?_, fun hd hc => ⟨fun hx => ?_, fun hx => ?_, fun hx => ?_, fun hx => ?_⟩,
    fun hd => ⟨fun hrevives => ?_, fun hkept => ?_⟩⟩⟩
  · obtain ⟨_, _, _, _, _, _, e⟩ := s.draining_frame pl c
    rw [e]
  · by_cases hd : s.Drained pl i
    · rw [if_neg fun h => h.1 hd]
      by_cases hc : s.Cut pl i
      · exact (State.draining_of_cut hc).2.1
      · exact (State.draining_of_drained hd hc).2.1
    · obtain ⟨-, hext, -⟩ := State.draining_of_kept (c := c) hd
      simpa only [hd, not_false_iff, true_and] using hext
  · obtain ⟨hslot, -, hrecord⟩ := State.draining_of_cut (c := c) hc
    exact ⟨hslot, hrecord⟩
  · obtain ⟨hslot, -, hrecord⟩ := State.draining_of_drained (c := c) hd hc
    obtain ⟨hfalls, hfreed⟩ := fallOrder_of_carrying (ramp := pl.header.rampMs * 160000) hx s.alloc.table[i]
    exact ⟨hrecord.trans hfreed, hslot.trans hfalls⟩
  · obtain ⟨hslot, -, hrecord⟩ := State.draining_of_drained (c := c) hd hc
    obtain ⟨hfalls, hkept⟩ := fallOrder_of_falling (ramp := pl.header.rampMs * 160000) hx s.alloc.table[i]
    exact ⟨hslot.trans hfalls, hrecord.trans hkept⟩
  · obtain ⟨hslot, -, hrecord⟩ := State.draining_of_drained (c := c) hd hc
    obtain ⟨hoff, hfreed⟩ := fallOrder_of_silent (ramp := pl.header.rampMs * 160000) hx s.alloc.table[i]
    exact ⟨hslot.trans hoff, hrecord.trans hfreed⟩
  · obtain ⟨hslot, -, hrecord⟩ := State.draining_of_drained (c := c) hd hc
    obtain ⟨hoff, hkept⟩ := fallOrder_of_off (ramp := pl.header.rampMs * 160000) hx s.alloc.table[i]
    exact ⟨hslot.trans hoff, hrecord.trans hkept⟩
  · obtain ⟨hslot, -, hrecord⟩ := State.draining_of_kept (c := c) hd
    exact ⟨hrecord.trans (if_pos hrevives), hslot.trans (if_pos hrevives)⟩
  · obtain ⟨hslot, -, hrecord⟩ := State.draining_of_kept (c := c) hd
    exact ⟨hrecord.trans (if_neg hkept), hslot.trans (if_neg hkept)⟩

/-- A slot that is awaited falls (R104). -/
theorem State.draining_awaits (i : SlotIx) :
    (s.draining pl c).ctl.awaiting[i] = true ↔ s.Drained pl i ∧ ¬ s.Cut pl i ∧ s.OnAir i := by
  rw [s.draining_awaiting, Bool.and_eq_true, decide_eq_true_eq, s.drained_iff]
  refine and_congr_right fun hd => ?_
  by_cases hc : s.Cut pl i
  · obtain ⟨hslot, -, -⟩ := State.draining_of_cut (c := c) hc
    rw [hslot]
    exact ⟨nofun, fun h => absurd hc h.1⟩
  · obtain ⟨hslot, -, -⟩ := State.draining_of_drained (c := c) hd hc
    rw [hslot, fallOrder_falls, SlotState.onAir_iff]
    exact (and_iff_right hc).symm

/-- The event of a slot revived by a limit of 0 (R50, R64). -/
theorem State.limitNotice_eq (i : SlotIx) (reacquire : Nat) :
    (if !(s.drainSetFor pl)[i] then
      (levelOrder i s.ctl.active.entries[i] pl.entries[i] reacquire).notice s.slots[i] s.extractions[i] else none)
    = if s.LimitRevives pl i ∧ ¬ s.Drained pl i then
        some { kind := .slotRevived, slot := some i, value1 := some (if s.extractions[i].source = .primary then 0 else 1)
               cause := some .limit }
      else none := by
  have hdrain : (!(s.drainSetFor pl)[i]) = true ↔ ¬ s.Drained pl i := by
    rw [Bool.not_eq_true', ← Bool.not_eq_true, s.drained_iff]
  have hcode : ((s.extractions[i].source.code : Nat) : Int) = if s.extractions[i].source = .primary then 0 else 1 := by
    cases s.extractions[i].source <;> rfl
  by_cases hd : s.Drained pl i
  · rw [if_neg fun h => hdrain.mp h hd, if_neg fun h => h.2 hd]
  · rw [if_pos (hdrain.mpr hd)]
    by_cases hrevives : s.LimitRevives pl i
    · rw [if_pos ⟨hrevives, hd⟩, ← hcode]
      exact if_pos hrevives
    · rw [if_neg fun h => hrevives h.1]
      exact if_neg hrevives

/-- The events of the revived slots follow those that begin the change (R50, R64; log entry 12). -/
theorem State.draining_ring : (s.draining pl c).ring = s.ring.after (nextGeneration s.ctl.generation)
    ((begunNotice c (members (s.drainSetFor pl)).length (members (s.cutSetFor pl)).length).toList ++ s.limitNotices pl) := by
  rw [State.draining, State.awaitFalls_ring, State.sendOrders_ring (s.begun_held pl c), State.begun_eq, Ring.after_append]
  exact congrArg _ (List.filterMap_congr fun i _ => State.limitNotice_eq i _)

/-- A run is pending while the change drains if one was or a slot was revived (R73). -/
theorem State.draining_pendingRun : (s.draining pl c).alloc.pendingRun = true
    ↔ s.alloc.pendingRun = true ∨ ∃ i, ¬ s.Drained pl i ∧ s.LimitRevives pl i := by
  rw [State.draining, State.awaitFalls_alloc, State.sendOrders_pendingRun (s.begun_held pl c), State.begun_eq]
  exact or_congr_right (exists_congr fun i => and_congr_left' (not_congr (s.drained_iff pl i)))

/-- The drained slots have their orders (R100 to R104, R111). -/
theorem State.draining_drains : s.Drains (s.draining pl c) pl c
    (begunNotice c (members (s.drainSetFor pl)).length (members (s.cutSetFor pl)).length).toList := by
  obtain ⟨sl, ex, tb, pr, ri, aw, e⟩ := s.draining_frame pl c
  have hctl : (s.draining pl c).ctl = ⟨.draining, pl, nextGeneration s.ctl.generation, some pl, some c, s.drainSetFor pl,
      (s.draining pl c).ctl.awaiting⟩ := by rw [e]
  refine ⟨State.draining_ordered, hctl, State.draining_awaits, ?_, State.draining_pendingRun, ?_⟩
  · rw [e]
  · rw [State.draining_ring, hctl]

/-- Where no drained slot must fall, each is OFF (R104). -/
theorem State.draining_off (h : ¬ s.MustFall pl) (hd : s.Drained pl i) : (s.draining pl c).slots[i].state = .off := by
  by_cases hc : s.Cut pl i
  · rw [(State.draining_of_cut hc).1]
  · have hquiet : ¬ s.OnAir i := fun hair => h ((s.mustFall_iff pl).mpr ⟨i, hd, hc, hair⟩)
    rw [(State.draining_of_drained hd hc).1]
    cases hx : s.slots[i].state
    case off => rw [(fallOrder_of_off hx ⟨0, none, 0⟩).1, hx]
    case rising | on | hold | falling => exact absurd (by rw [State.OnAir, hx]; decide) hquiet
    all_goals rw [(fallOrder_of_silent (by rw [hx]; decide) ⟨0, none, 0⟩).1]

/-- An installation waits for the falls, or raises at once (R104, R107). -/
theorem State.install_of_mustFall (h : s.MustFall pl) : s.install pl c = s.draining pl c := by
  obtain ⟨i, hi⟩ := (s.mustFall_iff pl).mp h
  rw [State.install_eq, State.raiseIfDrained, if_neg fun hempty => (members_isEmpty_iff _).mp hempty
    ⟨i, (State.draining_awaits i).mpr hi⟩]

theorem State.install_of_not_mustFall (h : ¬ s.MustFall pl) : s.install pl c = (s.draining pl c).raise := by
  rw [State.install_eq, State.raiseIfDrained, if_pos]
  rw [members_isEmpty_iff]
  rintro ⟨i, hi⟩
  exact h ((s.mustFall_iff pl).mpr ⟨i, (State.draining_awaits i).mp hi⟩)

/-- A raise changes the slots, their channels, the Allocator, the Controller and the ring, and so does an installation
(R100, R107). -/
theorem State.install_frame (s : State) (pl : Plan) (c : Change) : ∃ (slots : PerSlot Slot)
    (extractions : PerSlot Extraction) (placements : PerSlot Placement) (alloc : Allocator) (ctl : Controller) (ring : Ring),
    s.install pl c = { s with
      slots := slots, extractions := extractions, placements := placements, alloc := alloc, ctl := ctl, ring := ring } := by
  obtain ⟨_, _, _, _, _, _, e⟩ := s.draining_frame pl c
  by_cases h : s.MustFall pl
  · rw [State.install_of_mustFall h, e]
    exact ⟨_, _, _, _, _, _, rfl⟩
  · rw [State.install_of_not_mustFall h, State.raise_frame (by rw [e]), e]
    exact ⟨_, _, _, _, _, _, rfl⟩

/-- A slot that acts on its grant keeps its copy (R56, R61). -/
theorem State.delivered_inUse (s : State) (raise : Bool) (before : PerSlot GrantRec) (i : SlotIx) (x : Slot) :
    (s.delivered raise before i x).inUse = x.inUse := by
  unfold State.delivered
  split
  · unfold Slot.raised
    split <;> rfl
  · exact (x.given_cases _ _ _ _).1

/-- RAISING keeps the copy of a slot that is not drained (R62, R107). -/
theorem State.raise_inUse {s : State} (hheld : s.alloc.held = true) {i : SlotIx} (hi : s.ctl.drainSet[i] = false) :
    s.raise.slots[i].inUse = s.slots[i].inUse := by
  rw [State.raise_slots hheld, State.raisedDrained,
    State.raiseSlots_slots (s := s.inRaising) (nodup_members s.ctl.drainSet) hheld, State.delivered_inUse,
    if_neg fun h => by rw [mem_members, hi] at h; cases h]
  rfl

theorem Slot.levelled_inUse (x : Slot) (old new : Entry) (reacquire : Nat) :
    (x.levelled old new reacquire).inUse = { x.inUse with threshold := new.threshold } := by
  unfold Slot.levelled
  split <;> rfl

/-- The copy of a slot that is not drained differs by its threshold alone (R62). -/
theorem State.install_inUse (hd : ¬ s.Drained pl i) :
    (s.install pl c).slots[i].inUse = { s.slots[i].inUse with threshold := pl.entries[i].threshold } := by
  have hdraining : (s.draining pl c).slots[i].inUse = { s.slots[i].inUse with threshold := pl.entries[i].threshold } := by
    rw [(State.draining_of_kept hd).1, Slot.levelled_inUse]
  obtain ⟨_, _, _, _, _, _, e⟩ := s.draining_frame pl c
  have hset : (s.draining pl c).ctl.drainSet[i] = false := by
    rw [e, ← Bool.not_eq_true]
    exact fun h => hd ((s.drained_iff pl i).mp h)
  by_cases h : s.MustFall pl
  · rw [State.install_of_mustFall h, hdraining]
  · rw [State.install_of_not_mustFall h, State.raise_inUse (by rw [e]) hset, hdraining]

/-- An installation in the words of its rules (R100 to R107, R111). -/
theorem State.install_installs : s.Installs (s.install pl c) pl c
    (begunNotice c (members (s.drainSetFor pl)).length (members (s.cutSetFor pl)).length).toList := by
  obtain ⟨_, _, _, _, _, _, e⟩ := s.draining_frame pl c
  obtain ⟨_, _, _, _, _, _, hframe⟩ := s.install_frame pl c
  have hheld : (s.draining pl c).alloc.held = true := by rw [e]
  have hset : (s.draining pl c).ctl.drainSet = s.drainSetFor pl := by rw [e]
  refine ⟨s.drained_iff pl, s.cut_iff pl, fun h => ?_, fun h => ⟨s.draining pl c, State.draining_drains, ?_⟩,
    fun i hd => State.install_inUse hd, ?_⟩
  · rw [State.install_of_mustFall h]
    exact State.draining_drains
  · rw [State.install_of_not_mustFall h]
    exact State.raise_raises hheld fun i hi => State.draining_off h ((s.drained_iff pl i).mp (by rwa [hset] at hi))
  · rw [hframe]
    exact ⟨rfl, rfl, rfl, rfl, rfl, rfl⟩

/-- The Controller after an installation: the plan active, the next generation, and DRAINING or READY (R104, R107). -/
theorem State.install_ctl : (s.install pl c).ctl.active = pl
    ∧ (s.install pl c).ctl.generation = nextGeneration s.ctl.generation
    ∧ (s.install pl c).ctl.state = if s.MustFall pl then .draining else .ready := by
  obtain ⟨_, _, _, _, _, _, e⟩ := s.draining_frame pl c
  by_cases h : s.MustFall pl
  · rw [State.install_of_mustFall h, if_pos h, e]
    exact ⟨rfl, rfl, rfl⟩
  · rw [State.install_of_not_mustFall h, if_neg h, State.raise_frame (by rw [e]), e]
    exact ⟨rfl, rfl, rfl⟩

end Install

/-! ### COMMIT (R98, R100) -/

theorem State.commitRefusal_of_accepted {s : State} {p : Port} {r : Request} (hh : s.holder p) (hr : s.ctl.state = .ready)
    (hd : (s.drafts.get p).loading = none) (hgen : r.body.length = 2 → u16At r.body 0 = s.ctl.generation)
    (hvalid : (s.drafts.get p).plan.valid = true) : s.commitRefusal p (expectedGeneration r.body) = none := by
  have hdraft : s.draftRefusal p = none := by simp [State.draftRefusal, hd]
  have hany : ¬ ((expectedGeneration r.body).any fun g => g ≠ s.ctl.generation) = true := by
    rw [expectedGeneration_any]
    exact fun h => h.2 (hgen h.1)
  simp only [State.commitRefusal, State.authorityRefusal_of_holder hh, hr, hdraft, if_neg hany, hvalid, reduceCtorEq,
    if_false, ne_eq, not_true, Bool.not_true, Bool.false_eq_true]

theorem onCommit_of_accepted {s : State} {p : Port} {r : Request}
    (h : s.commitRefusal p (expectedGeneration r.body) = none) {pl : Plan} (hpl : (s.drafts.get p).plan = pl) {t : State}
    (ht : s.install pl (.commit p r.tag) = t) :
    onCommit p r s = (t, ⟨.ok, be16 t.ctl.generation ++ [byteOf t.ctl.state.code,
      byteOf (members (s.drainSetFor pl)).length, byteOf (members (s.cutSetFor pl)).length]⟩) := by
  simp only [onCommit, h, hpl, ht]

/-- Settles O37: the installation of the own draft, and the response. -/
theorem commitInstalls : Obligations.CommitInstalls := by
  intro s p r ht hh hr hd hgen hvalid pl gen drained cut
  have hnone : (s.dequeue p).commitRefusal p (expectedGeneration r.body) = none :=
    State.commitRefusal_of_accepted (s := s.dequeue p) hh hr hd hgen hvalid
  obtain ⟨_, _, _, _, _, _, hframe⟩ := (s.dequeue p).install_frame pl (.commit p r.tag)
  obtain ⟨hactive, hgeneration, hstate⟩ := State.install_ctl (s := s.dequeue p) (pl := pl) (c := .commit p r.tag)
  have hinstalls := State.install_installs (s := s.dequeue p) (pl := pl) (c := .commit p r.tag)
  generalize ht' : (s.dequeue p).install pl (.commit p r.tag) = t at *
  refine ⟨t, ?_, hinstalls, hactive, hgeneration, hstate, ?_, ?_⟩
  · have hhandler := onCommit_of_accepted hnone (pl := pl) rfl ht'
    rw [hgeneration] at hhandler
    exact (State.take_of_takes ht onCommit).trans (by rw [hhandler]; rfl)
  · rw [hframe]
    rfl
  · rw [hframe]

end Sys2Proof.Machine

namespace Sys2Proof.Machine

/-! ### The end of a RELOAD read (R111, R130) -/

/-- The end of a RELOAD read with a usable page. -/
theorem State.reloadEnd_some {s : State} {item : ReadItem} {p : Port} {tag : Byte} {x y : Bool} {o : BootOutcome} {pl : Plan}
    (hop : s.memory.op = some (.reloadRead item p tag))
    (hr : s.memory.readBootPages .reload (item.primaryIntact x) y = (o, some pl)) :
    s.reloadEnd x y = (s.endRead o).install pl (.reload p tag) := by
  simp only [State.reloadEnd, hop, hr]

/-- The end of a RELOAD read without one. -/
theorem State.reloadEnd_none {s : State} {item : ReadItem} {p : Port} {tag : Byte} {x y : Bool} {o : BootOutcome}
    (hop : s.memory.op = some (.reloadRead item p tag))
    (hr : s.memory.readBootPages .reload (item.primaryIntact x) y = (o, none)) :
    s.reloadEnd x y = (s.endRead o).endChange.releaseWithoutRaise.writeReloadFailed p tag o := by
  simp only [State.reloadEnd, hop, hr]

/-- RELOAD_FAILED in the words of R130. -/
theorem State.writeReloadFailed_eq (s : State) (p : Port) (tag : Byte) (o : BootOutcome) : s.writeReloadFailed p tag o
    = s.write
      { kind := .reloadFailed, port := some p, tag := some tag
        slot := match o.primaryReport with
          | some rep => some rep.slot
          | none => o.fallbackReport.map fun rep => rep.slot
        value1 := some (o.primary.code : Nat), value2 := some (o.fallback.code : Nat)
        cause := some (if o.record = none then .noRecord else .noUsablePage) } := by
  have hcause : (if o.record.isNone then Cause.noRecord else .noUsablePage)
      = if o.record = none then .noRecord else .noUsablePage := if_congr Option.isNone_iff_eq_none rfl rfl
  unfold State.writeReloadFailed
  rw [hcause]
  rfl

/-- The state in which the Allocator is released and no pending run is made yet (R74). -/
def State.released (s : State) : State :=
  { s with alloc := if s.alloc.held then { s.alloc with held := false, pendingRun := false } else s.alloc }

/-- A release without a raise makes a pending run as a free Allocator makes any run (R74). -/
theorem State.releaseWithoutRaise_eq (s : State) : s.releaseWithoutRaise
    = if s.alloc.held = true ∧ s.alloc.pendingRun = true then s.released.startRun else s.released := by
  unfold State.releaseWithoutRaise State.released
  by_cases hheld : s.alloc.held = true
  · simp only [hheld, if_true, true_and]
    split
    · rfl
    · rfl
  · simp only [hheld, false_and, if_false, Bool.false_eq_true]

theorem State.startRun_memory (s : State) : s.startRun.memory = s.memory := by
  obtain ⟨_, _, _, _, e⟩ := s.startRun_frame
  rw [e]

theorem State.startRun_ctl (s : State) : s.startRun.ctl = s.ctl := by
  obtain ⟨_, _, _, _, e⟩ := s.startRun_frame
  rw [e]

theorem State.startRun_ports (s : State) : s.startRun.ports = s.ports := by
  obtain ⟨_, _, _, _, e⟩ := s.startRun_frame
  rw [e]

/-- A release without a raise leaves the Controller, the ports and Plan Memory. -/
theorem State.releaseWithoutRaise_rest (s : State) : s.releaseWithoutRaise.memory = s.memory
    ∧ s.releaseWithoutRaise.ports = s.ports ∧ s.releaseWithoutRaise.ctl = s.ctl := by
  rw [State.releaseWithoutRaise_eq]
  split
  · exact ⟨s.released.startRun_memory, s.released.startRun_ports, s.released.startRun_ctl⟩
  · exact ⟨rfl, rfl, rfl⟩

/-- Settles O43: the read chooses, and then a page's record is installed or the Allocator is released. -/
theorem reloadReadEnd : Obligations.ReloadReadEnd := by
  intro s item x y p tag hr hop
  rcases hread : s.memory.readBootPages .reload (item.primaryIntact x) y with ⟨o, record⟩
  have hchooses := s.memory.readBootPages_chooses .reload (item.primaryIntact x) y
  rw [hread] at hchooses
  have hends := s.endRead_readEnds (o := o) hchooses.2.1
  have hexec : exec (.reloadReadEnd x y) s = .next (s.reloadEnd x y) :=
    State.running_of_not_reset hr fun s => s.reloadEnd x y
  refine ⟨o, record, _, hexec, hchooses, ?_⟩
  rcases record with _ | pl
  · obtain ⟨hmemory, hports, hctl⟩ := (s.endRead o).endChange.releaseWithoutRaise_rest
    have ht := State.reloadEnd_none hop hread
    rw [State.writeReloadFailed_eq] at ht
    have htm : (s.reloadEnd x y).memory = (s.endRead o).memory := (congrArg State.memory ht).trans hmemory
    have htc : (s.reloadEnd x y).ctl = (s.endRead o).endChange.ctl := (congrArg State.ctl ht).trans hctl
    refine ⟨htm ▸ hends, (congrArg State.ports ht).trans hports, nofun, fun _ => ⟨?_, ?_, ?_⟩⟩
    · rw [htm]
      rw [State.releaseWithoutRaise_eq] at ht
      exact ht
    · rw [htc]
      rfl
    · rw [htc]
      rfl
  · obtain ⟨_, _, _, _, _, _, hframe⟩ := (s.endRead o).install_frame pl (.reload p tag)
    have hctl := State.install_ctl (s := s.endRead o) (pl := pl) (c := .reload p tag)
    have hinstalls := State.install_installs (s := s.endRead o) (pl := pl) (c := .reload p tag)
    rw [State.reloadEnd_some hop hread]
    generalize (s.endRead o).install pl (.reload p tag) = t at *
    have hmemory : t.memory = (s.endRead o).memory := by rw [hframe]
    refine ⟨hmemory ▸ hends, by rw [hframe]; rfl, fun pl' hpl => ?_, nofun⟩
    obtain rfl := Option.some.inj hpl
    exact ⟨hinstalls, hctl⟩

end Sys2Proof.Machine

namespace Sys2Proof.Machine

/-! ### The hold of the Allocator and the change in progress (R73, R74, R97) -/

theorem State.releaseWithRaise_held (s : State) : s.releaseWithRaise.alloc.held = false := by
  unfold State.releaseWithRaise
  split
  · rw [State.run_within]
    rfl
  · rename_i hfree
    exact Bool.not_eq_true _ ▸ hfree

theorem State.releaseWithoutRaise_held (s : State) : s.releaseWithoutRaise.alloc.held = false := by
  have hreleased : s.released.alloc.held = false := by
    unfold State.released
    split
    · rfl
    · rename_i hfree
      exact Bool.not_eq_true _ ▸ hfree
  rw [State.releaseWithoutRaise_eq]
  split
  · exact (State.SlotsAct.refl s.released).startRun.held.trans hreleased
  · exact hreleased

theorem noSlots_getElem (i : SlotIx) : noSlots[i] = false := by simp [noSlots]

namespace State.ControllerFits

variable {s t : State}

theorem congr (h : s.ControllerFits) (hctl : t.ctl = s.ctl) (hheld : t.alloc.held = s.alloc.held) : t.ControllerFits := by
  simpa only [State.ControllerFits, hctl, hheld] using h

theorem of_slotsAct (h : s.ControllerFits) (hact : s.SlotsAct t) : t.ControllerFits := h.congr hact.ctl hact.held

theorem of_engineActs (h : s.ControllerFits) (hact : s.EngineActs t) : t.ControllerFits :=
  h.congr hact.ctl (congrArg Allocator.held hact.alloc)

/-- The active plan and the generation may be others. -/
theorem setActive (h : s.ControllerFits) {active : Plan} {generation : Nat}
    (hctl : t.ctl = { s.ctl with active := active, generation := generation }) (hheld : t.alloc.held = s.alloc.held) :
    t.ControllerFits := by
  simpa only [State.ControllerFits, hctl, hheld] using h

/-- At the end of a change the Controller is READY, with the Allocator free and nothing drained (R107). -/
theorem of_ended (hctl : t.ctl = s.endChange.ctl) (hheld : t.alloc.held = false) : t.ControllerFits := by
  rw [State.ControllerFits, hctl, hheld]
  exact ⟨iff_of_true rfl rfl, fun _ => ⟨rfl, rfl, rfl, rfl⟩, fun i hi => by cases (noSlots_getElem i).symm.trans hi⟩

/-- While a change is in progress the Allocator is held, and only drained slots are awaited (R104). -/
theorem of_busy (hstate : t.ctl.state ≠ .ready) (hheld : t.alloc.held = true)
    (hawait : ∀ i : SlotIx, t.ctl.awaiting[i] = true → t.ctl.drainSet[i] = true) : t.ControllerFits :=
  ⟨iff_of_false hstate (by rw [hheld]; decide), fun h => absurd h hstate, hawait⟩

theorem raise (s : State) : s.raise.ControllerFits :=
  (of_ended (s := s.inRaising.raiseSlots (members s.ctl.drainSet)) rfl (State.releaseWithRaise_held _)).of_slotsAct
    ((State.SlotsAct.refl _).writeOpt _)

theorem raiseIfDrained (h : s.ControllerFits) : s.raiseIfDrained.ControllerFits := by
  unfold State.raiseIfDrained
  split
  · exact raise s
  · exact h

theorem install (s : State) (pl : Plan) (c : Change) : (s.install pl c).ControllerFits := by
  rw [State.install_eq]
  obtain ⟨_, _, _, _, _, _, e⟩ := s.draining_frame pl c
  have hset : (s.draining pl c).ctl.drainSet = s.drainSetFor pl := by rw [e]
  refine raiseIfDrained (of_busy (by rw [e]; nofun) (by rw [e]) fun i hi => ?_)
  rw [hset]
  exact (s.drained_iff pl i).mpr ((State.draining_awaits i).mp hi).1

theorem completeFall (h : s.ControllerFits) (i : SlotIx) : (s.completeFall i).ControllerFits := by
  have hoff : (s.enterOff i).ControllerFits := h.of_slotsAct ((State.SlotsAct.refl s).enterOff i)
  have hawait (j : SlotIx) (hj : ((s.enterOff i).ctl.awaiting.set i false)[j] = true) :
      (s.enterOff i).ctl.drainSet[j] = true := by
    rw [PerSlot.getElem_set] at hj
    split at hj
    · cases hj
    · exact hoff.2.2 j hj
  unfold State.completeFall
  split
  · exact h.of_slotsAct (((State.SlotsAct.refl s).modSlot i _).enterDeferred i _)
  all_goals
    dsimp only
    split
    · rename_i hcond
      have hdraining : (s.enterOff i).ctl.state = .draining := of_decide_eq_true (Bool.and_eq_true_iff.mp hcond).1
      have hbusy : (s.enterOff i).ctl.state ≠ .ready := by rw [hdraining]; nofun
      have hheld : (s.enterOff i).alloc.held = true := Bool.of_not_eq_false fun hfree => hbusy (hoff.1.mpr hfree)
      exact raiseIfDrained (of_busy hbusy hheld hawait)
    · exact hoff

theorem startUpEnd (h : s.ControllerFits) (x y : Bool) : (s.startUpEnd x y).ControllerFits := by
  rcases s.startUpEnd_cases x y with e | ⟨item, o, -, ⟨pl, -, e⟩ | e⟩ <;> rw [e]
  · exact h
  · exact (of_ended (s := ((s.endRead o).activated pl).raiseSlots allSlots) rfl
      (State.releaseWithRaise_held _)).of_slotsAct ((State.SlotsAct.refl _).write _)
  · exact (of_ended (s := (s.endRead o).releaseWithoutRaise) rfl (State.releaseWithoutRaise_held _)).of_slotsAct
      ((State.SlotsAct.refl _).write _)

theorem reloadEnd (h : s.ControllerFits) (x y : Bool) : (s.reloadEnd x y).ControllerFits := by
  rcases s.reloadEnd_cases x y with e | ⟨item, p, tag, o, -, ⟨pl, -, e⟩ | e⟩ <;> rw [e]
  · exact h
  · exact install _ _ _
  · obtain ⟨-, -, hctl⟩ := (s.endRead o).endChange.releaseWithoutRaise_rest
    exact (of_ended (s := s.endRead o) hctl (State.releaseWithoutRaise_held _)).of_slotsAct
      ((State.SlotsAct.refl _).write _)

/-- An accepted RELOAD (R129). -/
theorem beginReload (h : s.ControllerFits) (p : Port) (tag : Byte) : (s.beginReload p tag).ControllerFits :=
  of_busy nofun rfl h.2.2

theorem changePool (h : s.ControllerFits) (new : Nat) (n : Option Notice) : (s.changePool new n).ControllerFits := by
  unfold State.changePool
  split
  · exact h
  · exact (h.congr (t := s.modAlloc _) rfl rfl).of_slotsAct (((State.SlotsAct.refl _).writeOpt n).startRun)

theorem judgeInterval (h : s.ControllerFits) : s.judgeInterval.ControllerFits := by
  have hjudged : (if s.overloaded then s.countOverload.onOverloaded else s.onClean).ControllerFits := by
    split
    · obtain ⟨_, _, e⟩ := s.countOverload_frame
      have hcounted : s.countOverload.ControllerFits := by
        rw [e]
        exact h
      unfold State.onOverloaded
      split
      · exact (hcounted.congr (t := s.countOverload.modAlloc _) rfl rfl).changePool _ _
      · exact hcounted.congr rfl rfl
    · exact (h.congr (t := s.modAlloc _) rfl rfl).changePool _ _
  have hclip {u : State} (hu : u.ControllerFits) : u.countClip.ControllerFits := by
    obtain ⟨_, _, e⟩ := u.countClip_frame
    rw [e]
    exact hu
  unfold State.judgeInterval
  dsimp only
  split
  · split
    · exact (hclip hjudged).congr rfl rfl
    · exact hjudged.congr rfl rfl
  all_goals exact h.congr rfl rfl

theorem expireInterval (h : s.ControllerFits) (order : List Turn) : (s.expireInterval order).ControllerFits := by
  refine foldl_keeps State.ControllerFits _ (fun u a hu => ?_) _ s.measure (h.congr rfl rfl)
  cases a with
  | combiner => exact hu.judgeInterval
  | _ => exact hu.of_slotsAct ((State.SlotsAct.refl u).turn _ nofun)

theorem deviceReset (s : State) (cause : ResetCause) : (s.deviceReset cause).ControllerFits :=
  of_busy nofun rfl fun i hi => by cases (noSlots_getElem i).symm.trans hi

end State.ControllerFits

theorem Does.controllerFits {c : Instr} {s t : State} (hdoes : Does c s t) (h : s.ControllerFits) : t.ControllerFits := by
  cases hdoes with
  | nothing => exact h
  | deviceReset cause => exact .deviceReset s cause
  | resetEnd => exact h.congr rfl rfl
  | trimLevel p tag i delta =>
    have hact := (State.SlotsAct.refl (s.trimmedLevel p tag i delta)).startRun
    exact h.setActive (s.trimLevel_ctl p tag i delta) (by rw [State.trimLevel_eq, hact.held]; rfl)
  | trimFrequency p tag i delta => exact h.setActive (s.trimFrequency_ctl p tag i delta) rfl
  | revive p tag i => exact h.of_slotsAct ((State.SlotsAct.refl s).reviveSlot i _ _ _)
  | draftCopy => exact h.congr rfl rfl
  | draftClear => exact h.congr rfl rfl
  | draftPutEntry => exact h.congr rfl rfl
  | draftPutHeader => exact h.congr rfl rfl
  | commit p tag => exact .install s _ _
  | pageStore => exact h.congr rfl rfl
  | pageLoad => exact h.congr rfl rfl
  | pageErase => exact h.congr rfl rfl
  | bootSet => exact h.congr rfl rfl
  | reload p tag => exact h.beginReload p tag
  | levelIntervalExpiry order => exact h.expireInterval order
  | holdTimerExpiry i => exact h.of_slotsAct ((State.SlotsAct.refl s).holdOut i)
  | reacquireTimerExpiry i => exact h.of_slotsAct ((State.SlotsAct.refl s).reacquireOut i)
  | riseCompletion i => exact h.of_slotsAct ((State.SlotsAct.refl s).completeRise i)
  | fallCompletion i => exact h.completeFall i
  | storeEraseDone => exact h.of_engineActs (.storeErased s)
  | storeProgramDone => exact h.of_engineActs (.storeProgrammed s)
  | storeVerifyDone intact => exact h.of_engineActs (.storeVerified s intact)
  | pageEraseDone => exact h.of_engineActs (.pageErased s)
  | pageLoadReadDone intact => exact h.of_engineActs (.pageLoaded s intact)
  | bootWriteDone intact => exact h.of_engineActs (.bootWritten s intact)
  | startUpReadEnd x y => exact h.startUpEnd x y
  | reloadReadEnd x y => exact h.reloadEnd x y

theorem State.idle_alloc (s : State) : s.idle.alloc = s.alloc := by
  unfold State.idle
  split
  · rfl
  · split <;> rfl

/-- Every step keeps the hold and the change in agreement with the Controller's state. -/
theorem step_controllerFits {s t : State} (hs : s.ControllerFits) (ht : step s = .next t) : t.ControllerFits := by
  rcases step_cases ht with ⟨-, rfl⟩ | ⟨c, rest, -, hc⟩
  · exact hs.congr s.idle_ctl (congrArg Allocator.held s.idle_alloc)
  · obtain ⟨u, v, hu, hdoes, hv⟩ := exec_comes hc
    have hbefore : u.ControllerFits := hs.congr hu.ctl (congrArg Allocator.held hu.alloc)
    exact (hdoes.controllerFits hbefore).congr hv.ctl (congrArg Allocator.held hv.alloc)

end Sys2Proof.Machine

namespace Sys2Proof.Machine

/-! ### LOADING drafts (R91, R116, R120) -/

theorem PerPort.get_set_of_ne {α : Type} (x : PerPort α) {p q : Port} (v : α) (h : q ≠ p) : (x.set p v).get q = x.get q := by
  cases p <;> cases q
  · exact absurd rfl h
  · rfl
  · rfl
  · exact absurd rfl h

/-- The operation is no load of a page. -/
def EngineOp.NoLoad (op : Option EngineOp) : Prop := ∀ pg p tag, op ≠ some (.load pg p tag)

/-- A load is kept by a sample period (R116). -/
theorem State.memoryPeriod_of_load {s : State} {pg : PageIx} {p : Port} {tag : Byte}
    (h : s.memory.op = some (.load pg p tag)) : s.memoryPeriod.op = some (.load pg p tag) := by
  rcases s.memoryPeriod_cases with e | ⟨op, next, hop, hnext, -, -⟩
  · rw [e]
    exact h
  · obtain rfl := Option.some.inj (hop.symm.trans h)
    cases hnext

namespace State.DraftsFit

variable {s t : State}

theorem congr (h : s.DraftsFit) (hreset : t.inReset = s.inReset) (hop : t.memory.op = s.memory.op)
    (hdrafts : t.drafts = s.drafts) : t.DraftsFit := by
  simpa only [State.DraftsFit, hreset, hop, hdrafts] using h

theorem of_slotsAct (h : s.DraftsFit) (hact : s.SlotsAct t) : t.DraftsFit :=
  h.congr hact.inReset (congrArg Memory.op hact.memory) hact.drafts

theorem of_keeps (h : s.DraftsFit) (hk : s.KeepsRecords t) : t.DraftsFit :=
  h.congr hk.inReset (congrArg Memory.op hk.memory) hk.drafts

theorem of_alike (h : s.DraftsFit) (hk : s.Alike t) : t.DraftsFit :=
  h.congr hk.inReset (congrArg Memory.op hk.memory) hk.drafts

theorem write (h : s.DraftsFit) (n : Notice) : (s.write n).DraftsFit := h.of_alike (.write s n)

/-- While the engine loads no page, no draft is LOADING. -/
theorem loading_none (h : s.DraftsFit) (hop : EngineOp.NoLoad s.memory.op) (p : Port) :
    (s.drafts.get p).loading = none := by
  rw [Option.eq_none_iff_forall_ne_some]
  intro pg hpg
  obtain ⟨tag, hload⟩ := h.2 p pg hpg
  exact hop pg p tag hload

/-- A running part of which no draft is LOADING. -/
theorem of_none (hreset : t.inReset = false) (hnone : ∀ p, (t.drafts.get p).loading = none) : t.DraftsFit :=
  ⟨fun h => absurd (hreset.symm.trans h) Bool.false_ne_true, fun p _ hpg => absurd ((hnone p).symm.trans hpg) nofun⟩

/-- The engine of a running part goes from no load to any operation. -/
theorem setOp (h : s.DraftsFit) (hop : EngineOp.NoLoad s.memory.op) (hreset : t.inReset = false)
    (hdrafts : t.drafts = s.drafts) : t.DraftsFit :=
  of_none hreset fun p => by
    rw [hdrafts]
    exact h.loading_none hop p

/-- A draft's content may be another, its page staying (R91). -/
theorem modDraft (h : s.DraftsFit) (p : Port) {f : Draft → Draft}
    (hf : (f (s.drafts.get p)).loading = (s.drafts.get p).loading) : (s.modDraft p f).DraftsFit := by
  refine ⟨h.1, fun q pg hq => h.2 q pg ?_⟩
  by_cases hqp : q = p
  · subst q
    rw [← hf]
    exact (congrArg Draft.loading (PerPort.get_set_self _ _ _)).symm.trans hq
  · exact (congrArg Draft.loading (PerPort.get_set_of_ne _ _ hqp)).symm.trans hq

/-- A page load begins (R120). -/
theorem pageLoad (h : s.DraftsFit) (hr : s.inReset = false) (hop : s.memory.op = none) (p : Port) (tag : Byte)
    (pg : PageIx) : ((s.startOp (.load pg p tag)).modDraft p fun d => { d with loading := some pg }).DraftsFit := by
  refine ⟨fun hreset => absurd (hr.symm.trans hreset) Bool.false_ne_true, fun q pg' hq => ?_⟩
  by_cases hqp : q = p
  · subst q
    obtain rfl : pg = pg' :=
      Option.some.inj ((congrArg Draft.loading (PerPort.get_set_self s.drafts p _)).symm.trans hq)
    exact ⟨tag, rfl⟩
  · have hother : (s.drafts.get q).loading = some pg' :=
      (congrArg Draft.loading (PerPort.get_set_of_ne s.drafts _ hqp)).symm.trans hq
    obtain ⟨_, hload⟩ := h.2 q pg' hother
    exact absurd (hop.symm.trans hload) nofun

/-- The port whose page was loaded has its draft no longer LOADING, and the other port had none (R120). -/
theorem loadEnds (h : s.DraftsFit) {pg : PageIx} {p : Port} {tag : Byte} (hop : s.memory.op = some (.load pg p tag))
    {d : Draft} (hd : d.loading = none) (hreset : t.inReset = false) (hdrafts : t.drafts = s.drafts.set p d) :
    t.DraftsFit := by
  refine of_none hreset fun q => ?_
  rw [hdrafts]
  by_cases hqp : q = p
  · subst q
    rw [PerPort.get_set_self]
    exact hd
  · rw [PerPort.get_set_of_ne _ _ hqp, Option.eq_none_iff_forall_ne_some]
    intro pg' hpg
    obtain ⟨_, hload⟩ := h.2 q pg' hpg
    cases hop.symm.trans hload
    exact hqp rfl

theorem storeErased (h : s.DraftsFit) (hr : s.inReset = false) : s.storeErased.DraftsFit := by
  unfold State.storeErased
  split
  · exact h.setOp (by simp [EngineOp.NoLoad, *]) hr rfl
  · exact h

theorem storeProgrammed (h : s.DraftsFit) (hr : s.inReset = false) : s.storeProgrammed.DraftsFit := by
  unfold State.storeProgrammed
  split
  · exact h.setOp (by simp [EngineOp.NoLoad, *]) hr rfl
  · exact h

theorem storeVerified (h : s.DraftsFit) (hr : s.inReset = false) (intact : Bool) : (s.storeVerified intact).DraftsFit := by
  unfold State.storeVerified
  split
  · split <;> exact h.setOp (by simp [EngineOp.NoLoad, *]) hr rfl
  · exact h

theorem pageErased (h : s.DraftsFit) (hr : s.inReset = false) : s.pageErased.DraftsFit := by
  unfold State.pageErased
  split
  · exact h.setOp (by simp [EngineOp.NoLoad, *]) hr rfl
  · exact h

theorem pageLoaded (h : s.DraftsFit) (hr : s.inReset = false) (intact : Bool) : (s.pageLoaded intact).DraftsFit := by
  unfold State.pageLoaded
  split
  · rename_i hop
    split <;> exact h.loadEnds hop rfl hr rfl
  · exact h

theorem bootWritten (h : s.DraftsFit) (hr : s.inReset = false) (intact : Bool) : (s.bootWritten intact).DraftsFit := by
  unfold State.bootWritten
  split
  · split <;> exact h.setOp (by simp [EngineOp.NoLoad, *]) hr rfl
  · exact h

theorem endRead (h : s.DraftsFit) (hr : s.inReset = false) (hop : EngineOp.NoLoad s.memory.op) (o : BootOutcome) :
    (s.endRead o).DraftsFit := h.setOp hop hr rfl

theorem install (h : s.DraftsFit) (pl : Plan) (c : Change) : (s.install pl c).DraftsFit :=
  (h.congr rfl rfl rfl : (s.takePlan pl c).DraftsFit).of_keeps (.install s pl c)

theorem startUpEnd (h : s.DraftsFit) (hr : s.inReset = false) (x y : Bool) : (s.startUpEnd x y).DraftsFit := by
  rcases s.startUpEnd_cases x y with e | ⟨item, o, hop, hend⟩
  · rwa [e]
  · have hread : (s.endRead o).DraftsFit := h.endRead hr (by simp [EngineOp.NoLoad, hop]) o
    rcases hend with ⟨pl, -, e⟩ | e <;> rw [e]
    · have hactive : ((s.endRead o).activated pl).DraftsFit := hread.congr rfl rfl rfl
      exact hactive.of_keeps ((State.KeepsRecords.startUpInstall (s.endRead o) pl).write _)
    · exact hread.of_keeps (((State.KeepsRecords.of_slotsAct (.refl _)).releaseWithoutRaise.endChange).write _)

theorem reloadEnd (h : s.DraftsFit) (hr : s.inReset = false) (x y : Bool) : (s.reloadEnd x y).DraftsFit := by
  rcases s.reloadEnd_cases x y with e | ⟨item, p, tag, o, hop, hend⟩
  · rwa [e]
  · have hread : (s.endRead o).DraftsFit := h.endRead hr (by simp [EngineOp.NoLoad, hop]) o
    rcases hend with ⟨pl, -, e⟩ | e <;> rw [e]
    · exact hread.install pl _
    · exact hread.of_keeps (((State.KeepsRecords.of_slotsAct (.refl _)).endChange.releaseWithoutRaise).write _)

theorem deviceReset (s : State) (cause : ResetCause) : (s.deviceReset cause).DraftsFit := by
  refine ⟨fun _ => s.memory.afterReset_idle.1, fun p pg hpg => ?_⟩
  cases p <;> cases hpg

/-- The engine is idle in a reset, so the start-up read finds no draft LOADING (R90, R125). -/
theorem comeUp (h : s.DraftsFit) (hreset : s.inReset = true) : s.comeUp.DraftsFit :=
  h.setOp (by simp [EngineOp.NoLoad, h.1 hreset]) rfl rfl

end State.DraftsFit

/-- What a command does outside a reset keeps the drafts in agreement with the engine. -/
theorem Does.draftsFit {c : Instr} {s t : State} (hdoes : Does c s t) (hr : s.inReset = false) (h : s.DraftsFit) :
    t.DraftsFit := by
  have idle (hop : s.memory.op = none) : EngineOp.NoLoad s.memory.op := by simp [EngineOp.NoLoad, hop]
  cases hdoes with
  | nothing => exact h
  | deviceReset cause => exact .deviceReset s cause
  | resetEnd _ hreset => exact h.comeUp hreset
  | trimLevel p tag i delta =>
    have htrimmed : (s.trimmedLevel p tag i delta).DraftsFit := h.congr rfl rfl rfl
    exact htrimmed.of_slotsAct (State.SlotsAct.refl _).startRun
  | trimFrequency => exact h.congr rfl rfl rfl
  | revive p tag i => exact h.of_slotsAct ((State.SlotsAct.refl s).reviveSlot i _ _ _)
  | draftCopy p => exact h.modDraft p rfl
  | draftClear p => exact h.modDraft p rfl
  | draftPutEntry p => exact h.modDraft p rfl
  | draftPutHeader p => exact h.modDraft p rfl
  | commit => exact h.install _ _
  | pageStore p tag pg snapshot _ hop => exact h.setOp (idle hop) hr rfl
  | pageLoad p tag pg _ hop => exact h.pageLoad hr hop p tag pg
  | pageErase p tag pg _ hop => exact h.setOp (idle hop) hr rfl
  | bootSet p tag pr fb _ hop => exact h.setOp (idle hop) hr rfl
  | reload p tag _ _ hop => exact h.setOp (idle hop) hr rfl
  | levelIntervalExpiry order =>
    obtain ⟨-, hreset, hdrafts, hmemory⟩ := State.KeepsRecords.expireInterval s order
    exact h.congr hreset (congrArg Memory.op hmemory) hdrafts
  | holdTimerExpiry i => exact h.of_slotsAct ((State.SlotsAct.refl s).holdOut i)
  | reacquireTimerExpiry i => exact h.of_slotsAct ((State.SlotsAct.refl s).reacquireOut i)
  | riseCompletion i => exact h.of_slotsAct ((State.SlotsAct.refl s).completeRise i)
  | fallCompletion i => exact h.of_keeps ((State.KeepsRecords.of_slotsAct (.refl s)).completeFall i)
  | storeEraseDone => exact h.storeErased hr
  | storeProgramDone => exact h.storeProgrammed hr
  | storeVerifyDone intact => exact h.storeVerified hr intact
  | pageEraseDone => exact h.pageErased hr
  | pageLoadReadDone intact => exact h.pageLoaded hr intact
  | bootWriteDone intact => exact h.bootWritten hr intact
  | startUpReadEnd x y => exact h.startUpEnd hr x y
  | reloadReadEnd x y => exact h.reloadEnd hr x y

/-- In a reset only the lines act, and they leave the engine idle but for the reset's own end (R132). -/
theorem State.DraftsFit.exec_of_reset {c : Instr} {s t : State} (h : s.DraftsFit) (hr : s.inReset = true)
    (ht : exec c s = .next t) : t.DraftsFit := by
  cases c with
  | deviceReset cause => exact Host.Outcome.next.inj ht ▸ .deviceReset s cause
  | resetEnd =>
    obtain rfl := Host.Outcome.next.inj ht
    dsimp only
    rw [if_pos hr]
    exact (h.comeUp hr).congr rfl rfl rfl
  | interlockAsserted => exact h.of_alike (execInterlockAsserted_alike ht)
  | interlockReleased => exact h.of_alike (execInterlockReleased_alike ht)
  | transferBegin p => exact Host.Outcome.next.inj ht ▸ h.of_alike (.modPort s p _)
  | transferEnd p => exact Host.Outcome.next.inj ht ▸ h.of_alike (.modPort s p _)
  | _ =>
    obtain rfl := Host.Outcome.next.inj (ht.symm.trans
      (Machine.exec_of_reset hr nofun nofun nofun nofun fun _ => ⟨nofun, nofun⟩))
    exact h

theorem State.DraftsFit.idle {s : State} (h : s.DraftsFit) : s.idle.DraftsFit := by
  unfold State.idle
  split
  · exact h.congr rfl rfl rfl
  · rename_i hr
    split
    · exact h.congr rfl rfl rfl
    · refine ⟨fun hreset => absurd hreset hr, fun p pg hpg => ?_⟩
      obtain ⟨tag, hload⟩ := h.2 p pg hpg
      exact ⟨tag, State.memoryPeriod_of_load hload⟩

/-- Every step keeps a draft LOADING only while the engine reads its page for it. -/
theorem step_draftsFit {s t : State} (hs : s.DraftsFit) (ht : step s = .next t) : t.DraftsFit := by
  rcases step_cases ht with ⟨-, rfl⟩ | ⟨c, rest, -, hc⟩
  · exact hs.idle
  · have hbefore : ({ s with pending := rest } : State).DraftsFit := hs.congr rfl rfl rfl
    by_cases hr : s.inReset = true
    · exact hbefore.exec_of_reset hr hc
    · obtain ⟨u, v, hu, hdoes, hv⟩ := exec_comes hc
      have hrunning : u.inReset = false := hu.inReset.trans (Bool.not_eq_true _ ▸ hr)
      exact (hdoes.draftsFit hrunning (hbefore.of_alike hu)).of_alike hv

end Sys2Proof.Machine

namespace Sys2Proof.Machine

/-! ### The Arbiter's timers (R150, R155) -/

namespace Arbiter.TimersFit

variable {a b : Arbiter}

/-- Which timers are stopped decides. -/
theorem of_same_stopped (h : a.TimersFit) (hauthority : b.authority = a.authority)
    (hlease : b.lease.isSome = a.lease.isSome) (hwindow : b.forceWindow.isSome = a.forceWindow.isSome)
    (hcontest : b.contest.isSome = a.contest.isSome) : b.TimersFit := by
  have stopped {x y : Option Nat} (e : x.isSome = y.isSome) (hy : y = none) : x = none := by
    rw [hy] at e
    exact Option.not_isSome_iff_eq_none.mp (by rw [e]; decide)
  unfold Arbiter.TimersFit at h ⊢
  rw [hauthority]
  split at h
  · obtain ⟨hl, hw, hc⟩ := h
    exact ⟨stopped hlease hl, stopped hwindow hw, stopped hcontest hc⟩
  · obtain ⟨hw, hc⟩ := h
    exact ⟨stopped hwindow hw, stopped hcontest hc⟩
  · exact stopped hcontest h
  · obtain ⟨hl, hw, hc⟩ := h
    exact ⟨stopped hlease hl, stopped hwindow hw, hcontest.trans hc⟩

theorem tick (h : a.TimersFit) : a.tick.TimersFit :=
  h.of_same_stopped rfl Option.isSome_map Option.isSome_map Option.isSome_map

theorem setFlags (h : a.TimersFit) (flags : PerPort (BitVec 4)) : ({ a with flags := flags } : Arbiter).TimersFit := h

/-- A holder's lease timer may run or not (R157). -/
theorem setLease (h : a.TimersFit) {p : Port} {m : Manner} (hheld : a.authority = .held p m) (lease : Option Nat) :
    ({ a with lease := lease } : Arbiter).TimersFit := by
  unfold Arbiter.TimersFit at h ⊢
  rw [hheld] at h ⊢
  cases m <;> exact h

/-- Every timer is stopped in OPEN (R153, R154, R156). -/
theorem toOpen (a : Arbiter) : a.toOpen.TimersFit := ⟨rfl, rfl, rfl⟩

theorem stopWindow (h : a.TimersFit) : ({ a with forceWindow := none } : Arbiter).TimersFit := by
  unfold Arbiter.TimersFit at h ⊢
  split at h <;> rename_i hauthority <;> rw [hauthority]
  · obtain ⟨hlease, -, hcontest⟩ := h
    exact ⟨hlease, rfl, hcontest⟩
  · obtain ⟨-, hcontest⟩ := h
    exact ⟨rfl, hcontest⟩
  · exact h
  · obtain ⟨hlease, -, hcontest⟩ := h
    exact ⟨hlease, rfl, hcontest⟩

end Arbiter.TimersFit

/-! The Arbiter's own actions. -/

section Authority

variable {s : State}

theorem State.holds_held {p : Port} (h : s.holds p = true) : ∃ m, s.arbiter.authority = .held p m := by
  unfold State.holds at h
  split at h
  · rename_i q m hheld
    obtain rfl := of_decide_eq_true h
    exact ⟨m, hheld⟩
  all_goals cases h

theorem State.renewLease_timersFit (h : s.arbiter.TimersFit) (p : Port) (st : Status) :
    (s.renewLease p st).arbiter.TimersFit := by
  unfold State.renewLease
  split
  · rename_i hcond
    obtain ⟨m, hheld⟩ := State.holds_held (Bool.and_eq_true_iff.mp hcond).2
    exact h.setLease hheld _
  · exact h

theorem State.respond_timersFit (h : s.arbiter.TimersFit) (p : Port) (r : Request) (a : Reply) :
    (s.respond p r a).arbiter.TimersFit := by
  unfold State.respond
  dsimp only
  split <;> exact State.renewLease_timersFit h p a.status

theorem State.giveUp_timersFit (h : s.arbiter.TimersFit) (p : Port) : (s.giveUp p).arbiter.TimersFit := by
  unfold State.giveUp
  split
  · exact .toOpen _
  · exact h

/-- A taker's lease runs, and a force's window (R151, R152, R155). -/
theorem State.takeAuthority_timersFit (s : State) (p : Port) (m : Manner) : (s.takeAuthority p m).arbiter.TimersFit := by
  cases m with
  | claim => exact ⟨rfl, rfl⟩
  | force => exact rfl

/-- In CONTESTED the contest timer alone runs (R152). -/
theorem State.enterContested_timersFit (s : State) (p : Port) (tag : Byte) :
    (s.enterContested p tag).arbiter.TimersFit := ⟨rfl, rfl, rfl⟩

theorem State.lapse_timersFit (h : s.arbiter.TimersFit) : s.lapse.arbiter.TimersFit := by
  unfold State.lapse
  split
  · exact .toOpen _
  all_goals exact h

theorem State.writeFlags_arbiter (s : State) (p : Port) (tag : Option Byte) (old new : BitVec 4) (cause : Cause) :
    (s.writeFlags p tag old new cause).arbiter = s.arbiter := by
  unfold State.writeFlags
  split <;> rfl

theorem State.clearPort_timersFit (h : s.arbiter.TimersFit) (p : Port) : (s.clearPort p).arbiter.TimersFit := by
  have hgiven (u : State) (hu : u.arbiter = { s.arbiter with flags := s.arbiter.flags.set p 0 }) :
      (u.giveUp p).arbiter.TimersFit := State.giveUp_timersFit (by rw [hu]; exact h) p
  unfold State.clearPort
  dsimp only
  rw [State.writeFlags_arbiter]
  split <;> exact hgiven _ rfl

theorem onClaimNormal_timersFit (h : s.arbiter.TimersFit) (p : Port) (r : Request) :
    (onClaimNormal p r s).1.arbiter.TimersFit := by
  unfold onClaimNormal State.withView
  split
  · exact h
  · split
    · exact s.takeAuthority_timersFit p .claim
    · split
      · exact State.renewLease_timersFit h p _
      · exact h
    · exact h

theorem onClaimForce_timersFit (h : s.arbiter.TimersFit) (p : Port) (r : Request) :
    (onClaimForce p r s).1.arbiter.TimersFit := by
  unfold onClaimForce State.withView
  split
  · exact s.takeAuthority_timersFit p .claim
  · exact h
  · split
    · exact State.renewLease_timersFit h p _
    · split
      · exact s.enterContested_timersFit p r.tag
      · exact s.takeAuthority_timersFit p .force

theorem onRelease_timersFit (h : s.arbiter.TimersFit) (p : Port) (r : Request) :
    (onRelease p r s).1.arbiter.TimersFit := by
  unfold onRelease State.withView
  split
  · exact State.giveUp_timersFit h p
  · exact h

theorem onFlagsWrite_timersFit (h : s.arbiter.TimersFit) (p : Port) (r : Request) :
    (onFlagsWrite p r s).1.arbiter.TimersFit := by
  unfold onFlagsWrite
  split
  · exact h
  · dsimp only
    rw [State.writeFlags_arbiter]
    exact h.setFlags _

end Authority

/-! What leaves the Arbiter alone: the slots' actions, the runs, a change of plan and Plan Memory's operations. -/

theorem State.ActsWithin.arbiter {s t : State} (h : s.ActsWithin t) : t.arbiter = s.arbiter := by rw [h.frame]

section Operations

variable (s : State)

theorem State.startRun_arbiter : s.startRun.arbiter = s.arbiter := (State.ActsWithin.refl s).startRun.arbiter

theorem State.trimLevel_arbiter (p : Port) (tag : Byte) (i : SlotIx) (delta : Int) :
    (s.trimLevel p tag i delta).arbiter = s.arbiter := State.startRun_arbiter (s.trimmedLevel p tag i delta)

theorem State.reviveSlot_arbiter (i : SlotIx) (port : Option Port) (tag : Option Byte) (cause : Cause) :
    (s.reviveSlot i port tag cause).arbiter = s.arbiter := by
  obtain ⟨_, _, _, _, _, e⟩ := s.reviveSlot_frame i port tag cause
  rw [e]

theorem State.releaseWithRaise_arbiter : s.releaseWithRaise.arbiter = s.arbiter := by
  obtain ⟨_, _, _, _, _, e⟩ := s.releaseWithRaise_frame
  rw [e]

theorem State.releaseWithoutRaise_arbiter : s.releaseWithoutRaise.arbiter = s.arbiter := by
  obtain ⟨_, _, _, _, _, e⟩ := s.releaseWithoutRaise_frame
  rw [e]

theorem State.writeOpt_arbiter (n : Option Notice) : (s.writeOpt n).arbiter = s.arbiter := by
  rw [State.writeOpt_eq]

theorem State.raiseSlots_arbiter (l : List SlotIx) : (s.raiseSlots l).arbiter = s.arbiter :=
  (State.releaseWithRaise_arbiter _).trans
    (foldl_keeps (fun t => t.arbiter = s.arbiter) State.raiseOrder (fun _ _ h => h) l s rfl)

theorem State.raise_arbiter : s.raise.arbiter = s.arbiter :=
  (State.writeOpt_arbiter _ _).trans (State.raiseSlots_arbiter s.inRaising (members s.ctl.drainSet))

theorem State.raiseIfDrained_arbiter : s.raiseIfDrained.arbiter = s.arbiter := by
  unfold State.raiseIfDrained
  split
  · exact s.raise_arbiter
  · rfl

theorem State.install_arbiter (pl : Plan) (c : Change) : (s.install pl c).arbiter = s.arbiter := by
  obtain ⟨_, _, _, _, _, _, e⟩ := s.install_frame pl c
  rw [e]

theorem State.completeFall_arbiter (i : SlotIx) : (s.completeFall i).arbiter = s.arbiter := by
  unfold State.completeFall
  split
  · rfl
  all_goals
    dsimp only
    split
    · exact State.raiseIfDrained_arbiter _
    · rfl

theorem State.expireInterval_arbiter (order : List Turn) : (s.expireInterval order).arbiter = s.arbiter :=
  (s.expireInterval_within order).arbiter

theorem State.startUpEnd_arbiter (x y : Bool) : (s.startUpEnd x y).arbiter = s.arbiter := by
  rcases s.startUpEnd_cases x y with e | ⟨item, o, -, ⟨pl, -, e⟩ | e⟩ <;> rw [e]
  · exact State.raiseSlots_arbiter ((s.endRead o).activated pl) allSlots
  · exact State.releaseWithoutRaise_arbiter (s.endRead o)

theorem State.reloadEnd_arbiter (x y : Bool) : (s.reloadEnd x y).arbiter = s.arbiter := by
  rcases s.reloadEnd_cases x y with e | ⟨item, p, tag, o, -, ⟨pl, -, e⟩ | e⟩ <;> rw [e]
  · exact State.install_arbiter (s.endRead o) pl _
  · exact State.releaseWithoutRaise_arbiter (s.endRead o).endChange

theorem State.storeErased_arbiter : s.storeErased.arbiter = s.arbiter := by
  unfold State.storeErased
  split <;> rfl

theorem State.storeProgrammed_arbiter : s.storeProgrammed.arbiter = s.arbiter := by
  unfold State.storeProgrammed
  split <;> rfl

theorem State.storeVerified_arbiter (intact : Bool) : (s.storeVerified intact).arbiter = s.arbiter := by
  unfold State.storeVerified
  split
  · split <;> rfl
  · rfl

theorem State.pageErased_arbiter : s.pageErased.arbiter = s.arbiter := by
  unfold State.pageErased
  split <;> rfl

theorem State.pageLoaded_arbiter (intact : Bool) : (s.pageLoaded intact).arbiter = s.arbiter := by
  unfold State.pageLoaded
  split
  · split <;> rfl
  · rfl

theorem State.bootWritten_arbiter (intact : Bool) : (s.bootWritten intact).arbiter = s.arbiter := by
  unfold State.bootWritten
  split
  · split <;> rfl
  · rfl

end Operations

/-! The owning blocks of the requests that are not about authority leave the Arbiter alone. -/

section Handlers

variable (p : Port) (r : Request) (s : State)

theorem onTrimLevel_arbiter : (onTrimLevel p r s).1.arbiter = s.arbiter := by
  unfold onTrimLevel
  split
  · rfl
  · dsimp only
    split
    · rfl
    · split
      · rfl
      · exact s.trimLevel_arbiter p r.tag _ _

theorem onTrimFrequency_arbiter : (onTrimFrequency p r s).1.arbiter = s.arbiter := by
  unfold onTrimFrequency
  split
  · rfl
  · dsimp only
    repeat' split
    all_goals rfl

theorem onRevive_arbiter : (onRevive p r s).1.arbiter = s.arbiter := by
  unfold onRevive
  split
  · rfl
  · split
    · rfl
    · split
      · exact s.reviveSlot_arbiter _ _ _ _
      · rfl

theorem State.editDraft_arbiter {f : State → State × Reply} (hf : (f s).1.arbiter = s.arbiter) :
    (s.editDraft p f).1.arbiter = s.arbiter := by
  unfold State.editDraft
  split
  · rfl
  · exact hf

theorem onDraftPutEntry_arbiter : (onDraftPutEntry p r s).1.arbiter = s.arbiter :=
  State.editDraft_arbiter p s (by split <;> rfl)

theorem onDraftPutHeader_arbiter : (onDraftPutHeader p r s).1.arbiter = s.arbiter :=
  State.editDraft_arbiter p s (by split <;> rfl)

theorem onCommit_arbiter : (onCommit p r s).1.arbiter = s.arbiter := by
  unfold onCommit
  split
  · rfl
  · dsimp only
    exact s.install_arbiter _ _

theorem onPageStore_arbiter : (onPageStore p r s).1.arbiter = s.arbiter := by
  unfold onPageStore
  repeat' split
  all_goals rfl

theorem onPageLoad_arbiter : (onPageLoad p r s).1.arbiter = s.arbiter := by
  unfold onPageLoad
  repeat' split
  all_goals rfl

theorem onPageErase_arbiter : (onPageErase p r s).1.arbiter = s.arbiter := by
  unfold onPageErase
  repeat' split
  all_goals rfl

theorem onBootSet_arbiter : (onBootSet p r s).1.arbiter = s.arbiter := by
  unfold onBootSet
  repeat' split
  all_goals rfl

theorem onReload_arbiter : (onReload p r s).1.arbiter = s.arbiter := by
  unfold onReload
  repeat' split
  all_goals rfl

theorem onCounterControl_arbiter : (onCounterControl p r s).1.arbiter = s.arbiter := by
  unfold onCounterControl
  dsimp only
  repeat' split
  all_goals rfl

theorem onCounterRead_arbiter : (onCounterRead p r s).1.arbiter = s.arbiter := by
  unfold onCounterRead
  dsimp only
  repeat' split
  all_goals rfl

theorem onEventRead_arbiter : (onEventRead p r s).1.arbiter = s.arbiter := by
  unfold onEventRead
  dsimp only
  repeat' split
  all_goals rfl

end Handlers

/-- A taken request keeps what its owning block keeps: the answer may only renew the holder's lease (R145). -/
theorem State.take_timersFit {s t : State} {p : Port} {row : RequestRow}
    {handler : Port → Request → State → State × Reply}
    (hh : ∀ (r : Request) (u : State), u.arbiter.TimersFit → (handler p r u).1.arbiter.TimersFit)
    (hs : s.arbiter.TimersFit) (h : s.take p row handler = .next t) : t.arbiter.TimersFit := by
  rcases State.take_cases h with rfl | ⟨r, -, -, ⟨st, -, rfl⟩ | ⟨-, rfl⟩⟩
  · exact hs
  · exact State.respond_timersFit (s := s.dequeue p) hs p r _
  · exact State.respond_timersFit (hh r (s.dequeue p) hs) p r _

theorem State.running_timersFit {s t : State} {f : State → State} (hf : (f s).arbiter.TimersFit)
    (hs : s.arbiter.TimersFit) (h : s.running f = .next t) : t.arbiter.TimersFit := by
  rcases State.running_cases h with rfl | ⟨-, rfl⟩
  · exact hs
  · exact hf

theorem execInterlockAsserted_arbiter {s t : State} (h : execInterlockAsserted s = .next t) : t.arbiter = s.arbiter := by
  rw [← Host.Outcome.next.inj h]
  unfold State.interlockOn
  repeat' split
  all_goals rfl

theorem execInterlockReleased_arbiter {s t : State} (h : execInterlockReleased s = .next t) : t.arbiter = s.arbiter := by
  rw [← Host.Outcome.next.inj h]
  unfold State.interlockOff
  repeat' split
  all_goals rfl

/-- Every command keeps the Arbiter's timers to the states they run in: the requests about authority and the expiries of
its timers act on them, a reset opens authority, and no other command touches the Arbiter but for the lease. -/
theorem exec_timersFit {c : Instr} {s t : State} (hs : s.arbiter.TimersFit) (h : exec c s = .next t) :
    t.arbiter.TimersFit := by
  have kept {u : State} (e : u.arbiter = s.arbiter) : u.arbiter.TimersFit := e.symm ▸ hs
  have same {p : Port} {row : RequestRow} {handler : Port → Request → State → State × Reply}
      (hh : ∀ (r : Request) (u : State), (handler p r u).1.arbiter = u.arbiter) (h : s.take p row handler = .next t) :
      t.arbiter.TimersFit := State.take_timersFit (fun r u hu => (hh r u).symm ▸ hu) hs h
  have runs {f : State → State} (e : (f s).arbiter = s.arbiter) (h : s.running f = .next t) : t.arbiter.TimersFit :=
    State.running_timersFit (kept e) hs h
  cases c with
  | deviceReset cause =>
    obtain rfl := Host.Outcome.next.inj h
    exact ⟨rfl, rfl, rfl⟩
  | resetEnd =>
    obtain rfl := Host.Outcome.next.inj h
    dsimp only
    split <;> exact hs
  | interlockAsserted => exact kept (execInterlockAsserted_arbiter h)
  | interlockReleased => exact kept (execInterlockReleased_arbiter h)
  | transferBegin p => exact Host.Outcome.next.inj h ▸ hs
  | transferEnd p => exact Host.Outcome.next.inj h ▸ hs
  | requestFrame p f => exact runs (f := fun s => s.modPort p _) rfl h
  | bodyLengthAbove256 p n => exact runs (f := fun s => s.modPort p _) rfl h
  | responseShiftedOut p => exact runs (f := fun s => s.modPort p _) rfl h
  | startByte p => exact runs (f := fun s => s.modPort p _) rfl h
  | identify p => exact same (fun _ _ => rfl) h
  | statusRead p => exact same (fun _ _ => rfl) h
  | nop p => exact same (fun _ _ => rfl) h
  | portClear p => exact State.take_timersFit (fun _ _ hu => State.clearPort_timersFit hu p) hs h
  | claimNormal p => exact State.take_timersFit (fun r _ hu => onClaimNormal_timersFit hu p r) hs h
  | claimForce p => exact State.take_timersFit (fun r _ hu => onClaimForce_timersFit hu p r) hs h
  | release p => exact State.take_timersFit (fun r _ hu => onRelease_timersFit hu p r) hs h
  | flagsWrite p => exact State.take_timersFit (fun r _ hu => onFlagsWrite_timersFit hu p r) hs h
  | planRead p => exact same (fun r u => congrArg State.arbiter (onPlanRead_state p r u)) h
  | trimLevel p => exact same (onTrimLevel_arbiter p) h
  | trimFrequency p => exact same (onTrimFrequency_arbiter p) h
  | slotRead p => exact same (fun r u => congrArg State.arbiter (onSlotRead_state p r u)) h
  | revive p => exact same (onRevive_arbiter p) h
  | budgetRead p => exact same (fun _ _ => rfl) h
  | draftCopy p => exact same (fun _ u => State.editDraft_arbiter p u rfl) h
  | draftPutEntry p => exact same (onDraftPutEntry_arbiter p) h
  | draftPutHeader p => exact same (onDraftPutHeader_arbiter p) h
  | draftClear p => exact same (fun _ u => State.editDraft_arbiter p u rfl) h
  | draftGet p => exact same (fun r u => congrArg State.arbiter (onDraftGet_state p r u)) h
  | commit p => exact same (onCommit_arbiter p) h
  | pageStore p => exact same (onPageStore_arbiter p) h
  | pageLoad p => exact same (onPageLoad_arbiter p) h
  | pageErase p => exact same (onPageErase_arbiter p) h
  | pageInfo p => exact same (fun r u => congrArg State.arbiter (onPageInfo_state p r u)) h
  | bootSet p => exact same (onBootSet_arbiter p) h
  | bootRead p => exact same (fun _ _ => rfl) h
  | reload p => exact same (onReload_arbiter p) h
  | counterControl p => exact same (onCounterControl_arbiter p) h
  | counterRead p => exact same (onCounterRead_arbiter p) h
  | eventRead p => exact same (onEventRead_arbiter p) h
  | unknownRequest p => exact same (fun _ _ => rfl) h
  | levelIntervalExpiry order => exact runs (f := fun s => s.expireInterval order) (s.expireInterval_arbiter order) h
  | settlingComplete i =>
    exact runs (f := fun s => s.modExtraction i fun x => { x with settling := none }) rfl h
  | holdTimerExpiry i => exact runs (f := fun s => s.holdOut i) ((State.ActsWithin.refl s).holdOut i).arbiter h
  | reacquireTimerExpiry i =>
    exact runs (f := fun s => s.reacquireOut i) ((State.ActsWithin.refl s).reacquireOut i).arbiter h
  | riseCompletion i => exact runs (f := fun s => s.completeRise i) rfl h
  | fallCompletion i =>
    refine runs ?_ h
    split
    · exact s.completeFall_arbiter i
    · rfl
  | resumingRampCompletion =>
    refine runs ?_ h
    split <;> rfl
  | leaseExpiry =>
    refine State.running_timersFit ?_ hs h
    split
    · exact State.lapse_timersFit hs
    · exact hs
  | contestTimerExpiry =>
    refine State.running_timersFit ?_ hs h
    split
    · exact .toOpen _
    · exact hs
  | forceWindowExpiry =>
    exact State.running_timersFit (f := fun s => s.modArbiter fun a => { a with forceWindow := none }) hs.stopWindow hs h
  | storeEraseDone => exact runs s.storeErased_arbiter h
  | storeProgramDone => exact runs s.storeProgrammed_arbiter h
  | storeVerifyDone intact => exact runs (f := fun s => s.storeVerified intact) (s.storeVerified_arbiter intact) h
  | pageEraseDone => exact runs s.pageErased_arbiter h
  | pageLoadReadDone intact => exact runs (f := fun s => s.pageLoaded intact) (s.pageLoaded_arbiter intact) h
  | bootWriteDone intact => exact runs (f := fun s => s.bootWritten intact) (s.bootWritten_arbiter intact) h
  | startUpReadEnd x y => exact runs (f := fun s => s.startUpEnd x y) (s.startUpEnd_arbiter x y) h
  | reloadReadEnd x y => exact runs (f := fun s => s.reloadEnd x y) (s.reloadEnd_arbiter x y) h

theorem State.idle_timersFit {s : State} (h : s.arbiter.TimersFit) : s.idle.arbiter.TimersFit := by
  unfold State.idle
  split
  · exact h
  · split
    · exact h
    · exact h.tick

/-- Every step keeps the Arbiter's timers to the authority states they run in. -/
theorem step_arbiterTimersFit {s t : State} (hs : s.arbiter.TimersFit) (ht : step s = .next t) : t.arbiter.TimersFit := by
  rcases step_cases ht with ⟨-, rfl⟩ | ⟨c, rest, -, hc⟩
  · exact State.idle_timersFit hs
  · exact exec_timersFit (s := { s with pending := rest }) hs hc

/-- Settles O11: each of the four invariants is kept by itself, the Controller's and the drafts' through what a command
does to their blocks, the Arbiter's command by command and the slots' through the moves of a slot. -/
theorem stepKeepsControllerDraftsAndTimers : Obligations.StepKeepsControllerDraftsAndTimers :=
  ⟨fun _ _ => step_controllerFits, fun _ _ => step_draftsFit, fun _ _ => step_arbiterTimersFit,
    fun _ _ => step_slotTimersFit⟩

end Sys2Proof.Machine

namespace Sys2Proof.Machine

/-! ### What an allocation run gives, level by level (R67 to R69) -/

/-- A sum over some of the slots. -/
theorem sum_filter_allSlots (b : SlotIx → Bool) (f : SlotIx → Nat) :
    ((allSlots.filter b).map f).sum = ∑ i with b i = true, f i := by
  rw [← List.sum_toFinset f (nodup_allSlots.filter b)]
  refine Finset.sum_congr (Finset.ext fun i => ?_) fun _ _ => rfl
  simp [mem_allSlots]

/-- A sum over the sixteen slots. -/
theorem sum_allSlots (f : SlotIx → Nat) : (allSlots.map f).sum = ∑ i, f i := by
  simpa using sum_filter_allSlots (fun _ => true) f

/-- The slots in ascending index. -/
theorem sortedLT_allSlots : allSlots.Pairwise (· < ·) := by decide

/-- The floor part of a cut claimant is below its share exactly when it asks for one (R68). -/
theorem cutFloor_lt_iff {share r d : Nat} (h : r < d) : cutFloor share r d < share ↔ 0 < share := by
  unfold cutFloor
  rw [Nat.div_lt_iff_lt_mul (by omega)]
  exact ⟨fun hlt => Nat.pos_of_ne_zero fun h0 => by simp [h0] at hlt, fun hpos => Nat.mul_lt_mul_of_pos_left h hpos⟩

section CutLevel

variable (served : Finset SlotIx) (share : SlotIx → Nat) {r d : Nat} (hd : d = ∑ i ∈ served, share i) (hcut : r < d)
include hd hcut

/-- The floor parts of a cut level stay within its remainder (R68). -/
theorem sum_cutFloor_le : ∑ i ∈ served, cutFloor (share i) r d ≤ r := by
  refine Nat.le_of_mul_le_mul_right ?_ (Nat.zero_lt_of_lt hcut)
  calc (∑ i ∈ served, cutFloor (share i) r d) * d = ∑ i ∈ served, cutFloor (share i) r d * d := Finset.sum_mul _ _ _
    _ ≤ ∑ i ∈ served, share i * r := Finset.sum_le_sum fun i _ => Nat.div_mul_le_self _ _
    _ = r * d := by rw [← Finset.sum_mul, ← hd, Nat.mul_comm]

/-- One unit each to the claimants below their shares covers what the floor parts leave (R69). -/
theorem le_sum_cutFloor_add_card : r ≤ ∑ i ∈ served, cutFloor (share i) r d
    + (served.filter fun i => cutFloor (share i) r d < share i).card := by
  have hd0 : 0 < d := Nat.zero_lt_of_lt hcut
  have hunit (i : SlotIx) : share i * r ≤
      (cutFloor (share i) r d + if cutFloor (share i) r d < share i then 1 else 0) * d := by
    split
    · rw [Nat.mul_comm _ d]
      exact (Nat.lt_mul_div_succ _ hd0).le
    · have hzero : share i = 0 := Nat.eq_zero_of_not_pos fun h => ‹¬ _› ((cutFloor_lt_iff hcut).mpr h)
      simp [hzero]
  refine Nat.le_of_mul_le_mul_right ?_ hd0
  calc r * d = ∑ i ∈ served, share i * r := by rw [← Finset.sum_mul, ← hd, Nat.mul_comm]
    _ ≤ ∑ i ∈ served, (cutFloor (share i) r d + if cutFloor (share i) r d < share i then 1 else 0) * d :=
      Finset.sum_le_sum fun i _ => hunit i
    _ = _ := by rw [← Finset.sum_mul, Finset.sum_add_distrib, Finset.card_filter]

end CutLevel

section Levels

variable (s : State) (raise : Bool)

/-- Whom a run serves, in the words of R67. -/
theorem State.served_iff (i : SlotIx) : s.served raise i = true ↔ s.ctl.active.entries[i].enabled = true
    ∧ (s.slots[i].state ∈ [SlotState.deferred, .rising, .on, .hold, .muted]
      ∨ raise = true ∧ s.slots[i].state = .off) := by
  unfold State.served State.claimant
  cases s.slots[i].state <;> simp [-Fin.getElem_fin]

theorem State.servedAt_iff (p : Nat) (i : SlotIx) :
    s.servedAt raise p i = true ↔ s.served raise i = true ∧ s.ctl.active.entries[i].priority.val = p := by
  simp [State.servedAt, -Fin.getElem_fin]

theorem State.runGrant_of_servedAt {s : State} {raise : Bool} {p : Nat} {i : SlotIx}
    (h : s.servedAt raise p i = true) : s.runGrant raise i = s.grantAt raise p i := by
  obtain ⟨hserved, rfl⟩ := (s.servedAt_iff raise p i).mp h
  exact if_pos hserved

/-- A level whose demand is met gets its shares (R68). -/
theorem State.grantAt_of_met {s : State} {raise : Bool} {p : Nat} (h : s.demand raise p ≤ s.remainder raise p)
    (i : SlotIx) : s.grantAt raise p i = s.share i := if_pos h

/-- The claimants of a cut level that take a unit of its leftover (R69). -/
def State.unitAt (p : Nat) : List SlotIx := (s.shortAt raise p).take (s.leftover raise p)

/-- A cut level gets the floor parts and the units of the leftover (R68, R69). -/
theorem State.grantAt_of_cut {s : State} {raise : Bool} {p : Nat} (h : s.remainder raise p < s.demand raise p)
    (i : SlotIx) : s.grantAt raise p i = s.share i * s.remainder raise p / s.demand raise p
      + if i ∈ s.unitAt raise p then 1 else 0 := by
  rw [State.grantAt, if_neg (by omega)]
  simp only [List.contains_iff_mem]
  rfl

theorem State.mem_shortAt {p : Nat} (h : s.remainder raise p < s.demand raise p) (i : SlotIx) :
    i ∈ s.shortAt raise p ↔ s.servedAt raise p i = true ∧ 0 < s.share i := by
  simp [State.shortAt, mem_allSlots, cutFloor_lt_iff h]

theorem State.unitAt_sublist (p : Nat) : (s.unitAt raise p).Sublist allSlots :=
  (List.take_sublist _ _).trans List.filter_sublist

/-- Of two claimants below their shares the lower takes a unit of the leftover first (R69). -/
theorem State.unitAt_of_lt {p : Nat} {i j : SlotIx} (hi : i ∈ s.shortAt raise p) (hj : j ∈ s.unitAt raise p)
    (hij : i < j) : i ∈ s.unitAt raise p := by
  have hsorted : (s.shortAt raise p).Pairwise (· < ·) := sortedLT_allSlots.sublist List.filter_sublist
  rw [← List.take_append_drop (s.leftover raise p) (s.shortAt raise p)] at hi hsorted
  rcases List.mem_append.mp hi with hi | hi
  · exact hi
  · exact absurd ((List.pairwise_append.mp hsorted).2.2 j hj i hi) hij.asymm

/-- What the floor parts of a cut level add up to (R68). -/
def State.floorSum (p : Nat) : Nat :=
  ∑ i with s.servedAt raise p i = true, cutFloor (s.share i) (s.remainder raise p) (s.demand raise p)

theorem State.demand_eq_sum (p : Nat) : s.demand raise p = ∑ i with s.servedAt raise p i = true, s.share i :=
  sum_filter_allSlots _ _

theorem State.leftover_eq_sub (p : Nat) : s.leftover raise p = s.remainder raise p - s.floorSum raise p :=
  congrArg (s.remainder raise p - ·) (sum_filter_allSlots _ _)

/-- There are as many claimants below their shares as the leftover has units (R69). -/
theorem State.length_unitAt {p : Nat} (h : s.remainder raise p < s.demand raise p) :
    (s.unitAt raise p).length = s.leftover raise p := by
  have hcard : ((Finset.univ.filter fun i => s.servedAt raise p i = true).filter fun i =>
      cutFloor (s.share i) (s.remainder raise p) (s.demand raise p) < s.share i).card = (s.shortAt raise p).length := by
    rw [State.shortAt, ← List.toFinset_card_of_nodup (nodup_allSlots.filter _)]
    congr 1
    ext i
    simp [mem_allSlots]
  have hcover : s.remainder raise p ≤ s.floorSum raise p + (s.shortAt raise p).length :=
    hcard ▸ le_sum_cutFloor_add_card _ s.share (s.demand_eq_sum raise p) h
  have hleft := s.leftover_eq_sub raise p
  rw [State.unitAt, List.length_take]
  omega

/-- The units that the claimants of a cut level take are the leftover (R69). -/
theorem State.sum_units {p : Nat} (h : s.remainder raise p < s.demand raise p) :
    (∑ i with s.servedAt raise p i = true, if i ∈ s.unitAt raise p then 1 else 0) = s.leftover raise p := by
  have htakers : ((Finset.univ.filter fun i => s.servedAt raise p i = true).filter (· ∈ s.unitAt raise p))
      = (s.unitAt raise p).toFinset := by
    ext i
    simp only [Finset.mem_filter, List.mem_toFinset, Finset.mem_univ, true_and, and_iff_right_iff_imp]
    exact fun hi => ((s.mem_shortAt raise h i).mp (List.mem_of_mem_take hi)).1
  rw [← Finset.card_filter, htakers, List.toFinset_card_of_nodup (nodup_allSlots.sublist (s.unitAt_sublist raise p)),
    s.length_unitAt raise h]

/-- The grants of a cut level add up to its remainder (R69). -/
theorem State.sum_grantAt_of_cut {p : Nat} (h : s.remainder raise p < s.demand raise p) :
    ∑ i with s.servedAt raise p i = true, s.grantAt raise p i = s.remainder raise p := by
  have hfloors : s.floorSum raise p ≤ s.remainder raise p := sum_cutFloor_le _ s.share (s.demand_eq_sum raise p) h
  have hleft := s.leftover_eq_sub raise p
  calc ∑ i with s.servedAt raise p i = true, s.grantAt raise p i
      = ∑ i with s.servedAt raise p i = true, (cutFloor (s.share i) (s.remainder raise p) (s.demand raise p)
          + if i ∈ s.unitAt raise p then 1 else 0) := Finset.sum_congr rfl fun i _ => State.grantAt_of_cut h i
    _ = s.floorSum raise p + s.leftover raise p := by rw [Finset.sum_add_distrib, s.sum_units raise h]; rfl
    _ = s.remainder raise p := by omega

/-- What a run gives to the claimants of a level. -/
def State.levelGrants (p : Nat) : Nat := ∑ i with s.servedAt raise p i = true, s.runGrant raise i

theorem State.levelGrants_eq_sum_grantAt (p : Nat) :
    s.levelGrants raise p = ∑ i with s.servedAt raise p i = true, s.grantAt raise p i :=
  Finset.sum_congr rfl fun _ hi => State.runGrant_of_servedAt (Finset.mem_filter.mp hi).2

/-- A cut level gets exactly the remainder (R69). -/
theorem State.levelGrants_of_cut {p : Nat} (h : s.remainder raise p < s.demand raise p) :
    s.levelGrants raise p = s.remainder raise p := by
  rw [State.levelGrants_eq_sum_grantAt, s.sum_grantAt_of_cut raise h]

/-- A level whose demand is met gets exactly its demand (R68). -/
theorem State.levelGrants_of_met {p : Nat} (h : s.demand raise p ≤ s.remainder raise p) :
    s.levelGrants raise p = s.demand raise p := by
  rw [State.levelGrants_eq_sum_grantAt, State.demand, sum_filter_allSlots]
  exact Finset.sum_congr rfl fun i _ => State.grantAt_of_met h i

/-- What a level leaves is the remainder for the next (R68). -/
theorem State.levelGrants_add_remainder (p : Nat) :
    s.levelGrants raise p + s.remainder raise (p + 1) = s.remainder raise p := by
  by_cases h : s.demand raise p ≤ s.remainder raise p
  · rw [s.levelGrants_of_met raise h, State.remainder, if_pos h]
    omega
  · rw [s.levelGrants_of_cut raise (by omega), State.remainder, if_neg h, Nat.add_zero]

/-- The grants of a run are those of the four levels. -/
theorem State.sum_runGrant : ∑ i, s.runGrant raise i = ∑ p : Fin 4, s.levelGrants raise p := by
  have hlevel (p : Fin 4) : ∑ i with s.ctl.active.entries[i].priority = p, s.runGrant raise i
      = s.levelGrants raise p := by
    refine (Finset.sum_subset (fun i hi => ?_) fun i hi hunserved => ?_).symm
    · simp only [Finset.mem_filter_univ, State.servedAt_iff] at hi ⊢
      exact Fin.ext hi.2
    · simp only [Finset.mem_filter_univ, State.servedAt_iff] at hi hunserved
      exact State.runGrant_of_not_served fun hserved => hunserved ⟨hserved, congrArg Fin.val hi⟩
  rw [← Finset.sum_fiberwise Finset.univ fun i => s.ctl.active.entries[i].priority]
  exact Finset.sum_congr rfl fun p _ => hlevel p

/-- The grants of a run add up to at most E (R66, R68). -/
theorem State.sum_runGrant_le_pool : (allSlots.map (s.runGrant raise)).sum ≤ s.alloc.pool := by
  have hleave := s.levelGrants_add_remainder raise
  have h0 : s.levelGrants raise 0 + s.remainder raise 1 = s.alloc.pool := hleave 0
  have h1 : s.levelGrants raise 1 + s.remainder raise 2 = s.remainder raise 1 := hleave 1
  have h2 : s.levelGrants raise 2 + s.remainder raise 3 = s.remainder raise 2 := hleave 2
  have h3 : s.levelGrants raise 3 + s.remainder raise 4 = s.remainder raise 3 := hleave 3
  calc (allSlots.map (s.runGrant raise)).sum = ∑ p : Fin 4, s.levelGrants raise p := by
        rw [sum_allSlots, State.sum_runGrant]
    _ = s.levelGrants raise 0 + s.levelGrants raise 1 + s.levelGrants raise 2 + s.levelGrants raise 3 :=
      Fin.sum_univ_four _
    _ ≤ s.alloc.pool := by omega

/-- What a claimant of a cut level gets (R68, R69). -/
theorem State.runGrant_of_cut {s : State} {raise : Bool} {p : Nat} {i : SlotIx}
    (h : s.remainder raise p < s.demand raise p) (hi : s.servedAt raise p i = true) :
    s.runGrant raise i = s.share i * s.remainder raise p / s.demand raise p
      + if i ∈ s.unitAt raise p then 1 else 0 := by
  rw [State.runGrant_of_servedAt hi, State.grantAt_of_cut h]

/-- The lower of two claimants with a share takes a unit of the leftover first (R69). -/
theorem State.lower_first {p : Nat} {i j : SlotIx} (h : s.remainder raise p < s.demand raise p)
    (hi : s.servedAt raise p i = true) (hj : s.servedAt raise p j = true) (hij : i < j) (hshare : 0 < s.share i)
    (hunit : s.runGrant raise j = s.share j * s.remainder raise p / s.demand raise p + 1) :
    s.runGrant raise i = s.share i * s.remainder raise p / s.demand raise p + 1 := by
  rw [State.runGrant_of_cut h hj] at hunit
  have hjunit : j ∈ s.unitAt raise p := by
    by_contra hno
    rw [if_neg hno] at hunit
    omega
  rw [State.runGrant_of_cut h hi,
    if_pos (s.unitAt_of_lt raise ((s.mem_shortAt raise h i).mpr ⟨hi, hshare⟩) hjunit hij)]

end Levels

/-- Settles O53: the levels one after another, each met or cut. -/
theorem allocationRun : Obligations.AllocationRun := by
  intro s raise
  refine ⟨s.served_iff raise, s.servedAt_iff raise, fun _ => rfl, fun _ => rfl, rfl, fun _ => rfl,
    fun i h => State.runGrant_of_not_served (by rw [h]; decide), fun i h => ?_, fun p h => ?_,
    fun p i j h hi hj hij hshare => s.lower_first raise h hi hj hij hshare, s.sum_runGrant_le_pool raise⟩
  · have hat : s.servedAt raise s.ctl.active.entries[i].priority.val i = true := (s.servedAt_iff raise _ i).mpr ⟨h, rfl⟩
    refine ⟨fun hmet => (State.runGrant_of_servedAt hat).trans (State.grantAt_of_met hmet i), fun hcut => ?_⟩
    have hgrant := State.runGrant_of_cut hcut hat
    refine ⟨by omega, ?_, s.runGrant_le_share raise i⟩
    rw [hgrant]
    split <;> omega
  · exact (sum_filter_allSlots _ _).trans (s.levelGrants_of_cut raise h)

end Sys2Proof.Machine

namespace Sys2Proof.Machine

/-! ### INTERLOCK and the resuming ramp (R81 to R84) -/

section Interlock

variable {s : State}

/-- A combiner that passes samples stops at an assertion of INTERLOCK (R81, R84). -/
theorem State.interlockOn_of_passing (h : s.combiner.state ≠ .interlocked) : s.interlockOn =
    ({ s with combiner := { s.combiner with state := .interlocked, ramp := none } } : State).write
      { kind := .interlock, value1 := some 1, value2 := some s.combiner.lastLevel, cause := some .asserted } := by
  unfold State.interlockOn
  cases hc : s.combiner.state
  case interlocked => exact absurd hc h
  all_goals rfl

/-- An interlocked combiner resumes at a release of INTERLOCK, over ramp_ms (R82, R84). -/
theorem State.interlockOff_of_interlocked (h : s.combiner.state = .interlocked) : s.interlockOff =
    ({ s with combiner := { s.combiner with
        state := .resuming, ramp := some ⟨0, s.ctl.active.header.rampMs * 160000⟩ } } : State).write
      { kind := .interlock, value1 := some 2, value2 := some s.combiner.lastLevel, cause := some .released } := by
  unfold State.interlockOff
  rw [h]
  rfl

/-- The line goes to asserted outside a reset (R81). -/
theorem execInterlockAsserted_of_released (hreset : s.inReset = false) (hline : s.interlock = false) :
    execInterlockAsserted s = .next (State.interlockOn { s with interlock := true }) := by
  simp [execInterlockAsserted, hreset, hline]

/-- The line goes to released outside a reset (R82). -/
theorem execInterlockReleased_of_asserted (hreset : s.inReset = false) (hline : s.interlock = true) :
    execInterlockReleased s = .next (State.interlockOff { s with interlock := false }) := by
  simp [execInterlockReleased, hreset, hline]

/-- A resuming ramp that runs ends in LIVE (R83, R84). -/
theorem execResumingRampCompletion_of_running (hreset : s.inReset = false) (hstate : s.combiner.state = .resuming)
    (hramp : s.combiner.ramp ≠ none) : execResumingRampCompletion s =
    .next (({ s with combiner := { s.combiner with state := .live, ramp := none } } : State).write
      { kind := .interlock, value1 := some 0, value2 := some s.combiner.lastLevel, cause := some .resumed }) := by
  have hcond : (s.combiner.state = .resuming && s.combiner.ramp.isSome) = true := by
    simp [hstate, Option.isSome_iff_ne_none, hramp]
  rw [execResumingRampCompletion, State.running_of_not_reset hreset, if_pos hcond]
  rfl

/-- Without a resuming ramp there is nothing to complete (log entry 3). -/
theorem execResumingRampCompletion_of_none (hreset : s.inReset = false)
    (h : s.combiner.state ≠ .resuming ∨ s.combiner.ramp = none) : execResumingRampCompletion s = .next s := by
  have hcond : ¬ (s.combiner.state = .resuming && s.combiner.ramp.isSome) = true := by
    rcases h with h | h <;> simp [h]
  rw [execResumingRampCompletion, State.running_of_not_reset hreset, if_neg hcond]

end Interlock

/-- Settles O56: each change of the line and of the ramp by the combiner's state. -/
theorem interlockChanges : Obligations.InterlockChanges := by
  intro s hreset
  refine ⟨fun hline hstate => ?_, fun hline hstate => ?_,
    fun hstate hramp => execResumingRampCompletion_of_running hreset hstate hramp,
    fun hline => ?_, fun hline => ?_, execResumingRampCompletion_of_none hreset⟩
  · exact (execInterlockAsserted_of_released hreset hline).trans
      (congrArg _ (State.interlockOn_of_passing (s := { s with interlock := true }) hstate))
  · exact (execInterlockReleased_of_asserted hreset hline).trans
      (congrArg _ (State.interlockOff_of_interlocked (s := { s with interlock := false }) hstate))
  · exact congrArg _ (if_pos hline)
  · exact congrArg _ (if_pos (by rw [hline]; rfl))

end Sys2Proof.Machine

namespace Sys2Proof.Machine

/-! ### Judging an interval and the backoff of E (R85 to R87) -/

/-- The judging of an interval without its clip record (R85, R86). -/
def State.judged (s : State) : State := if s.overloaded then s.countOverload.onOverloaded else s.onClean

/-- The clip record of s closes its judging: a set one counts, and it is cleared (R85). -/
def State.closeJudging (s u : State) : State := (if s.combiner.clip = true then u.countClip else u).clipCleared

/-- E at a new value with the run of overloaded intervals ended: its event and its run, where it changes (R72, R87). -/
def State.poolMoved (s u : State) (pool : Nat) (notice : Option Notice) : State :=
  let v : State := { u with alloc := { u.alloc with overloadRun := 0 } }
  if pool = s.alloc.pool then v
  else match notice with
    | some n => (({ v with alloc := { v.alloc with pool := pool } } : State).write n).startRun
    | none => ({ v with alloc := { v.alloc with pool := pool } } : State).startRun

section Judging

variable {s : State}

theorem State.overloaded_iff :
    s.overloaded = true ↔ s.ctl.active.header.ceiling + 2 < s.combiner.lastLevel := decide_eq_true_iff

theorem State.judgeInterval_of_live (h : s.combiner.state = .live) : s.judgeInterval = s.closeJudging s.judged := by
  unfold State.judgeInterval
  rw [h]
  rfl

/-- Outside LIVE no interval is judged (R85). -/
theorem State.judgeInterval_of_not_live (h : s.combiner.state ≠ .live) : s.judgeInterval = s.clipCleared := by
  unfold State.judgeInterval
  cases hc : s.combiner.state
  case live => exact absurd hc h
  all_goals rfl

theorem State.judged_of_hot (h : s.overloaded = true) : s.judged = s.countOverload.onOverloaded := if_pos h

theorem State.judged_of_clean (h : ¬ s.overloaded = true) : s.judged = s.onClean := if_neg h

theorem State.countOverload_alloc (s : State) : s.countOverload.alloc = s.alloc := by
  obtain ⟨c, r, e⟩ := s.countOverload_frame
  rw [e]

theorem State.countClip_alloc (s : State) : s.countClip.alloc = s.alloc := by
  obtain ⟨c, r, e⟩ := s.countClip_frame
  rw [e]

theorem State.closeJudging_alloc (s u : State) : (s.closeJudging u).alloc = u.alloc := by
  unfold State.closeJudging
  split
  · exact u.countClip_alloc
  · rfl

/-! The Allocator's answer (R86, R87). -/

/-- A first or second overloaded interval in a row is counted alone (R86). -/
theorem State.onOverloaded_of_lt (h : s.alloc.overloadRun < 2) :
    s.onOverloaded = { s with alloc := { s.alloc with overloadRun := s.alloc.overloadRun + 1 } } :=
  if_neg (by omega)

/-- A change of E, written out (R72, R87). -/
theorem State.changePool_eq_poolMoved {u : State} (hpool : u.alloc.pool = s.alloc.pool) (pool : Nat)
    (notice : Option Notice) :
    (u.modAlloc fun a => { a with overloadRun := 0 }).changePool pool notice = s.poolMoved u pool notice := by
  have hkeep : (u.modAlloc fun a => { a with overloadRun := 0 }).alloc.pool = s.alloc.pool := hpool
  unfold State.changePool State.poolMoved
  rw [hkeep]
  cases notice <;> rfl

/-- The third overloaded interval in a row steps E down (R86, R87). -/
theorem State.onOverloaded_of_third {u : State} (halloc : u.alloc = s.alloc) (h : 2 ≤ s.alloc.overloadRun) :
    u.onOverloaded = s.poolMoved u (stepDown s.alloc.pool s.alloc.held s.alloc.grantSum)
      (some (poolNotice (stepDown s.alloc.pool s.alloc.held s.alloc.grantSum) s.alloc.pool .overload)) := by
  have hthird : 3 ≤ u.alloc.overloadRun + 1 := by rw [halloc]; omega
  calc u.onOverloaded = (u.modAlloc fun a => { a with overloadRun := 0 }).poolDown := if_pos hthird
    _ = (u.modAlloc fun a => { a with overloadRun := 0 }).changePool
          (stepDown u.alloc.pool u.alloc.held u.alloc.grantSum)
          (some (poolNotice (stepDown u.alloc.pool u.alloc.held u.alloc.grantSum) u.alloc.pool .overload)) := rfl
    _ = _ := by rw [halloc]; exact State.changePool_eq_poolMoved (by rw [halloc]) _ _

/-- A clean interval steps E up (R86, R87). -/
theorem State.onClean_eq (s : State) : s.onClean = s.poolMoved s (stepUp s.alloc.pool)
    (if stepUp s.alloc.pool = 1024 then some (poolNotice (stepUp s.alloc.pool) s.alloc.pool .recovered) else none) :=
  State.changePool_eq_poolMoved rfl _ _

theorem State.startRun_overloadRun (s : State) : s.startRun.alloc.overloadRun = s.alloc.overloadRun := by
  obtain ⟨sl, tb, b, r, e⟩ := s.startRun_frame
  rw [e]

theorem State.startRun_counters (s : State) : s.startRun.counters = s.counters := by
  obtain ⟨sl, tb, b, r, e⟩ := s.startRun_frame
  rw [e]

theorem State.startRun_pool (s : State) : s.startRun.alloc.pool = s.alloc.pool := by
  obtain ⟨sl, tb, b, r, e⟩ := s.startRun_frame
  rw [e]

variable {u : State} (pool : Nat) (notice : Option Notice)

/-- E at its new value ends the run of overloaded intervals (R86). -/
theorem State.poolMoved_overloadRun : (s.poolMoved u pool notice).alloc.overloadRun = 0 := by
  unfold State.poolMoved
  dsimp only
  split
  · rfl
  · cases notice <;> exact State.startRun_overloadRun _

theorem State.poolMoved_pool (hpool : u.alloc.pool = s.alloc.pool) : (s.poolMoved u pool notice).alloc.pool = pool := by
  unfold State.poolMoved
  dsimp only
  split
  · exact hpool.trans (Eq.symm ‹_›)
  · cases notice <;> exact State.startRun_pool _

theorem State.changePool_counters : (s.changePool pool notice).counters = s.counters := by
  unfold State.changePool
  split
  · rfl
  · cases notice <;> exact State.startRun_counters _

theorem State.onOverloaded_counters (s : State) : s.onOverloaded.counters = s.counters := by
  unfold State.onOverloaded
  split
  · exact State.changePool_counters _ _
  · rfl

theorem State.onClean_counters (s : State) : s.onClean.counters = s.counters := State.changePool_counters _ _

/-! The composite counters (R85, R165). -/

theorem State.noticeHigh_counters (s : State) (before : Nat) (i : Option SlotIx) (code : Nat) :
    (s.noticeHigh before i code).counters = s.counters := by
  unfold State.noticeHigh
  split <;> rfl

theorem State.countOverload_counters (s : State) : s.countOverload.counters =
    if s.counters.counting 6 = true then { s.counters with overload := wrap16 s.counters.overload }
    else s.counters := by
  unfold State.countOverload
  split
  · exact State.noticeHigh_counters _ _ _ _
  · rfl

theorem State.countClip_counters (s : State) : s.countClip.counters =
    if s.counters.counting 7 = true then { s.counters with clip := wrap16 s.counters.clip } else s.counters := by
  unfold State.countClip
  split
  · exact State.noticeHigh_counters _ _ _ _
  · rfl

theorem CounterBank.counting_of_enabled {c : CounterBank} {code : Nat} (henable : c.enable = true)
    (hmask : c.mask.getLsbD code = false) : c.counting code = true := by
  simp [CounterBank.counting, henable, hmask]

/-- The clip record leaves the overload counter alone. -/
theorem State.closeJudging_overload (s u : State) : (s.closeJudging u).counters.overload = u.counters.overload := by
  unfold State.closeJudging
  split
  · show u.countClip.counters.overload = _
    rw [State.countClip_counters]
    split <;> rfl
  · rfl

/-- The judging of an interval changes the overload counter of the Counter Bank alone. -/
theorem State.judged_counters (s : State) : ∃ n, s.judged.counters = { s.counters with overload := n } := by
  unfold State.judged
  split
  · rw [State.onOverloaded_counters, State.countOverload_counters]
    split
    · exact ⟨_, rfl⟩
    · exact ⟨s.counters.overload, rfl⟩
  · rw [State.onClean_counters]
    exact ⟨s.counters.overload, rfl⟩

/-- An overloaded interval counts (R85). -/
theorem State.judged_overload (hhot : s.overloaded = true) (hcount : s.counters.counting 6 = true) :
    s.judged.counters.overload = wrap16 s.counters.overload := by
  rw [State.judged_of_hot hhot, State.onOverloaded_counters, State.countOverload_counters, if_pos hcount]

/-- A set clip record counts (R85). -/
theorem State.closeJudging_clip {u : State} {n : Nat} (hu : u.counters = { s.counters with overload := n })
    (hclip : s.combiner.clip = true) (hcount : s.counters.counting 7 = true) :
    (s.closeJudging u).counters.clip = wrap16 s.counters.clip := by
  have hcount' : u.counters.counting 7 = true := by rw [hu]; exact hcount
  have hcounters : (s.closeJudging u).counters = u.countClip.counters := by
    rw [State.closeJudging, if_pos hclip]
    rfl
  rw [hcounters, State.countClip_counters, if_pos hcount', hu]

end Judging

/-- Settles O55: an interval judged in LIVE by its level and the run count, and closed by its clip record. -/
theorem intervalJudging : Obligations.IntervalJudging := by
  intro s hot t
  have hjudged (hlive : s.combiner.state = .live) : t = s.closeJudging s.judged := State.judgeInterval_of_live hlive
  have hfirst (hlive : s.combiner.state = .live) (hhot : hot) (hrun : s.alloc.overloadRun < 2) :
      t = s.closeJudging { s.countOverload with
        alloc := { s.alloc with overloadRun := s.alloc.overloadRun + 1 } } := by
    rw [hjudged hlive, State.judged_of_hot (State.overloaded_iff.mpr hhot),
      State.onOverloaded_of_lt (by rwa [State.countOverload_alloc]), State.countOverload_alloc]
  have hthird (hlive : s.combiner.state = .live) (hhot : hot) (hrun : s.alloc.overloadRun = 2) :
      t = s.closeJudging (s.poolMoved s.countOverload (stepDown s.alloc.pool s.alloc.held s.alloc.grantSum)
        (some (poolNotice (stepDown s.alloc.pool s.alloc.held s.alloc.grantSum) s.alloc.pool .overload))) := by
    rw [hjudged hlive, State.judged_of_hot (State.overloaded_iff.mpr hhot),
      State.onOverloaded_of_third s.countOverload_alloc hrun.ge]
  have hclean (hlive : s.combiner.state = .live) (hcool : ¬ hot) :
      t = s.closeJudging (s.poolMoved s (stepUp s.alloc.pool) (if stepUp s.alloc.pool = 1024
        then some (poolNotice (stepUp s.alloc.pool) s.alloc.pool .recovered) else none)) := by
    rw [hjudged hlive, State.judged_of_clean (mt State.overloaded_iff.mp hcool), State.onClean_eq]
  have hcombiner : t.combiner = { s.combiner with clip := false } := by
    have hframe := s.judgeInterval_within.frame
    show s.judgeInterval.combiner = _
    rw [hframe]
    rfl
  refine ⟨hcombiner, State.judgeInterval_of_not_live, fun hlive hhot hrun => ?_, fun hlive hhot hrun => ⟨?_, ?_⟩,
    fun hlive hcool => ⟨?_, ?_⟩, fun hlive hhot henable hmask => ?_, fun hlive hclip henable hmask => ?_,
    hfirst, hthird, hclean⟩
  · rw [hfirst hlive hhot hrun, State.closeJudging_alloc]
  · rw [hthird hlive hhot hrun, State.closeJudging_alloc, State.poolMoved_overloadRun]
  · rw [hthird hlive hhot hrun, State.closeJudging_alloc,
      State.poolMoved_pool _ _ (congrArg Allocator.pool s.countOverload_alloc)]
    rfl
  · rw [hclean hlive hcool, State.closeJudging_alloc, State.poolMoved_overloadRun]
  · rw [hclean hlive hcool, State.closeJudging_alloc, State.poolMoved_pool _ _ rfl]
    rfl
  · rw [hjudged hlive, State.closeJudging_overload, State.judged_overload (State.overloaded_iff.mpr hhot)
      (CounterBank.counting_of_enabled henable hmask)]
    rfl
  · obtain ⟨n, hn⟩ := s.judged_counters
    rw [hjudged hlive, State.closeJudging_clip hn hclip (CounterBank.counting_of_enabled henable hmask)]
    rfl

end Sys2Proof.Machine

namespace Sys2Proof.Machine

/-! ### The grants stay within E (R66, R68, R72, R87) -/

namespace Allocator.WithinPool

variable {s t : State}

/-- Under the same E no grant rises. -/
theorem of_grants_le (h : s.alloc.WithinPool) (hpool : t.alloc.pool = s.alloc.pool)
    (hgrants : ∀ i : SlotIx, t.alloc.table[i].grant ≤ s.alloc.table[i].grant) : t.alloc.WithinPool := by
  obtain ⟨hsum, hrange⟩ := h
  rw [Allocator.WithinPool, hpool]
  exact ⟨(State.grantsStanding_le hgrants).trans hsum, hrange⟩

/-- What leaves the Allocator alone. -/
theorem of_same (h : s.alloc.WithinPool) (e : t.alloc = s.alloc) : t.alloc.WithinPool := e ▸ h

/-- While the Allocator is held the slots' own actions raise no grant (R73). -/
theorem of_held (h : s.alloc.WithinPool) (hheld : s.alloc.held = true) (hact : s.SlotsAct t) : t.alloc.WithinPool :=
  h.of_grants_le hact.pool (hact.grants hheld)

/-! The runs (R68 to R74). -/

/-- A run gives at most E, whatever stood before it (R68). -/
theorem run_of_range (hlo : 512 ≤ s.alloc.pool) (hhi : s.alloc.pool ≤ 1024) (raise : Bool) :
    (s.run raise).alloc.WithinPool := by
  have hpool : (s.run raise).alloc.pool = s.alloc.pool := by rw [State.run_eq]; rfl
  have hsum : (s.run raise).alloc.grantSum = (allSlots.map (s.runGrant raise)).sum :=
    congrArg List.sum (List.map_congr_left fun i _ => by rw [State.run_record])
  rw [Allocator.WithinPool, hpool, hsum]
  exact ⟨s.sum_runGrant_le_pool raise, hlo, hhi⟩

theorem run (h : s.alloc.WithinPool) (raise : Bool) : (s.run raise).alloc.WithinPool :=
  have ⟨_, hlo, hhi⟩ := h
  run_of_range hlo hhi raise

theorem startRun (h : s.alloc.WithinPool) : s.startRun.alloc.WithinPool := by
  unfold State.startRun
  split
  · exact h
  · exact h.run false

theorem releaseWithRaise (h : s.alloc.WithinPool) : s.releaseWithRaise.alloc.WithinPool := by
  unfold State.releaseWithRaise
  split
  · exact run (s := s.modAlloc fun a => { a with held := false, pendingRun := false }) h true
  · exact h

theorem releaseWithoutRaise (h : s.alloc.WithinPool) : s.releaseWithoutRaise.alloc.WithinPool := by
  unfold State.releaseWithoutRaise
  dsimp only
  split
  · split
    · exact run (s := s.modAlloc fun a => { a with held := false, pendingRun := false }) h false
    · exact h
  · exact h

/-! The transitions of a slot (R47 to R59, R63). -/

theorem releaseGrant (h : s.alloc.WithinPool) (i : SlotIx) : (s.releaseGrant i).alloc.WithinPool := by
  refine h.of_grants_le rfl fun j => ?_
  show (s.alloc.table.set i { s.alloc.table[i] with grant := 0, target := none })[j].grant ≤ _
  rw [PerSlot.getElem_set]
  split
  · exact Nat.zero_le _
  · exact le_refl _

theorem count (h : s.alloc.WithinPool) (k : SlotKind) (i : SlotIx) : (s.count k i).alloc.WithinPool := by
  obtain ⟨c, r, e⟩ := s.count_frame k i
  exact h.of_same (by rw [e])

theorem loseCarrier (h : s.alloc.WithinPool) (i : SlotIx) (cause : Cause) : (s.loseCarrier i cause).alloc.WithinPool := by
  obtain ⟨sl, x, c, r, e⟩ := s.loseCarrier_frame i cause
  exact h.of_same (by rw [e])

theorem enterFailed (h : s.alloc.WithinPool) (i : SlotIx) : (s.enterFailed i).alloc.WithinPool :=
  startRun (s := State.write _ _) (h.releaseGrant i)

theorem reviveSlot (h : s.alloc.WithinPool) (i : SlotIx) (port : Option Port) (tag : Option Byte) (cause : Cause) :
    (s.reviveSlot i port tag cause).alloc.WithinPool :=
  startRun (s := s.revived i) (h.releaseGrant i)

theorem attempt (h : s.alloc.WithinPool) (i : SlotIx) : (s.attempt i).alloc.WithinPool := by
  unfold State.attempt
  dsimp only
  have hcounted := count (s := s.modSlot i fun x => { x with attempts := min 255 (x.attempts + 1) }) h .attempts i
  split
  · exact hcounted.enterFailed i
  · obtain ⟨x, c, r, e⟩ := State.flipSource_frame (State.count _ _ _) i .expiry
    rw [e]
    exact hcounted

/-! The level interval expiry and the timers (R43 to R49, R85 to R87). -/

theorem regain (h : s.alloc.WithinPool) (i : SlotIx) : (s.regain i).alloc.WithinPool := by
  unfold State.regain
  split
  · exact h
  · exact h.releaseGrant i

theorem act (h : s.alloc.WithinPool) (i : SlotIx) (level : Int) : (s.act i level).alloc.WithinPool := by
  unfold State.act State.levelLoop State.carrierAbsentOn State.returnFromHold
  dsimp only
  split
  case h_1 =>
    split
    · split
      · exact h.count _ i
      · exact h
    · split
      · exact h.loseCarrier i _
      · exact h
  case h_2 =>
    split
    · exact count (s := State.modSlot _ _ _) h _ i
    · exact h
  case h_3 =>
    split
    · exact h
    · exact (h.count _ i).loseCarrier i _
  case h_4 =>
    split
    · exact h.regain i
    · exact h
  all_goals exact h

theorem takeMeasurement (h : s.alloc.WithinPool) (i : SlotIx) (m : Option (Int × Source)) :
    (s.takeMeasurement i m).alloc.WithinPool := by
  unfold State.takeMeasurement
  split
  · exact h
  · split
    · exact h.act i _
    · exact h

theorem holdOut (h : s.alloc.WithinPool) (i : SlotIx) : (s.holdOut i).alloc.WithinPool := by
  unfold State.holdOut
  split
  · exact h.loseCarrier i _
  · exact h

theorem reacquireOut (h : s.alloc.WithinPool) (i : SlotIx) : (s.reacquireOut i).alloc.WithinPool := by
  unfold State.reacquireOut
  split
  · exact h.attempt i
  · exact h

/-- A change of E within its range: a free Allocator makes a run under the new E, a held one needs an E that covers the
grants standing (R72, R73, R87). -/
theorem poolMoved {u : State} (h : s.alloc.WithinPool) (hu : u.alloc = s.alloc) {pool : Nat} (hlo : 512 ≤ pool)
    (hhi : pool ≤ 1024) (hheld : s.alloc.held = true → s.alloc.grantSum ≤ pool) (notice : Option Notice) :
    (s.poolMoved u pool notice).alloc.WithinPool := by
  have hstarted {v : State} (hv : v.alloc = { s.alloc with overloadRun := 0, pool := pool }) :
      v.startRun.alloc.WithinPool := by
    have hpool : v.alloc.pool = pool := by rw [hv]
    unfold State.startRun
    split
    · rename_i hvheld
      rw [hv] at hvheld
      show v.alloc.grantSum ≤ v.alloc.pool ∧ 512 ≤ v.alloc.pool ∧ v.alloc.pool ≤ 1024
      rw [hv]
      exact ⟨hheld hvheld, hlo, hhi⟩
    · exact run_of_range (hpool ▸ hlo) (hpool ▸ hhi) false
  unfold State.poolMoved
  rw [hu]
  dsimp only
  split
  · exact h
  · cases notice <;> exact hstarted rfl

/-- A step of E down stays in range, and while the Allocator is held it covers the grants standing (R87). -/
theorem stepDown_range {a : Allocator} (h : a.WithinPool) : 512 ≤ stepDown a.pool a.held a.grantSum
    ∧ stepDown a.pool a.held a.grantSum ≤ 1024
    ∧ (a.held = true → a.grantSum ≤ stepDown a.pool a.held a.grantSum) := by
  obtain ⟨hsum, hlo, hhi⟩ := h
  unfold stepDown
  split
  · omega
  · exact ⟨by omega, by omega, fun hheld => absurd hheld ‹_›⟩

theorem judged (h : s.alloc.WithinPool) : s.judged.alloc.WithinPool := by
  obtain ⟨hlo, hhi, hcovers⟩ := h.stepDown_range
  unfold State.judged
  split
  · by_cases hrun : 2 ≤ s.alloc.overloadRun
    · rw [State.onOverloaded_of_third s.countOverload_alloc hrun]
      exact h.poolMoved s.countOverload_alloc hlo hhi hcovers _
    · rw [State.onOverloaded_of_lt (by rw [State.countOverload_alloc]; omega), State.countOverload_alloc]
      exact h
  · rw [State.onClean_eq]
    have ⟨hsum, hlow, hhigh⟩ := h
    unfold stepUp
    exact h.poolMoved rfl (by omega) (by omega) (fun _ => by omega) _

theorem judgeInterval (h : s.alloc.WithinPool) : s.judgeInterval.alloc.WithinPool := by
  by_cases hlive : s.combiner.state = .live
  · rw [State.judgeInterval_of_live hlive]
    exact h.judged.of_same (s.closeJudging_alloc s.judged)
  · rw [State.judgeInterval_of_not_live hlive]
    exact h

theorem turn (h : s.alloc.WithinPool) (ms : PerSlot (Option (Int × Source))) (a : Turn) :
    (s.turn ms a).alloc.WithinPool := by
  cases a with
  | judge i => exact h.takeMeasurement i _
  | combiner => exact h.judgeInterval
  | holdOut i => exact h.holdOut i
  | reacquireOut i => exact h.reacquireOut i

theorem expireInterval (h : s.alloc.WithinPool) (order : List Turn) : (s.expireInterval order).alloc.WithinPool :=
  foldl_keeps (fun u => u.alloc.WithinPool) _ (fun _ a hu => hu.turn _ a) _ s.measure h

/-! Installing a plan and raising (R55, R100 to R107, R111, R127, R130). -/

theorem raiseSlots (h : s.alloc.WithinPool) (l : List SlotIx) : (s.raiseSlots l).alloc.WithinPool :=
  releaseWithRaise (foldl_keeps (fun u => u.alloc.WithinPool) State.raiseOrder (fun _ _ hu => hu) l s h)

theorem writeOpt (h : s.alloc.WithinPool) (n : Option Notice) : (s.writeOpt n).alloc.WithinPool :=
  h.of_same (by rw [State.writeOpt_eq])

theorem raise (h : s.alloc.WithinPool) : s.raise.alloc.WithinPool :=
  writeOpt (s := (s.inRaising.raiseSlots (members s.ctl.drainSet)).endChange) (raiseSlots (s := s.inRaising) h _) _

theorem raiseIfDrained (h : s.alloc.WithinPool) : s.raiseIfDrained.alloc.WithinPool := by
  unfold State.raiseIfDrained
  split
  · exact h.raise
  · exact h

/-- The orders of an installation are the slots' own, under a held Allocator (R73, R100). -/
theorem install (h : s.alloc.WithinPool) (pl : Plan) (c : Change) : (s.install pl c).alloc.WithinPool := by
  have hbegun : (s.begun pl c).alloc.WithinPool := writeOpt (s := s.takePlan pl c) h _
  have hordered := hbegun.of_held (s.begun_held pl c)
    ((State.SlotsAct.refl _).sendOrders s.ctl.active (s.drainSetFor pl) (s.cutSetFor pl))
  rw [State.install_eq]
  exact raiseIfDrained (hordered.of_same (t := s.draining pl c) (State.awaitFalls_alloc _ _))

theorem completeFall (h : s.alloc.WithinPool) (i : SlotIx) : (s.completeFall i).alloc.WithinPool := by
  have hreleased : (s.releaseGrant i).alloc.WithinPool := h.releaseGrant i
  unfold State.completeFall
  split
  · exact hreleased
  all_goals
    dsimp only
    split
    · exact raiseIfDrained (s := State.modCtl _ _) hreleased
    · exact hreleased

theorem startUpEnd (h : s.alloc.WithinPool) (x y : Bool) : (s.startUpEnd x y).alloc.WithinPool := by
  rcases s.startUpEnd_cases x y with e | ⟨item, o, -, ⟨pl, -, e⟩ | e⟩ <;> rw [e]
  · exact h
  · exact raiseSlots (s := (s.endRead o).activated pl) h allSlots
  · exact releaseWithoutRaise (s := s.endRead o) h

theorem reloadEnd (h : s.alloc.WithinPool) (x y : Bool) : (s.reloadEnd x y).alloc.WithinPool := by
  rcases s.reloadEnd_cases x y with e | ⟨item, p, tag, o, -, ⟨pl, -, e⟩ | e⟩ <;> rw [e]
  · exact h
  · exact install (s := s.endRead o) h _ _
  · exact releaseWithoutRaise (s := (s.endRead o).endChange) h

theorem of_engineActs (h : s.alloc.WithinPool) (hact : s.EngineActs t) : t.alloc.WithinPool := h.of_same hact.alloc

theorem deviceReset (s : State) (cause : ResetCause) : (s.deviceReset cause).alloc.WithinPool :=
  have ⟨_, _, hreset, _⟩ := resetMeetsTheInvariants
  hreset

end Allocator.WithinPool

theorem Does.withinPool {c : Instr} {s t : State} (hdoes : Does c s t) (h : s.alloc.WithinPool) :
    t.alloc.WithinPool := by
  cases hdoes with
  | nothing => exact h
  | deviceReset cause => exact .deviceReset s cause
  | resetEnd => exact h
  | trimLevel p tag i delta => exact Allocator.WithinPool.startRun (s := s.trimmedLevel p tag i delta) h
  | trimFrequency => exact h
  | revive p tag i => exact h.reviveSlot i _ _ _
  | draftCopy => exact h
  | draftClear => exact h
  | draftPutEntry => exact h
  | draftPutHeader => exact h
  | commit p tag => exact h.install _ _
  | pageStore => exact h
  | pageLoad => exact h
  | pageErase => exact h
  | bootSet => exact h
  | reload => exact h
  | levelIntervalExpiry order => exact h.expireInterval order
  | holdTimerExpiry i => exact h.holdOut i
  | reacquireTimerExpiry i => exact h.reacquireOut i
  | riseCompletion => exact h
  | fallCompletion i => exact h.completeFall i
  | storeEraseDone => exact h.of_engineActs (.storeErased s)
  | storeProgramDone => exact h.of_engineActs (.storeProgrammed s)
  | storeVerifyDone intact => exact h.of_engineActs (.storeVerified s intact)
  | pageEraseDone => exact h.of_engineActs (.pageErased s)
  | pageLoadReadDone intact => exact h.of_engineActs (.pageLoaded s intact)
  | bootWriteDone intact => exact h.of_engineActs (.bootWritten s intact)
  | startUpReadEnd x y => exact h.startUpEnd x y
  | reloadReadEnd x y => exact h.reloadEnd x y

/-- Settles O7: a run gives at most E, what a slot gives back only lowers the sum, and a step of E makes a run or covers
the grants standing. -/
theorem stepKeepsGrantsWithinPool : Obligations.StepKeepsGrantsWithinPool := by
  intro s t hs ht
  rcases step_cases ht with ⟨-, rfl⟩ | ⟨c, rest, -, hc⟩
  · exact hs.of_same s.idle_alloc
  · obtain ⟨u, v, hu, hdoes, hv⟩ := exec_comes hc
    exact (hdoes.withinPool (hs.of_same hu.alloc)).of_same hv.alloc

end Sys2Proof.Machine

namespace Sys2Proof.Machine

/-! ### The owning block of each request row (R139) -/

/-- The owning block's part in the taking of a row's requests (R139, R141). -/
def RequestRow.handler : RequestRow → Port → Request → State → State × Reply
  | .identify => onIdentify
  | .statusRead => onStatusRead
  | .nop => onNop
  | .portClear => onPortClear
  | .claimNormal => onClaimNormal
  | .claimForce => onClaimForce
  | .release => onRelease
  | .flagsWrite => onFlagsWrite
  | .planRead => onPlanRead
  | .trimLevel => onTrimLevel
  | .trimFrequency => onTrimFrequency
  | .slotRead => onSlotRead
  | .revive => onRevive
  | .budgetRead => onBudgetRead
  | .draftCopy => onDraftCopy
  | .draftPutEntry => onDraftPutEntry
  | .draftPutHeader => onDraftPutHeader
  | .draftClear => onDraftClear
  | .draftGet => onDraftGet
  | .commit => onCommit
  | .pageStore => onPageStore
  | .pageLoad => onPageLoad
  | .pageErase => onPageErase
  | .pageInfo => onPageInfo
  | .bootSet => onBootSet
  | .bootRead => onBootRead
  | .reload => onReload
  | .counterControl => onCounterControl
  | .counterRead => onCounterRead
  | .eventRead => onEventRead
  | .unknown => onUnknown

/-- A row's command is the taking of its requests, by the row's owning block. -/
theorem exec_takeCommand (p : Port) (row : RequestRow) (s : State) :
    exec (takeCommand p row) s = s.take p row row.handler := by
  cases row <;> rfl

/-- A request that its owning block answers without a change of the state: the request leaves the queue and the answer
is given. -/
theorem exec_takeCommand_of_answer {s : State} {p : Port} {row : RequestRow} {r : Request} {a : Reply}
    (ht : s.takes p row r) (h : row.handler p r (s.dequeue p) = (s.dequeue p, a)) :
    exec (takeCommand p row) s = .next ((s.dequeue p).respond p r a) := by
  rw [exec_takeCommand, State.take_of_takes ht, h]

/-! ### Taking and the checks on the form (R139, R141) -/

/-- Where the port may take no request of the row, its command changes nothing (R139; log entry 3). -/
theorem State.take_of_not_taken {s : State} {p : Port} {row : RequestRow}
    {handler : Port → Request → State → State × Reply} (h : ∀ r, s.mayTake p r → requestRow r ≠ row) :
    s.take p row handler = .next s := by
  obtain ⟨t, ht⟩ : ∃ t, s.take p row handler = .next t := ⟨_, rfl⟩
  rcases State.take_cases ht with rfl | ⟨r, hm, hrow, -⟩
  · exact ht
  · exact absurd hrow (h r hm)

/-- A failure joins the port's response queue, and renews no lease (R140, R145). -/
theorem State.respond_of_failure (s : State) (p : Port) (r : Request) {st : Status} (b : List Byte)
    (h : st.success = false) :
    s.respond p r ⟨st, b⟩ = s.modPort p fun x => { x with responses := x.responses ++ [⟨r.tag, r.code, st, b⟩] } := by
  simp [State.respond, State.renewLease, h]

/-- The check on its form that a request fails, in the order of R141. -/
theorem formCheck_of_failure {r : Request} {st : Status}
    (h : requestRow r = .unknown ∧ st = .unknownRequest
      ∨ requestRow r ≠ .unknown ∧ 1 < r.flags.toNat ∧ st = .badArgument
      ∨ requestRow r ≠ .unknown ∧ r.flags.toNat ≤ 1 ∧ (requestRow r).lengthOk r.body.length = false ∧ st = .badLength) :
    formCheck r = some st ∧ st.success = false := by
  rcases h with ⟨hrow, rfl⟩ | ⟨hrow, hflags, rfl⟩ | ⟨hrow, hflags, hlen, rfl⟩
  · exact ⟨if_pos hrow, rfl⟩
  · exact ⟨by simp only [formCheck, if_neg hrow, if_pos hflags], rfl⟩
  · exact ⟨by simp [formCheck, hrow, not_lt.mpr hflags, hlen], rfl⟩

/-- Settles O15: the taking happens only of the row's own oldest request, whose first failed check answers it. -/
theorem requestTaking : Obligations.RequestTaking := by
  intro p row s
  rw [exec_takeCommand]
  refine ⟨fun hreset => State.running_of_reset hreset _, fun hempty => ?_, fun hfull => ?_, fun r hm hrow => ?_,
    fun r hm hrow st hst => ?_⟩
  · exact State.take_of_not_taken fun r ⟨_, hhead, _⟩ => by simp [hempty] at hhead
  · exact State.take_of_not_taken fun r ⟨_, _, hroom⟩ => absurd hroom (not_lt.mpr hfull)
  · refine State.take_of_not_taken fun r' hm' => ?_
    obtain rfl : r = r' := Option.some.inj (hm.2.1.symm.trans hm'.2.1)
    exact hrow
  · subst hrow
    obtain ⟨hform, hfail⟩ := formCheck_of_failure hst
    rw [State.take_of_form hm rfl hform, State.respond_of_failure _ _ _ _ hfail]
    simp only [State.dequeue, State.modPort, State.formBody, PerPort.get_set_self, PerPort.set_set]

/-! ### Selectors, then authority (R158, R176) -/

section Selectors

variable {p : Port} {r : Request} {s : State}

theorem onPageStore_of_selector (h : 1 < u8At r.body 1) : onPageStore p r s = (s, ⟨.badArgument, []⟩) := if_pos h

theorem onCounterRead_of_selector (h : 1 < u8At r.body 1) : onCounterRead p r s = (s, ⟨.badArgument, []⟩) := if_pos h

theorem onCounterControl_of_selector (h : 1 < u8At r.body 0) : onCounterControl p r s = (s, ⟨.badArgument, []⟩) :=
  if_pos h

theorem onClaimNormal_of_selector (h : 1 < u8At r.body 0) : onClaimNormal p r s = (s, ⟨.badArgument, []⟩) := if_pos h

end Selectors

section Authority

variable {p : Port} {r : Request} {s : State} {a : Reply} (h : s.authorityRefusal p = some a)
include h

theorem State.trimRefusal_of_authority : s.trimRefusal p = some a := by
  simp only [State.trimRefusal, h]

theorem onCommit_of_authority : onCommit p r s = (s, s.withGeneration a) :=
  onCommit_of_refusal (by simp only [State.commitRefusal, h])

theorem onPageStore_of_authority (hsel : u8At r.body 1 ≤ 1) : onPageStore p r s = (s, a) := by
  simp only [onPageStore, if_neg (not_lt.mpr hsel), h]

theorem onCounterControl_of_authority (hsel : u8At r.body 0 ≤ 1) : onCounterControl p r s = (s, a) := by
  simp only [onCounterControl, if_neg (not_lt.mpr hsel), h]

/-- A COUNTER READ needs authority for its clear alone (R158, R168). -/
theorem onCounterRead_of_authority (hclear : u8At r.body 1 = 1) : onCounterRead p r s = (s, a) := by
  simp [onCounterRead, hclear, h]

/-- The requests that need authority whatever their arguments, but COMMIT. -/
theorem handler_of_authority {row : RequestRow}
    (hrow : row ∈ [RequestRow.trimLevel, .trimFrequency, .revive, .reload, .pageErase, .bootSet]) :
    row.handler p r s = (s, a) := by
  simp only [List.mem_cons, List.not_mem_nil, or_false] at hrow
  rcases hrow with rfl | rfl | rfl | rfl | rfl | rfl
  · exact onTrimLevel_of_refusal (State.trimRefusal_of_authority h)
  · exact onTrimFrequency_of_refusal (State.trimRefusal_of_authority h)
  · simp only [RequestRow.handler, onRevive, h]
  · simp only [RequestRow.handler, onReload, h]
  · simp only [RequestRow.handler, onPageErase, h]
  · simp only [RequestRow.handler, onBootSet, h]

end Authority

/-- The refusal for want of authority, and what an answer that puts a lead before its body is then (R98, R158). -/
theorem State.authorityRefusal_led {s : State} {p : Port} (h : ¬ s.holder p) :
    ∃ a : Reply, s.authorityRefusal p = some a ∧ ∀ lead : List Byte,
      (⟨a.status, lead ++ a.body⟩ : Reply) = if s.arbiter.authority = .contested then ⟨.contested, lead ++ s.authorityView⟩
        else ⟨.notAuthority, lead ++ [byteOf s.arbiter.authority.code,
          optByte (s.arbiter.authority.holder.map portCode)]⟩ := by
  refine ⟨_, State.authorityRefusal_of_not_holder h, fun lead => ?_⟩
  by_cases hcontest : s.arbiter.authority = .contested
  · rw [if_pos hcontest, if_pos hcontest]
  · rw [if_neg hcontest, if_neg hcontest]
    rfl

/-- Settles O28: the selector checks come first, and then each block's authority check. -/
theorem selectorsThenAuthorityAreChecked : Obligations.SelectorsThenAuthorityAreChecked := by
  refine ⟨fun s p row r ht hsel => exec_takeCommand_of_answer ht ?_, fun s p row r ht hh hrow => ?_⟩
  · simp only [List.mem_pair] at hsel
    rcases hsel with ⟨rfl | rfl, hsel⟩ | ⟨rfl | rfl, hsel⟩
    · exact onPageStore_of_selector hsel
    · exact onCounterRead_of_selector hsel
    · exact onCounterControl_of_selector hsel
    · exact onClaimNormal_of_selector hsel
  · obtain ⟨a, href, hled⟩ := State.authorityRefusal_led hh
    replace href : (s.dequeue p).authorityRefusal p = some a := href
    refine exec_takeCommand_of_answer ht ?_
    rw [← hled]
    by_cases hc : row = .commit
    · subst hc
      exact onCommit_of_authority href
    · rw [if_neg hc, List.nil_append]
      rcases hrow with hrow | ⟨rfl, hsel⟩ | ⟨rfl, hsel⟩ | ⟨rfl, hclear⟩
      · exact handler_of_authority href ((List.mem_cons.mp hrow).resolve_left hc)
      · exact onPageStore_of_authority href hsel
      · exact onCounterControl_of_authority href hsel
      · exact onCounterRead_of_authority href hclear

end Sys2Proof.Machine

namespace Sys2Proof.Machine

/-! ### Requests that write the own draft (R91 to R95) -/

section EditDraft

variable {s : State} {p : Port} {r : Request}

/-- Whatever a request would write, it is refused while the own draft is LOADING (R91). -/
theorem State.editDraft_of_loading {pg : PageIx} (h : (s.drafts.get p).loading = some pg) (f : State → State × Reply) :
    s.editDraft p f = (s, ⟨.draftBusy, [byteOf pg.val]⟩) := by
  simp only [State.editDraft, State.draftRefusal, h, Option.map_some]

theorem State.editDraft_of_settled (h : (s.drafts.get p).loading = none) (f : State → State × Reply) :
    s.editDraft p f = f s := by
  simp only [State.editDraft, State.draftRefusal, h, Option.map_none]

/-- A change of the content of a draft that is not LOADING. -/
theorem State.modDraft_of_settled (h : (s.drafts.get p).loading = none) (f : Plan → Plan) :
    (s.modDraft p fun d => { d with plan := f d.plan })
      = { s with drafts := s.drafts.set p ⟨f (s.drafts.get p).plan, none⟩ } := by
  rw [← h]
  rfl

theorem onDraftCopy_of_settled (h : (s.drafts.get p).loading = none) : onDraftCopy p r s
    = ({ s with drafts := s.drafts.set p ⟨s.ctl.active, none⟩ }, ⟨.ok, be16 s.ctl.generation⟩) := by
  rw [onDraftCopy, State.editDraft_of_settled h, State.setDraft, State.modDraft_of_settled h fun _ => s.ctl.active]

theorem onDraftClear_of_settled (h : (s.drafts.get p).loading = none) : onDraftClear p r s
    = ({ s with drafts := s.drafts.set p ⟨Plan.default, none⟩ }, ⟨.ok, []⟩) := by
  rw [onDraftClear, State.editDraft_of_settled h, State.setDraft, State.modDraft_of_settled h fun _ => Plan.default]

theorem onDraftPutEntry_of_refusal {n : Nat} (h : (s.drafts.get p).loading = none) (href : entryRefusal r.body = some n) :
    onDraftPutEntry p r s = (s, ⟨.badArgument, [byteOf n]⟩) := by
  simp only [onDraftPutEntry, State.editDraft_of_settled h, href]

theorem onDraftPutHeader_of_refusal {n : Nat} (h : (s.drafts.get p).loading = none)
    (href : headerRefusal r.body = some n) : onDraftPutHeader p r s = (s, ⟨.badArgument, [byteOf n]⟩) := by
  simp only [onDraftPutHeader, State.editDraft_of_settled h, href]

/-- An accepted entry takes its place in the draft (R92). -/
theorem onDraftPutEntry_of_accepted {i : SlotIx} (h : (s.drafts.get p).loading = none)
    (href : entryRefusal r.body = none) (hi : u8At r.body 0 = i.val) : onDraftPutEntry p r s =
    ({ s with drafts := s.drafts.set p ⟨{ (s.drafts.get p).plan with
        entries := (s.drafts.get p).plan.entries.set i (entryStored r.body) }, none⟩ },
      ⟨if entryClamped r.body then .okClamped else .ok, (entryStored r.body).bytes⟩) := by
  have hix : (Fin.ofNat 16 (u8At r.body 0) : SlotIx) = i := by rw [hi, Fin.ofNat_val_eq_self]
  simp only [onDraftPutEntry, State.editDraft_of_settled h, href, hix]
  rw [State.modDraft_of_settled h fun pl => { pl with entries := pl.entries.set i (entryStored r.body) }]
  rfl

/-- An accepted header takes its place in the draft, whose entries stay (R93). -/
theorem onDraftPutHeader_of_accepted (h : (s.drafts.get p).loading = none) (href : headerRefusal r.body = none) :
    onDraftPutHeader p r s =
    ({ s with drafts := s.drafts.set p ⟨{ (s.drafts.get p).plan with header := headerStored r.body }, none⟩ },
      ⟨if headerClamped r.body then .okClamped else .ok, (headerStored r.body).bytes⟩) := by
  simp only [onDraftPutHeader, State.editDraft_of_settled h, href]
  rw [State.modDraft_of_settled h fun pl => { pl with header := headerStored r.body }]
  rfl

end EditDraft

/-- Settles O34: the four requests write by `State.editDraft` alone. -/
theorem draftCopyClearAndBusy : Obligations.DraftCopyClearAndBusy := by
  refine ⟨fun s p row r pg hrow ht hload => exec_takeCommand_of_answer ht ?_, fun s p r h => ⟨fun ht => ?_, fun ht => ?_⟩⟩
  · simp only [List.mem_cons, List.not_mem_nil, or_false] at hrow
    have hbusy := State.editDraft_of_loading (s := s.dequeue p) hload
    rcases hrow with rfl | rfl | rfl | rfl
    · rw [RequestRow.handler, onDraftCopy, hbusy]
    · rw [RequestRow.handler, onDraftPutEntry, hbusy]
    · rw [RequestRow.handler, onDraftPutHeader, hbusy]
    · rw [RequestRow.handler, onDraftClear, hbusy]
  · exact (State.take_of_takes ht onDraftCopy).trans (by rw [onDraftCopy_of_settled (s := s.dequeue p) h]; rfl)
  · exact (State.take_of_takes ht onDraftClear).trans (by rw [onDraftClear_of_settled (s := s.dequeue p) h]; rfl)

/-! ### The refused and clamped fields of a draft put (R92, R93, R177) -/

/-- A label field of a put is refused for its length, or for a character among those it names (R24, R177). -/
theorem labelRefused_eq (present : Bool) (b : List Byte) (i : Nat) :
    labelRefused present b i = (present && (12 < u8At b i
      || ((b.drop (i + 1)).take (u8At b i)).any fun c => c.toNat < 32 || 126 < c.toNat)) := by
  cases present with
  | false => rfl
  | true =>
    by_cases hlen : 12 < u8At b i
    · simp only [labelRefused, hlen, decide_true, Bool.true_or]
    · have hmin : min 12 (u8At b i) = u8At b i := Nat.min_eq_right (not_lt.mp hlen)
      have hfits : ((b.drop (i + 1)).take (u8At b i)).length ≤ 12 := (List.length_take_le _ _).trans (not_lt.mp hlen)
      simp only [labelRefused, labelAt, if_true, labelInRange, hmin, hfits, decide_true, Bool.true_and,
        List.not_all_eq_any_not, Bool.not_and, ← decide_not, not_le]

/-- A label field that is not refused is stored as it stands (R177). -/
theorem labelAt_of_accepted {present : Bool} {b : List Byte} {i : Nat} (h : labelRefused present b i = false) :
    labelAt present b i = if present then some ((b.drop (i + 1)).take (u8At b i)) else none := by
  cases present with
  | false => rfl
  | true =>
    have hlen : u8At b i ≤ 12 := by
      simp only [labelRefused, Bool.true_and, Bool.or_eq_false_iff, decide_eq_false_iff_not, not_lt] at h
      exact h.1
    simp only [labelAt, Nat.min_eq_right hlen]

/-- The number of the first of a list of checks that a body fails. -/
theorem find?_check_cons (c : Bool) (n : Nat) (l : List (Bool × Nat)) :
    (((c, n) :: l).find? Prod.fst).map Prod.snd = if c then some n else (l.find? Prod.fst).map Prod.snd := by
  cases c <;> rfl

/-- The checks on the fields of an entry, in the order of R92, with the numbers of the fields. -/
def entryChecks (b : List Byte) : List (Bool × Nat) :=
  [(8 ≤ u8At b 1, 1), (15 < u8At b 0, 0), (6000000 < u32At b 2, 2), (6000000 < u32At b 6, 3),
    ((u8At b 1).testBit 1 && 6000000 < u32At b 10, 4), (3 < u8At b 14, 5),
    ((u8At b 1).testBit 2 && (12 < u8At b 21
      || ((b.drop 22).take (u8At b 21)).any fun c => c.toNat < 32 || 126 < c.toNat), 10)]

theorem entryRefusal_eq (b : List Byte) : entryRefusal b = ((entryChecks b).find? Prod.fst).map Prod.snd := by
  simp only [entryChecks, find?_check_cons, entryRefusal, labelRefused_eq, decide_eq_true_eq]
  rfl

/-- The checks on the fields of a header, in the order of R93, with the numbers of the fields. -/
def headerChecks (b : List Byte) : List (Bool × Nat) :=
  [(2 ≤ u8At b 0, 11), (u32At b 1 < 100000 || 5900000 < u32At b 1, 12),
    (u32At b 5 < 100000 || 5900000 < u32At b 5, 13),
    ((u8At b 0).testBit 0 && (12 < u8At b 22
      || ((b.drop 23).take (u8At b 22)).any fun c => c.toNat < 32 || 126 < c.toNat), 11)]

theorem headerRefusal_eq (b : List Byte) : headerRefusal b = ((headerChecks b).find? Prod.fst).map Prod.snd := by
  simp only [headerChecks, find?_check_cons, headerRefusal, labelRefused_eq, decide_eq_true_eq]
  rfl

/-- An accepted entry's label is the one its field names (R177). -/
theorem entryStored_of_accepted {b : List Byte} (h : entryRefusal b = none) : entryStored b = { entryStored b with
    label := if (u8At b 1).testBit 2 then some ((b.drop 22).take (u8At b 21)) else none } := by
  have hlabel : labelRefused ((u8At b 1).testBit 2) b 21 = false := by
    simp only [entryRefusal, ite_eq_iff, reduceCtorEq, and_false, false_or] at h
    simp_all
  rw [← labelAt_of_accepted hlabel]
  rfl

theorem headerStored_of_accepted {b : List Byte} (h : headerRefusal b = none) : headerStored b = { headerStored b with
    label := if (u8At b 0).testBit 0 then some ((b.drop 23).take (u8At b 22)) else none } := by
  have hlabel : labelRefused ((u8At b 0).testBit 0) b 22 = false := by
    simp only [headerRefusal, ite_eq_iff, reduceCtorEq, and_false, false_or] at h
    simp_all
  rw [← labelAt_of_accepted hlabel]
  rfl

/-- A put clamps an entry exactly when it stores another value than it was given (R92). -/
theorem entryClamped_eq (b : List Byte) : entryClamped b = ((entryStored b).priority.val ≠ u8At b 15
    || (entryStored b).share ≠ u16At b 16 || (entryStored b).threshold ≠ s16At b 18
    || (entryStored b).reacquireLimit ≠ u8At b 20 : Bool) := by
  have hpriority : (entryStored b).priority.val ≠ u8At b 15 ↔ 3 < u8At b 15 := by
    have : (entryStored b).priority.val = min 3 (u8At b 15) % 4 := rfl
    omega
  have hshare : (entryStored b).share ≠ u16At b 16 ↔ 1024 < u16At b 16 := by
    have : (entryStored b).share = min 1024 (u16At b 16) := rfl
    omega
  have hthreshold : (entryStored b).threshold ≠ s16At b 18 ↔ s16At b 18 < -200 ∨ -20 < s16At b 18 := by
    have : (entryStored b).threshold = max (-200) (min (-20) (s16At b 18)) := rfl
    omega
  have hlimit : (entryStored b).reacquireLimit ≠ u8At b 20 ↔ 15 < u8At b 20 := by
    have : (entryStored b).reacquireLimit = min 15 (u8At b 20) := rfl
    omega
  simp only [hpriority, hshare, hthreshold, hlimit, Bool.decide_or, entryClamped, Bool.or_assoc]

/-! ### DRAFT PUT ENTRY and DRAFT PUT HEADER (R92, R93) -/

/-- Settles O35: the first failed check refuses; else the entry stored is the clamped one. -/
theorem draftPutEntry : Obligations.DraftPutEntry := by
  intro s p r ht hload
  refine ⟨fun f hf => ?_, fun hnone i hi => ?_⟩
  · have href : entryRefusal r.body = some f.2 := (entryRefusal_eq _).trans (congrArg (Option.map Prod.snd) hf)
    exact exec_takeCommand_of_answer ht (onDraftPutEntry_of_refusal (s := s.dequeue p) hload href)
  · have href : entryRefusal r.body = none := (entryRefusal_eq _).trans (congrArg (Option.map Prod.snd) hnone)
    refine (State.take_of_takes ht onDraftPutEntry).trans ?_
    rw [onDraftPutEntry_of_accepted (s := s.dequeue p) hload href hi, entryClamped_eq, entryStored_of_accepted href]
    rfl

/-- Settles O36: the first failed check refuses; else the header stored is the clamped one. -/
theorem draftPutHeader : Obligations.DraftPutHeader := by
  intro s p r ht hload
  refine ⟨fun f hf => ?_, fun hnone => ?_⟩
  · have href : headerRefusal r.body = some f.2 := (headerRefusal_eq _).trans (congrArg (Option.map Prod.snd) hf)
    exact exec_takeCommand_of_answer ht (onDraftPutHeader_of_refusal (s := s.dequeue p) hload href)
  · have href : headerRefusal r.body = none := (headerRefusal_eq _).trans (congrArg (Option.map Prod.snd) hnone)
    refine (State.take_of_takes ht onDraftPutHeader).trans ?_
    rw [onDraftPutHeader_of_accepted (s := s.dequeue p) hload href, headerStored_of_accepted href]
    rfl

end Sys2Proof.Machine

namespace Sys2Proof.Machine

/-! ### Reading back what was written as bytes (R175) -/

theorem byteOf_toNat {n : Nat} (h : n < 256) : (byteOf n).toNat = n := by
  rw [byteOf, BitVec.toNat_ofNat, Nat.mod_eq_of_lt h]

/-- A byte keeps a number up to multiples of 256. -/
theorem byteOf_congr {m n : Nat} (h : m % 256 = n % 256) : byteOf m = byteOf n :=
  BitVec.eq_of_toNat_eq (by simpa only [byteOf, BitVec.toNat_ofNat] using h)

/-- Two bytes keep a number up to multiples of 65,536. -/
theorem be16_mod (n : Nat) : be16 (n % 65536) = be16 n := by
  have hhigh : byteOf (n % 65536 / 256) = byteOf (n / 256) := byteOf_congr (by omega)
  have hlow : byteOf (n % 65536) = byteOf n := byteOf_congr (by omega)
  rw [be16, hhigh, hlow, be16]

/-- Two's complement reads back the integers that the bits hold. -/
theorem signedOf_toNat {bits : Nat} {x : Int} (hlo : -(2 ^ bits : Nat) ≤ 2 * x) (hhi : 2 * x < (2 ^ bits : Nat)) :
    signedOf bits (x % (2 ^ bits : Nat)).toNat = x := by
  have hcast : ((2 ^ bits : Nat) : Int) = 2 ^ bits := by push_cast; rfl
  rw [signedOf, ← hcast]
  rcases lt_or_ge x 0 with hx | hx
  · have hmod : x % (2 ^ bits : Nat) = x + (2 ^ bits : Nat) := by
      rw [← Int.add_emod_right, Int.emod_eq_of_lt (by omega) (by omega)]
    rw [hmod, if_pos (by omega)]
    omega
  · rw [Int.emod_eq_of_lt hx (by omega), if_neg (by omega)]
    omega

section Fields

variable {b l : List Byte} {i : Nat}

/-- Where the byte at an offset begins a part of a body. -/
theorem u8At_of_drop {x : Byte} (h : b.drop i = x :: l) : u8At b i = x.toNat := by
  have hget : b[i]? = some x := by rw [← List.head?_drop, h, List.head?_cons]
  rw [u8At, List.getD_eq_getElem?_getD, hget, Option.getD_some]

theorem drop_succ_of_drop {x : Byte} (h : b.drop i = x :: l) : b.drop (i + 1) = l := by
  rw [← List.drop_drop, h, List.drop_succ_cons, List.drop_zero]

theorem u8At_of_byteOf {n : Nat} (h : b.drop i = byteOf n :: l) (hn : n < 256) : u8At b i = n := by
  rw [u8At_of_drop h, byteOf_toNat hn]

theorem u16At_of_be16 {n : Nat} (h : b.drop i = be16 n ++ l) (hn : n < 65536) : u16At b i = n := by
  have h' : b.drop i = byteOf (n / 256) :: byteOf n :: l := h
  have hlow : (byteOf n).toNat = n % 256 := BitVec.toNat_ofNat n 8
  rw [u16At, u8At_of_byteOf h' (by omega), u8At_of_drop (drop_succ_of_drop h'), hlow]
  omega

theorem u32At_of_be32 {n : Nat} (h : b.drop i = be32 n ++ l) (hn : n < 4294967296) : u32At b i = n := by
  have hhigh : b.drop i = be16 (n / 65536) ++ (be16 n ++ l) := h
  have hlow : b.drop (i + 2) = be16 (n % 65536) ++ l := by
    rw [be16_mod, ← List.drop_drop, hhigh]
    rfl
  rw [u32At, u16At_of_be16 hhigh (by omega), u16At_of_be16 hlow (by omega)]
  omega

theorem s8At_of_signed8 {x : Int} (h : b.drop i = signed8 x ++ l) (hlo : -128 ≤ x) (hhi : x ≤ 127) : s8At b i = x := by
  rw [s8At, u8At_of_byteOf h (by omega)]
  exact signedOf_toNat (bits := 8) (by norm_num; omega) (by norm_num; omega)

theorem s16At_of_signed16 {x : Int} (h : b.drop i = signed16 x ++ l) (hlo : -32768 ≤ x) (hhi : x ≤ 32767) :
    s16At b i = x := by
  rw [s16At, u16At_of_be16 h (by omega)]
  exact signedOf_toNat (bits := 16) (by norm_num; omega) (by norm_num; omega)

theorem signedOf_of_signed32 {x : Int} (h : b.drop i = signed32 x ++ l) (hlo : -2147483648 ≤ x) (hhi : x ≤ 2147483647) :
    signedOf 32 (u32At b i) = x := by
  rw [u32At_of_be32 h (by omega)]
  exact signedOf_toNat (bits := 32) (by norm_num; omega) (by norm_num; omega)

end Fields

/-! ### Labels (R24, R177) -/

/-- An in-range label's field: its length, its characters, and zeros up to the twelfth (R177). -/
theorem labelBytes_some {cs : List Byte} (h : cs.length ≤ 12) :
    labelBytes (some cs) = byteOf cs.length :: cs ++ List.replicate (12 - cs.length) 0 := by
  have hzeros : (List.replicate 12 (0 : Byte)).take (12 - cs.length) = List.replicate (12 - cs.length) 0 := by
    rw [List.take_replicate, Nat.min_eq_left (Nat.sub_le _ _)]
  rw [labelBytes, List.take_append, List.take_of_length_le h, hzeros, List.cons_append]

/-- An in-range label that a put gives as its own field is not refused, and is stored (R92, R93). -/
theorem labelAt_of_labelBytes {b : List Byte} {i : Nat} {l : Label} (h : b.drop i = labelBytes l)
    (hl : labelInRange l = true) : labelAt l.isSome b i = l ∧ labelRefused l.isSome b i = false := by
  cases l with
  | none => exact ⟨rfl, rfl⟩
  | some cs =>
    have hlen : cs.length ≤ 12 := by
      simp only [labelInRange, Bool.and_eq_true, decide_eq_true_eq] at hl
      exact hl.1
    have hfield : b.drop i = byteOf cs.length :: (cs ++ List.replicate (12 - cs.length) 0) := by
      rw [h, labelBytes_some hlen, List.cons_append]
    have hlabel : labelAt true b i = some cs := by
      rw [labelAt, if_pos rfl, u8At_of_byteOf hfield (by omega), drop_succ_of_drop hfield, Nat.min_eq_right hlen,
        List.take_left]
    refine ⟨hlabel, ?_⟩
    rw [Option.isSome_some, labelRefused, hlabel, hl, u8At_of_byteOf hfield (by omega)]
    simpa using hlen

/-! ### Entries and headers (R177) -/

/-- A bit of a presence byte as a number. -/
def bitOf (x : Bool) (n : Nat) : Nat := if x then 2 ^ n else 0

theorem entryPresence_toNat (enabled alt label : Bool) :
    (entryPresence enabled alt label).toNat = bitOf enabled 0 + bitOf alt 1 + bitOf label 2 := by
  revert enabled alt label
  decide

theorem presence_testBit (enabled alt label : Bool) :
    (bitOf enabled 0 + bitOf alt 1 + bitOf label 2).testBit 0 = enabled
    ∧ (bitOf enabled 0 + bitOf alt 1 + bitOf label 2).testBit 1 = alt
    ∧ (bitOf enabled 0 + bitOf alt 1 + bitOf label 2).testBit 2 = label
    ∧ bitOf enabled 0 + bitOf alt 1 + bitOf label 2 < 8 := by
  revert enabled alt label
  decide

/-- The fields that stand at their offsets in a body whose part from an offset on is an entry's bytes (R177). -/
structure Entry.At (e : Entry) (b : List Byte) (i : Nat) : Prop where
  presence : u8At b i = bitOf e.enabled 0 + bitOf e.altRxKhz.isSome 1 + bitOf e.label.isSome 2
  rxKhz : u32At b (i + 1) = e.rxKhz
  txKhz : u32At b (i + 5) = e.txKhz
  altRxKhz : u32At b (i + 9) = e.altRxKhz.getD 0
  bwClass : u8At b (i + 13) = e.bwClass.val
  priority : u8At b (i + 14) = e.priority.val
  share : u16At b (i + 15) = e.share
  threshold : s16At b (i + 17) = e.threshold
  reacquireLimit : u8At b (i + 19) = e.reacquireLimit
  label : b.drop (i + 20) = labelBytes e.label

/-- The alternate frequency's field, 0 where it is absent (R177), is in range. -/
theorem Entry.alt_le_of_inRange {e : Entry} (he : e.inRange = true) : e.altRxKhz.getD 0 ≤ 6000000 := by
  obtain ⟨-, -, halt, -⟩ := (Entry.inRange_iff e).mp he
  cases h : e.altRxKhz with
  | none => exact Nat.zero_le _
  | some f => exact halt f (by rw [h]; rfl)

theorem Entry.bytes_at {e : Entry} (he : e.inRange = true) {b : List Byte} {i : Nat} (hb : b.drop i = e.bytes) :
    e.At b i := by
  obtain ⟨hrx, htx, -, hshare, hthreshold, hlimit, -⟩ := (Entry.inRange_iff e).mp he
  have hfield {k : Nat} {l : List Byte} (h : e.bytes.drop k = l) : b.drop (i + k) = l := by
    rw [← List.drop_drop, hb, h]
  have halt := Entry.alt_le_of_inRange he
  exact {
    presence := (u8At_of_drop (hfield (k := 0) rfl)).trans (entryPresence_toNat _ _ _)
    rxKhz := u32At_of_be32 (hfield rfl) (by omega)
    txKhz := u32At_of_be32 (hfield rfl) (by omega)
    altRxKhz := u32At_of_be32 (hfield rfl) (by omega)
    bwClass := u8At_of_byteOf (hfield rfl) (by omega)
    priority := u8At_of_byteOf (hfield rfl) (by omega)
    share := u16At_of_be16 (hfield rfl) (by omega)
    threshold := s16At_of_signed16 (hfield rfl) (by omega) (by omega)
    reacquireLimit := u8At_of_byteOf (hfield rfl) (by omega)
    label := hfield rfl }

/-- The fields that stand at their offsets in a header's bytes (R177). -/
structure Header.At (h : Header) (b : List Byte) : Prop where
  presence : u8At b 0 = bitOf h.label.isSome 0
  rxCentre : u32At b 1 = h.rxCentre
  txCentre : u32At b 5 = h.txCentre
  guardKhz : u16At b 9 = h.guardKhz
  ceiling : s8At b 11 = h.ceiling
  rampMs : u16At b 12 = h.rampMs
  holdMs : u16At b 14 = h.holdMs
  reacquireMs : u16At b 16 = h.reacquireMs
  levelMs : u16At b 18 = h.levelMs
  leaseMs : u16At b 20 = h.leaseMs
  label : b.drop 22 = labelBytes h.label

theorem flagByte_toNat (x : Bool) : (flagByte x).toNat = bitOf x 0 := by
  cases x <;> rfl

theorem Header.bytes_at {h : Header} (hh : h.inRange = true) : h.At h.bytes := by
  obtain ⟨hrx, htx, hguard, hceiling, hramp, hhold, hreacquire, hlevel, hlease, -⟩ := (Header.inRange_iff h).mp hh
  exact {
    presence := (u8At_of_drop (i := 0) rfl).trans (flagByte_toNat _)
    rxCentre := u32At_of_be32 rfl (by omega)
    txCentre := u32At_of_be32 rfl (by omega)
    guardKhz := u16At_of_be16 rfl (by omega)
    ceiling := s8At_of_signed8 rfl (by omega) (by omega)
    rampMs := u16At_of_be16 rfl (by omega)
    holdMs := u16At_of_be16 rfl (by omega)
    reacquireMs := u16At_of_be16 rfl (by omega)
    levelMs := u16At_of_be16 rfl (by omega)
    leaseMs := u16At_of_be16 rfl (by omega)
    label := rfl }

/-! ### A record put as its own bytes (R92, R93) -/

section PutEntry

variable {e : Entry} {b : List Byte} (he : e.inRange = true) (h : e.At b 1)
include he h

theorem Entry.At.label_put : labelAt e.label.isSome b 21 = e.label ∧ labelRefused e.label.isSome b 21 = false := by
  obtain ⟨-, -, -, -, -, -, hlabel⟩ := (Entry.inRange_iff e).mp he
  exact labelAt_of_labelBytes h.label hlabel

/-- An in-range entry is stored as it was given. -/
theorem entryStored_of_at : entryStored b = e := by
  obtain ⟨-, -, -, hshare, hthreshold, hlimit, -⟩ := (Entry.inRange_iff e).mp he
  obtain ⟨henabled, halt, hlabel, -⟩ := presence_testBit e.enabled e.altRxKhz.isSome e.label.isSome
  rw [← h.presence] at henabled halt hlabel
  have hput := (h.label_put he).1
  have haltKhz : (if (u8At b 1).testBit 1 then some (u32At b 10) else none) = e.altRxKhz := by
    rw [halt, show u32At b 10 = e.altRxKhz.getD 0 from h.altRxKhz]
    cases e.altRxKhz <;> rfl
  have hclass : Fin.ofNat 4 (u8At b 14) = e.bwClass := by
    rw [show u8At b 14 = e.bwClass.val from h.bwClass, Fin.ofNat_val_eq_self]
  have hpriority : Fin.ofNat 4 (min 3 (u8At b 15)) = e.priority := by
    rw [show u8At b 15 = e.priority.val from h.priority, Nat.min_eq_right (by omega), Fin.ofNat_val_eq_self]
  have hshare' : min 1024 (u16At b 16) = e.share := by
    rw [show u16At b 16 = e.share from h.share, Nat.min_eq_right hshare]
  have hthreshold' : clampInt (-200) (-20) (s16At b 18) = e.threshold := by
    rw [show s16At b 18 = e.threshold from h.threshold, clampInt]
    omega
  have hlimit' : min 15 (u8At b 20) = e.reacquireLimit := by
    rw [show u8At b 20 = e.reacquireLimit from h.reacquireLimit, Nat.min_eq_right hlimit]
  rw [← hlabel] at hput
  cases e
  simp only [entryStored, Entry.mk.injEq]
  exact ⟨henabled, h.rxKhz, h.txKhz, haltKhz, hclass, hpriority, hshare', hthreshold', hlimit', hput⟩

/-- It is not refused. -/
theorem entryRefusal_of_at (hindex : u8At b 0 < 16) : entryRefusal b = none := by
  obtain ⟨hrx, htx, -⟩ := (Entry.inRange_iff e).mp he
  obtain ⟨-, -, hlabel, hpresence⟩ := presence_testBit e.enabled e.altRxKhz.isSome e.label.isSome
  rw [← h.presence] at hlabel hpresence
  have hrx' : u32At b 2 = e.rxKhz := h.rxKhz
  have htx' : u32At b 6 = e.txKhz := h.txKhz
  have halt : u32At b 10 ≤ 6000000 := h.altRxKhz.trans_le (Entry.alt_le_of_inRange he)
  have hclass : u8At b 14 = e.bwClass.val := h.bwClass
  have hput : labelRefused ((u8At b 1).testBit 2) b 21 = false := hlabel ▸ (h.label_put he).2
  simp only [entryRefusal]
  rw [if_neg (not_le.mpr hpresence), if_neg (by omega), if_neg (by omega), if_neg (by omega),
    if_neg (by simp [halt]), if_neg (by omega), if_neg (by simp [hput])]

/-- It is not clamped. -/
theorem entryClamped_of_at : entryClamped b = false := by
  have hpriority : u8At b 15 = e.priority.val := h.priority
  have hshare : u16At b 16 = e.share := h.share
  have hthreshold : s16At b 18 = e.threshold := h.threshold
  have hlimit : u8At b 20 = e.reacquireLimit := h.reacquireLimit
  simp [entryClamped_eq, entryStored_of_at he h, hpriority, hshare, hthreshold, hlimit]

end PutEntry

section PutHeader

variable {h : Header} {b : List Byte}

theorem Header.At.testBit (hb : h.At b) : (u8At b 0).testBit 0 = h.label.isSome ∧ u8At b 0 < 2 := by
  rw [hb.presence]
  cases h.label.isSome <;> decide

variable (hh : h.inRange = true) (hb : h.At b)
include hh hb

theorem Header.At.label_put :
    labelAt ((u8At b 0).testBit 0) b 22 = h.label ∧ labelRefused ((u8At b 0).testBit 0) b 22 = false := by
  obtain ⟨-, -, -, -, -, -, -, -, -, hlabel⟩ := (Header.inRange_iff h).mp hh
  rw [hb.testBit.1]
  exact labelAt_of_labelBytes hb.label hlabel

/-- An in-range header is stored as it was given. -/
theorem headerStored_of_at : headerStored b = h := by
  obtain ⟨-, -, hguard, hceiling, hramp, hhold, hreacquire, hlevel, hlease, -⟩ := (Header.inRange_iff h).mp hh
  have hlabel := (hb.label_put hh).1
  have hceiling' : clampInt (-40) 0 h.ceiling = h.ceiling := by unfold clampInt; omega
  have hramp' : clampNat 10 2000 h.rampMs = h.rampMs := by unfold clampNat; omega
  have hreacquire' : clampNat 100 60000 h.reacquireMs = h.reacquireMs := by unfold clampNat; omega
  have hlevel' : clampNat 10 1000 h.levelMs = h.levelMs := by unfold clampNat; omega
  have hlease' : clampLease h.leaseMs = h.leaseMs := by
    unfold clampLease clampNat
    split <;> omega
  simp only [headerStored, hb.rxCentre, hb.txCentre, hb.guardKhz, hb.ceiling, hb.rampMs, hb.holdMs, hb.reacquireMs,
    hb.levelMs, hb.leaseMs, hlabel, hceiling', hramp', hreacquire', hlevel', hlease', Nat.min_eq_right hguard,
    Nat.min_eq_right hhold]

/-- It is not refused. -/
theorem headerRefusal_of_at : headerRefusal b = none := by
  obtain ⟨hrx, htx, -⟩ := (Header.inRange_iff h).mp hh
  have hpresence := hb.testBit.2
  simp only [headerRefusal, hb.rxCentre, hb.txCentre, (hb.label_put hh).2]
  rw [if_neg (not_le.mpr hpresence), if_neg (by simp; omega), if_neg (by simp; omega), if_neg Bool.false_ne_true]

/-- It is not clamped. -/
theorem headerClamped_of_at : headerClamped b = false := by
  simp [headerClamped, headerStored_of_at hh hb, hb.guardKhz, hb.ceiling, hb.rampMs, hb.holdMs, hb.reacquireMs, hb.levelMs,
    hb.leaseMs]

end PutHeader

/-! ### Event records (R170, R178) -/

theorem EventKind.code_bounds (k : EventKind) : 1 ≤ k.code ∧ k.code < 256 := by
  cases k <;> decide

/-- A kind's code is its position in the table of R170, which has its causes. -/
theorem eventTable_code (k : EventKind) : eventTable[k.code - 1]? = some (k, k.causes) := by
  cases k <;> rfl

theorem EventKind.causes_length (k : EventKind) : k.causes.length ≤ 7 := by
  cases k <;> decide

/-- A cause's code is its position in the list of its kind, from 1 (R178). -/
theorem causeCode_position {k : EventKind} {c : Cause} (h : c ∈ k.causes) :
    1 ≤ causeCode k c ∧ causeCode k c < 256 ∧ k.causes[causeCode k c - 1]? = some c := by
  have hlt : k.causes.idxOf c < k.causes.length := List.idxOf_lt_length_iff.mpr h
  have hlen := k.causes_length
  exact ⟨Nat.le_add_left 1 _, by unfold causeCode; omega, List.getElem?_idxOf h⟩

theorem presence_toNat (slot port tag value1 value2 cause : Bool) :
    (byteOf ((if slot then 1 else 0) + (if port then 2 else 0) + (if tag then 4 else 0) + (if value1 then 8 else 0)
      + (if value2 then 16 else 0) + (if cause then 32 else 0))).toNat
    = bitOf slot 0 + bitOf port 1 + bitOf tag 2 + bitOf value1 3 + bitOf value2 4 + bitOf cause 5 := by
  revert slot port tag value1 value2 cause
  decide

section EventBytes

variable (e : Event)

theorem Event.bytes_kind : u8At e.bytes 4 = e.notice.kind.code := u8At_of_byteOf rfl e.notice.kind.code_bounds.2

theorem Event.bytes_slot : u8At e.bytes 8 = (e.notice.slot.map Fin.val).getD 0 := by
  refine u8At_of_byteOf rfl ?_
  cases e.notice.slot with
  | none => decide
  | some i => exact i.isLt.trans (by decide)

theorem Event.bytes_port : u8At e.bytes 9 = if e.notice.port = some .b then 1 else 0 := by
  refine (u8At_of_drop (i := 9) rfl).trans ?_
  rcases e.notice.port with _ | _ | _ <;> rfl

theorem Event.bytes_no_cause (h : e.notice.cause = none) : u8At e.bytes 19 = 0 := by
  refine (u8At_of_drop (i := 19) rfl).trans ?_
  rw [h]
  rfl

theorem Event.bytes_cause {c : Cause} (hc : c ∈ e.notice.kind.causes) (h : e.notice.cause = some c) :
    u8At e.bytes 19 = causeCode e.notice.kind c := by
  refine (u8At_of_drop (i := 19) rfl).trans ?_
  rw [h]
  exact byteOf_toNat (causeCode_position hc).2.1

end EventBytes

/-! ### Times in milliseconds and the authority view (R151, R175; log entry 15) -/

/-- A number of milliseconds reports a time: exactly, or rounded down or up where it is no whole number (log entry 15). -/
def ReportsMs (n k : Nat) : Prop := k * 160000 = n ∨ n % 160000 ≠ 0 ∧ (k = n / 160000 ∨ k = n / 160000 + 1)

theorem reportMs_reports (n : Nat) : ReportsMs n (reportMs n) := by
  unfold ReportsMs
  have hms : Config.samplesPerMs = 160000 := rfl
  by_cases hwhole : n % Config.samplesPerMs = 0
  · have hreport : reportMs n = n / Config.samplesPerMs := if_pos hwhole
    rw [hms] at hwhole hreport
    omega
  · have hreport : reportMs n = n / Config.samplesPerMs + if Config.msRoundsUp n then 1 else 0 := if_neg hwhole
    rw [hms] at hwhole hreport
    split at hreport <;> omega

theorem reportMs_le {n m : Nat} (h : n ≤ m * 160000) : reportMs n ≤ m := by
  rcases reportMs_reports n with hwhole | ⟨hpart, hround⟩ <;> omega

/-- A stopped timer's field (R175). -/
theorem u16At_of_stopped {b l : List Byte} {i : Nat} {t : Option Nat} (hb : b.drop i = timer16 t ++ l) (h : t = none) :
    u16At b i = 0xFFFF := by
  subst h
  exact u16At_of_be16 hb (by decide)

theorem u16At_of_timer {b l : List Byte} {i n : Nat} {t : Option Nat} (hb : b.drop i = timer16 t ++ l) (h : t = some n)
    (hn : n ≤ 10000 * 160000) : ReportsMs n (u16At b i) := by
  subst h
  rw [u16At_of_be16 hb ((reportMs_le hn).trans_lt (by decide))]
  exact reportMs_reports n

section AuthorityView

variable (s : State)

theorem State.authorityView_lease :
    (s.arbiter.lease = none → u32At s.authorityView 3 = 0xFFFFFFFF)
    ∧ ∀ n, s.arbiter.lease = some n → n ≤ 60000 * 160000 → ReportsMs n (u32At s.authorityView 3) := by
  have hfield : s.authorityView.drop 3 = be32 ((s.arbiter.lease.map reportMs).getD 0xFFFFFFFF)
      ++ (timer16 s.arbiter.forceWindow ++ timer16 s.arbiter.contest) := rfl
  refine ⟨fun h => ?_, fun n h hn => ?_⟩
  · rw [h] at hfield
    exact u32At_of_be32 hfield (by decide)
  · rw [h] at hfield
    rw [u32At_of_be32 hfield ((reportMs_le hn).trans_lt (by decide))]
    exact reportMs_reports n

/-- The state, the holder and the manner: the last two are absent outside HELD (R150, R151). -/
theorem State.authorityView_lead : s.authorityView.take 3 = match s.arbiter.authority with
    | .open => [0, 0xFF, 0xFF]
    | .held q m => [1, if q = .a then 0 else 1, if m = .claim then 0 else 1]
    | .contested => [2, 0xFF, 0xFF] := by
  have hlead : s.authorityView.take 3 = [byteOf s.arbiter.authority.code,
    optByte (s.arbiter.authority.holder.map portCode), optByte (s.arbiter.authority.manner.map Manner.code)] := rfl
  rw [hlead]
  rcases s.arbiter.authority with _ | ⟨_ | _, _ | _⟩ | _ <;> rfl

/-- The three bytes of the lead, one by one. -/
theorem State.authorityView_of_lead {x y z : Byte} (h : s.authorityView.take 3 = [x, y, z]) :
    u8At s.authorityView 0 = x.toNat ∧ u8At s.authorityView 1 = y.toNat ∧ u8At s.authorityView 2 = z.toNat := by
  have hsplit : s.authorityView = [x, y, z] ++ s.authorityView.drop 3 := by rw [← h, List.take_append_drop]
  rw [hsplit]
  exact ⟨rfl, rfl, rfl⟩

end AuthorityView

/-- The validation report of R31 (R175). -/
theorem Report.bytes_fields (rep : Report) : rep.bytes.length = 3
    ∧ [FailKind.rxBand, .txBand, .altBand, .altSame, .txSpacing][u8At rep.bytes 0 - 1]? = some rep.kind
    ∧ 1 ≤ u8At rep.bytes 0 ∧ u8At rep.bytes 1 = rep.slot.val
    ∧ u8At rep.bytes 2 = (rep.second.map Fin.val).getD 0xFF := by
  have hkind : u8At rep.bytes 0 = rep.kind.code :=
    u8At_of_byteOf (i := 0) rfl (by cases rep.kind <;> decide)
  have hsecond : (rep.second.map Fin.val).getD 0xFF < 256 := by
    cases rep.second with
    | none => decide
    | some i => exact i.isLt.trans (by decide)
  refine ⟨rfl, ?_, ?_, u8At_of_byteOf (i := 1) rfl (rep.slot.isLt.trans (by decide)),
    u8At_of_byteOf (i := 2) rfl hsecond⟩
  · rw [hkind]
    cases rep.kind <;> rfl
  · rw [hkind]
    cases rep.kind <;> decide

/-! ### The layouts together (R175 to R178) -/

/-- A label field in the words of R177: all zeros, or a length, its characters, and zeros behind them. -/
def labelField : Label → List Byte
  | none => List.replicate 13 0
  | some cs => byteOf cs.length :: cs ++ List.replicate (12 - cs.length) 0

theorem labelBytes_eq {l : Label} (h : labelInRange l = true) : labelBytes l = labelField l := by
  cases l with
  | none => rfl
  | some cs =>
    simp only [labelInRange, Bool.and_eq_true, decide_eq_true_eq] at h
    exact labelBytes_some h.1

theorem Header.bytes_length (h : Header) : h.bytes.length = 35 := by
  simp [Header.bytes, be32, be16, signed8, labelBytes_length]

/-- The layout of a copy in use, whose label bit is clear (R178; log entry 14). -/
theorem Entry.inUse_bytes {e : Entry} (he : e.inRange = true) :
    u8At e.inUse.bytes 0 = bitOf e.enabled 0 + bitOf e.altRxKhz.isSome 1 ∧ u32At e.inUse.bytes 1 = e.rxKhz
    ∧ u32At e.inUse.bytes 5 = e.txKhz ∧ u32At e.inUse.bytes 9 = e.altRxKhz.getD 0
    ∧ u8At e.inUse.bytes 13 = e.bwClass.val ∧ s16At e.inUse.bytes 14 = e.threshold := by
  obtain ⟨hrx, htx, -, -, hthreshold, -, -⟩ := (Entry.inRange_iff e).mp he
  have halt := Entry.alt_le_of_inRange he
  exact ⟨(u8At_of_drop (i := 0) rfl).trans (entryPresence_toNat _ _ false), u32At_of_be32 (i := 1) rfl (by omega),
    u32At_of_be32 (i := 5) rfl (by omega), u32At_of_be32 (i := 9) rfl (by omega),
    u8At_of_byteOf (i := 13) rfl (by omega), s16At_of_signed16 (i := 14) (l := []) rfl (by omega) (by omega)⟩

/-- An in-range entry, put as its own bytes behind its index, is stored and answered unchanged (R92). -/
theorem exec_draftPutEntry_bytes {s : State} {p : Port} {r : Request} {i : SlotIx} {e : Entry}
    (ht : s.takes p .draftPutEntry r) (hload : (s.drafts.get p).loading = none) (he : e.inRange = true)
    (hbody : r.body = byteOf i.val :: e.bytes) :
    exec (.draftPutEntry p) s = .next (({ s.dequeue p with
      drafts := s.drafts.set p ⟨{ (s.drafts.get p).plan with
        entries := (s.drafts.get p).plan.entries.set i e }, none⟩ } : State).respond p r ⟨.ok, e.bytes⟩) := by
  have hat : e.At r.body 1 := Entry.bytes_at he (by rw [hbody]; rfl)
  have hi : u8At r.body 0 = i.val := u8At_of_byteOf hbody (i.isLt.trans (by decide))
  refine (State.take_of_takes ht onDraftPutEntry).trans ?_
  rw [onDraftPutEntry_of_accepted (s := s.dequeue p) hload (entryRefusal_of_at he hat (hi ▸ i.isLt)) hi,
    entryStored_of_at he hat, entryClamped_of_at he hat]
  rfl

/-- An in-range header, put as its own bytes, is stored and answered unchanged (R93). -/
theorem exec_draftPutHeader_bytes {s : State} {p : Port} {r : Request} {h : Header}
    (ht : s.takes p .draftPutHeader r) (hload : (s.drafts.get p).loading = none) (hh : h.inRange = true)
    (hbody : r.body = h.bytes) :
    exec (.draftPutHeader p) s = .next (({ s.dequeue p with
      drafts := s.drafts.set p ⟨{ (s.drafts.get p).plan with header := h }, none⟩ } : State).respond p r
      ⟨.ok, h.bytes⟩) := by
  have hat : h.At r.body := hbody ▸ Header.bytes_at hh
  refine (State.take_of_takes ht onDraftPutHeader).trans ?_
  rw [onDraftPutHeader_of_accepted (s := s.dequeue p) hload (headerRefusal_of_at hh hat), headerStored_of_at hh hat,
    headerClamped_of_at hh hat]
  rfl

/-- Settles O21: each field of a record is read back from the bytes written at its offset. -/
theorem recordLayouts : Obligations.RecordLayouts := by
  refine ⟨fun s p r i e => exec_draftPutEntry_bytes, fun s p r h => exec_draftPutHeader_bytes, fun e he => ?_,
    fun h hh => ?_, fun e he => ?_, fun e hseq hgen => ?_, fun s => ?_, Report.bytes_fields⟩
  · have hat : e.At e.bytes 0 := Entry.bytes_at he rfl
    obtain ⟨-, -, -, -, -, -, hlabel⟩ := (Entry.inRange_iff e).mp he
    exact ⟨e.bytes_length, hat.presence, hat.rxKhz, hat.txKhz, hat.altRxKhz, hat.bwClass, hat.priority, hat.share,
      hat.threshold, hat.reacquireLimit, hat.label.trans (labelBytes_eq hlabel)⟩
  · have hat := Header.bytes_at hh
    obtain ⟨-, -, -, -, -, -, -, -, -, hlabel⟩ := (Header.inRange_iff h).mp hh
    exact ⟨h.bytes_length, hat.presence, hat.rxCentre, hat.txCentre, hat.guardKhz, hat.ceiling, hat.rampMs, hat.holdMs,
      hat.reacquireMs, hat.levelMs, hat.leaseMs, hat.label.trans (labelBytes_eq hlabel)⟩
  · exact ⟨rfl, Entry.inUse_bytes he⟩
  · refine ⟨rfl, u32At_of_be32 (i := 0) rfl (by omega), ?_, u16At_of_be16 (i := 5) rfl (by omega),
      (u8At_of_drop (i := 7) rfl).trans (presence_toNat _ _ _ _ _ _), e.bytes_slot, e.bytes_port, rfl,
      signedOf_of_signed32 (i := 11) rfl, signedOf_of_signed32 (i := 15) rfl⟩
    rw [e.bytes_kind]
    refine ⟨e.notice.kind.code_bounds.1, e.notice.kind.causes, eventTable_code _, e.bytes_no_cause, fun c hc h => ?_⟩
    obtain ⟨hpos, -, hget⟩ := causeCode_position hc
    rw [e.bytes_cause hc h]
    exact ⟨hpos, hget⟩
  · obtain ⟨hstopped, hrunning⟩ := s.authorityView_lease
    have hlead := s.authorityView_lead
    refine ⟨rfl, fun h => ?_, fun q m h => ?_, fun h => ?_, hstopped, hrunning, u16At_of_stopped (i := 7) rfl,
      fun n => u16At_of_timer (i := 7) rfl, u16At_of_stopped (i := 9) (l := []) rfl,
      fun n => u16At_of_timer (i := 9) (l := []) rfl⟩
    · rw [h] at hlead
      exact s.authorityView_of_lead hlead
    · rw [h] at hlead
      have hbytes := s.authorityView_of_lead hlead
      cases q <;> cases m <;> exact hbytes
    · rw [h] at hlead
      exact s.authorityView_of_lead hlead

end Sys2Proof.Machine

namespace Sys2Proof.Machine

/-! ### The requests of Plan Memory (R118, R120, R121, R123, R129) -/

section MemoryRequests

variable {s : State} {p : Port} {r : Request} {pg : PageIx}

/-- A row's command with an accepted request, once its owning block's part is known. -/
theorem exec_takeCommand_of_handler {row : RequestRow} {t : State} {a : Reply} (ht : s.takes p row r)
    (h : row.handler p r (s.dequeue p) = (t, a)) : exec (takeCommand p row) s = .next (t.respond p r a) := by
  rw [exec_takeCommand, State.take_of_takes ht, h]

/-- The rows that name a page in their first byte look at it once a PAGE STORE has its selector and a PAGE STORE or
PAGE ERASE its authority (R158, R176). -/
theorem handler_of_no_page {row : RequestRow} (hrow : row ∈ [RequestRow.pageStore, .pageLoad, .pageErase])
    (hsel : row = .pageStore → u8At r.body 1 ≤ 1) (hauth : row ≠ .pageLoad → s.holder p)
    (hpg : indexOf (u8At r.body 0) = none) : row.handler p r s = (s, ⟨.badArgument, []⟩) := by
  simp only [List.mem_cons, List.not_mem_nil, or_false] at hrow
  rcases hrow with rfl | rfl | rfl
  · simp only [RequestRow.handler, onPageStore, if_neg (not_lt.mpr (hsel rfl)), hpg, refuse,
      State.authorityRefusal_of_holder (hauth nofun)]
  · simp only [RequestRow.handler, onPageLoad, hpg, refuse]
  · simp only [RequestRow.handler, onPageErase, hpg, refuse, State.authorityRefusal_of_holder (hauth nofun)]

/-- With its page named, a busy engine refuses each of them (R116, R176). -/
theorem handler_of_busy {row : RequestRow} (hrow : row ∈ [RequestRow.pageStore, .pageLoad, .pageErase])
    (hsel : row = .pageStore → u8At r.body 1 ≤ 1) (hauth : row ≠ .pageLoad → s.holder p)
    (hpg : indexOf (u8At r.body 0) = some pg) (hop : s.memory.op ≠ none) : row.handler p r s = (s, s.busyMemory) := by
  have hbusy : s.memory.op.isSome = true := Option.isSome_iff_ne_none.mpr hop
  simp only [List.mem_cons, List.not_mem_nil, or_false] at hrow
  rcases hrow with rfl | rfl | rfl
  · simp only [RequestRow.handler, onPageStore, if_neg (not_lt.mpr (hsel rfl)), hpg, if_pos hbusy,
      State.authorityRefusal_of_holder (hauth nofun)]
  · simp only [RequestRow.handler, onPageLoad, hpg, if_pos hbusy]
  · simp only [RequestRow.handler, onPageErase, hpg, if_pos hbusy, State.authorityRefusal_of_holder (hauth nofun)]

theorem onPageStore_of_accepted (hsel : u8At r.body 1 ≤ 1) (hauth : s.holder p)
    (hpg : indexOf (u8At r.body 0) = some pg) (hop : s.memory.op = none) : onPageStore p r s =
      ((s.startOp (.store pg .erase (if u8At r.body 1 = 0 then (s.drafts.get p).plan else s.ctl.active) p r.tag)).blankPage
        pg, ⟨.ok, byteOf pg.val :: be32 s.memory.pages[pg].storeCount⟩) := by
  simp [onPageStore, not_lt.mpr hsel, State.authorityRefusal_of_holder hauth, hpg, hop]

theorem onPageErase_of_accepted (hauth : s.holder p) (hpg : indexOf (u8At r.body 0) = some pg)
    (hop : s.memory.op = none) :
    onPageErase p r s = ((s.startOp (.erase pg p r.tag)).blankPage pg, ⟨.ok, []⟩) := by
  simp [onPageErase, State.authorityRefusal_of_holder hauth, hpg, hop]

/-- With the engine IDLE a PAGE LOAD goes by the page's state (R120). -/
theorem onPageLoad_of_idle (hpg : indexOf (u8At r.body 0) = some pg) (hop : s.memory.op = none) :
    (s.memory.pages[pg].state = .valid → onPageLoad p r s =
      ((s.startOp (.load pg p r.tag)).modDraft p fun d => { d with loading := some pg }, ⟨.ok, []⟩))
    ∧ (s.memory.pages[pg].state = .blank → onPageLoad p r s = (s, ⟨.pageBlank, [byteOf pg.val]⟩))
    ∧ (s.memory.pages[pg].state = .corrupt → onPageLoad p r s = (s, ⟨.pageCorrupt, [byteOf pg.val]⟩)) := by
  refine ⟨fun hst => ?_, fun hst => ?_, fun hst => ?_⟩ <;> simp [onPageLoad, hpg, hop, -Fin.getElem_fin, hst]

end MemoryRequests

/-- Settles O38: each owning block goes through its checks in the order of its rule. -/
theorem pageRequests : Obligations.PageRequests := by
  refine ⟨fun s p row r hrow ht hsel hauth hpg => ?_, fun s p r pg hbyte => ?_⟩
  · exact exec_takeCommand_of_answer ht
      (handler_of_no_page (s := s.dequeue p) hrow hsel hauth (indexOf_of_le hpg))
  have hpg : indexOf (u8At r.body 0) = some pg := by rw [hbyte, indexOf_val]
  refine ⟨fun ht hsel hauth hop => ?_, fun ht hauth hop => ?_, fun ht hop => ?_, fun row hrow ht hsel hauth hop => ?_⟩
  · exact exec_takeCommand_of_handler ht (onPageStore_of_accepted (s := s.dequeue p) hsel hauth hpg hop)
  · exact exec_takeCommand_of_handler ht (onPageErase_of_accepted (s := s.dequeue p) hauth hpg hop)
  · obtain ⟨hvalid, hblank, hcorrupt⟩ := onPageLoad_of_idle (s := s.dequeue p) (p := p) hpg hop
    exact ⟨fun hst => exec_takeCommand_of_handler ht (hvalid hst), fun hst => exec_takeCommand_of_answer ht (hblank hst),
      fun hst => exec_takeCommand_of_answer ht (hcorrupt hst)⟩
  · exact exec_takeCommand_of_answer ht (handler_of_busy (s := s.dequeue p) hrow hsel hauth hpg hop)

end Sys2Proof.Machine

namespace Sys2Proof.Machine

/-! ### BOOT SET and RELOAD (R123, R129) -/

/-- A BOOT SET names no pages when one is above 15 or the two are one (R123, R176). -/
theorem bootPages_eq_none {b : List Byte}
    (h : 15 < u8At b 0 ∨ (b.length = 2 ∧ (15 < u8At b 1 ∨ u8At b 1 = u8At b 0))) : bootPages b = none := by
  by_cases hpr : 15 < u8At b 0
  · simp only [bootPages, indexOf_of_le hpr]
  · obtain ⟨hlen, hfb⟩ := h.resolve_left hpr
    have hindex : indexOf (u8At b 0) = some ⟨u8At b 0, by omega⟩ := dif_pos (by omega)
    have hfallback : bootFallback b = some (u8At b 1) := if_pos hlen
    rcases hfb with hfb | hfb
    · simp only [bootPages, hindex, hfallback, indexOf_of_le hfb]
    · rw [hfb] at hfallback
      simp only [bootPages, hindex, hfallback, if_true]

/-- The primary, and the fallback where the body has its byte and names another page (R123, R176). -/
theorem bootPages_eq_some {b : List Byte} {pr : PageIx} {fb : Option PageIx} (hpr : u8At b 0 = pr.val)
    (h : (b.length = 1 ∧ fb = none) ∨ (b.length = 2 ∧ fb.map Fin.val = some (u8At b 1) ∧ fb ≠ some pr)) :
    bootPages b = some (pr, fb) := by
  rcases h with ⟨hlen, rfl⟩ | ⟨hlen, hval, hne⟩
  · have hfallback : bootFallback b = none := if_neg (by omega)
    simp only [bootPages, hpr, indexOf_val, hfallback]
  · obtain ⟨f, rfl, hf⟩ := Option.map_eq_some_iff.mp hval
    have hfallback : bootFallback b = some f.val := by rw [hf]; exact if_pos hlen
    have hother : f ≠ pr := fun h => hne (congrArg some h)
    simp only [bootPages, hpr, indexOf_val, hfallback, if_neg hother]

/-- The pages named are VALID. -/
theorem Memory.notValid_eq_none {m : Memory} {pr : PageIx} {fb : Option PageIx} (hpr : m.pages[pr].state = .valid)
    (hfb : ∀ f ∈ fb, m.pages[f].state = .valid) : m.notValid pr fb = none := by
  unfold Memory.notValid
  rw [if_neg (not_not.mpr hpr)]
  cases fb with
  | none => rfl
  | some f => exact if_neg (not_not.mpr (hfb f rfl))

theorem Memory.notValid_primary {m : Memory} {pr : PageIx} {fb : Option PageIx} (hpr : m.pages[pr].state ≠ .valid) :
    m.notValid pr fb = some pr := if_pos hpr

/-- The fallback counts once the primary is VALID (R123). -/
theorem Memory.notValid_fallback {m : Memory} {pr f : PageIx} (hpr : m.pages[pr].state = .valid)
    (hf : m.pages[f].state ≠ .valid) : m.notValid pr (some f) = some f :=
  (if_neg (not_not.mpr hpr)).trans (if_pos hf)

section BootSet

variable {s : State} {p : Port} {r : Request} {pr pg : PageIx} {fb : Option PageIx} (hauth : s.holder p)
include hauth

theorem onBootSet_of_no_pages (hpages : bootPages r.body = none) : onBootSet p r s = (s, ⟨.badArgument, []⟩) := by
  simp only [onBootSet, State.authorityRefusal_of_holder hauth, hpages, refuse]

theorem onBootSet_of_busy (hpages : bootPages r.body = some (pr, fb)) (hop : s.memory.op ≠ none) :
    onBootSet p r s = (s, s.busyMemory) := by
  simp only [onBootSet, State.authorityRefusal_of_holder hauth, hpages, if_pos (Option.isSome_iff_ne_none.mpr hop)]

theorem onBootSet_of_not_valid (hpages : bootPages r.body = some (pr, fb)) (hop : s.memory.op = none)
    (hpg : s.memory.notValid pr fb = some pg) :
    onBootSet p r s = (s, ⟨.pageNotValid, [byteOf pg.val, byteOf s.memory.pages[pg].state.code]⟩) := by
  simp [onBootSet, State.authorityRefusal_of_holder hauth, hpages, hop, hpg]

theorem onBootSet_of_accepted (hpages : bootPages r.body = some (pr, fb)) (hop : s.memory.op = none)
    (hvalid : s.memory.notValid pr fb = none) : onBootSet p r s =
      ((s.startOp (.bootWrite pr fb p r.tag)).modMemory fun m => { m with boot := none }, ⟨.ok, []⟩) := by
  simp [onBootSet, State.authorityRefusal_of_holder hauth, hpages, hop, hvalid]

end BootSet

section Reload

variable {s : State} {p : Port} {r : Request} (hauth : s.holder p)
include hauth

theorem onReload_of_not_ready (hctl : s.ctl.state ≠ .ready) : onReload p r s = (s, ⟨.busyPlan, s.planBody⟩) := by
  simp only [onReload, State.authorityRefusal_of_holder hauth, if_pos hctl]

theorem onReload_of_busy (hctl : s.ctl.state = .ready) (hop : s.memory.op ≠ none) :
    onReload p r s = (s, s.busyMemory) := by
  simp only [onReload, State.authorityRefusal_of_holder hauth, if_neg (not_not.mpr hctl),
    if_pos (Option.isSome_iff_ne_none.mpr hop)]

theorem onReload_of_accepted (hctl : s.ctl.state = .ready) (hop : s.memory.op = none) : onReload p r s =
    ((s.modCtl fun c => { c with state := .loading, change := some (.reload p r.tag) }).holdAlloc.startOp
      (.reloadRead .record p r.tag), ⟨.ok, be16 s.ctl.generation⟩) := by
  simp [onReload, State.authorityRefusal_of_holder hauth, hctl, hop]

end Reload

/-- Settles O39: the two blocks' checks in the order of their rules, the pages of a BOOT SET told by its body. -/
theorem bootSetAndReload : Obligations.BootSetAndReload := by
  refine ⟨fun s p r ht hauth => ⟨fun harg => ?_, fun pr fb hpr hfb => ?_⟩, fun s p r ht hauth => ?_⟩
  · exact exec_takeCommand_of_answer ht (onBootSet_of_no_pages (s := s.dequeue p) hauth (bootPages_eq_none harg))
  · have hpages : bootPages r.body = some (pr, fb) := bootPages_eq_some hpr hfb
    refine ⟨fun hop => ?_, fun hop hv hvf => ?_, fun hop hv => ?_, fun f hf hop hv hvf => ?_⟩
    · exact exec_takeCommand_of_answer ht (onBootSet_of_busy (s := s.dequeue p) hauth hpages hop)
    · exact exec_takeCommand_of_handler ht
        (onBootSet_of_accepted (s := s.dequeue p) hauth hpages hop (Memory.notValid_eq_none hv hvf))
    · exact exec_takeCommand_of_answer ht
        (onBootSet_of_not_valid (s := s.dequeue p) hauth hpages hop (Memory.notValid_primary hv))
    · obtain rfl := Option.mem_def.mp hf
      exact exec_takeCommand_of_answer ht
        (onBootSet_of_not_valid (s := s.dequeue p) hauth hpages hop (Memory.notValid_fallback hv hvf))
  · refine ⟨fun hctl hop => ?_, fun hctl => ?_, fun hctl hop => ?_⟩
    · exact exec_takeCommand_of_handler ht (onReload_of_accepted (s := s.dequeue p) hauth hctl hop)
    · exact exec_takeCommand_of_answer ht (onReload_of_not_ready (s := s.dequeue p) hauth hctl)
    · exact exec_takeCommand_of_answer ht (onReload_of_busy (s := s.dequeue p) hauth hctl hop)

/-! ### The ends of the engine's operations (R119 to R123, R126) -/

/-- An intact read of a page yields its image's record when the stored check is the record's (R120). -/
theorem Page.readRecord_eq_some_iff {x : Page} {intact : Bool} {pl : Plan} :
    x.readRecord intact = some pl ↔ intact = true ∧ x.image = some ⟨pl, crc32 pl.imageBytes⟩ := by
  unfold Page.readRecord
  rw [Option.ite_none_right_eq_some]
  refine and_congr_right fun _ => ⟨fun h => ?_, fun h => ?_⟩
  · obtain ⟨m, hm, hrecord⟩ := Option.bind_eq_some_iff.mp h
    obtain ⟨hmatch, hpl⟩ := Option.ite_none_right_eq_some.mp hrecord
    obtain rfl := Option.some.inj hpl
    rw [hm, ← m.matching_iff.mp hmatch]
  · rw [h, Option.bind_some]
    exact if_pos ((Image.matching_iff _).mpr rfl)

/-- A verify finds the snapshot with its check, read back intact (R119). -/
theorem Page.verifies_iff {x : Page} {snap : Plan} {intact : Bool} :
    x.verifies snap intact = true ↔ intact = true ∧ x.image = some ⟨snap, crc32 snap.imageBytes⟩ := by
  unfold Page.verifies
  rw [Bool.and_eq_true, Option.any_eq_true]
  refine and_congr_right fun _ => ⟨fun ⟨m, hm, h⟩ => ?_, fun h => ⟨_, h, ?_⟩⟩
  · obtain ⟨hrecord, hmatch⟩ := Bool.and_eq_true_iff.mp h
    obtain rfl := of_decide_eq_true hrecord
    rw [hm, ← m.matching_iff.mp hmatch]
  · rw [Bool.and_eq_true]
    exact ⟨decide_eq_true rfl, (Image.matching_iff _).mpr rfl⟩

section Completions

variable {s : State} {pg : PageIx} {fb : Option PageIx} {snap pl : Plan} {p : Port} {tag : Byte} {intact : Bool}
  (hreset : s.inReset = false)
include hreset

theorem exec_storeEraseDone (h : s.memory.op = some (.store pg .erase snap p tag)) : exec .storeEraseDone s =
    .next ((s.startOp (.store pg .program snap p tag)).modPage pg fun x =>
      { x with state := .corrupt, image := some snap.image, storeCount := min 16777215 (x.storeCount + 1) }) :=
  (State.running_of_not_reset hreset State.storeErased).trans (by simp only [State.storeErased, h])

theorem exec_storeProgramDone (h : s.memory.op = some (.store pg .program snap p tag)) :
    exec .storeProgramDone s = .next (s.startOp (.store pg .verify snap p tag)) :=
  (State.running_of_not_reset hreset State.storeProgrammed).trans (by simp only [State.storeProgrammed, h])

theorem exec_storeVerifyDone (h : s.memory.op = some (.store pg .verify snap p tag)) :
    exec (.storeVerifyDone intact) s = .next (if s.memory.pages[pg].verifies snap intact then
      ((s.modPage pg fun x => { x with state := .valid }).engineIdle).writeMemoryDone p tag 0 pg .ok
    else ((s.modPage pg fun x => { x with state := .corrupt }).engineIdle).writeMemoryDone p tag 0 pg .storeFailed) :=
  (State.running_of_not_reset hreset (·.storeVerified intact)).trans (by simp only [State.storeVerified, h])

theorem exec_pageEraseDone (h : s.memory.op = some (.erase pg p tag)) :
    exec .pageEraseDone s = .next (s.engineIdle.writeMemoryDone p tag 2 pg .ok) :=
  (State.running_of_not_reset hreset State.pageErased).trans (by simp only [State.pageErased, h])

theorem exec_pageLoadReadDone_of_record (h : s.memory.op = some (.load pg p tag))
    (hread : s.memory.pages[pg].readRecord intact = some pl) : exec (.pageLoadReadDone intact) s =
      .next (((s.modDraft p fun _ => ⟨pl, none⟩).engineIdle).writeMemoryDone p tag 1 pg .ok) :=
  (State.running_of_not_reset hreset (·.pageLoaded intact)).trans (by simp only [State.pageLoaded, h, hread])

theorem exec_pageLoadReadDone_of_no_record (h : s.memory.op = some (.load pg p tag))
    (hread : s.memory.pages[pg].readRecord intact = none) : exec (.pageLoadReadDone intact) s =
      .next ((((s.modDraft p fun d => { d with loading := none }).modPage pg fun x =>
        { x with state := .corrupt }).engineIdle).writeMemoryDone p tag 1 pg .pageCorrupt) :=
  (State.running_of_not_reset hreset (·.pageLoaded intact)).trans (by simp only [State.pageLoaded, h, hread])

theorem exec_bootWriteDone (h : s.memory.op = some (.bootWrite pg fb p tag)) : exec (.bootWriteDone intact) s =
    .next (if intact then
      ((s.modMemory fun m => { m with boot := some (bootImage pg fb) }).engineIdle).writeMemoryDone p tag 3 pg .ok
    else s.engineIdle.writeMemoryDone p tag 3 pg .bootFailed) :=
  (State.running_of_not_reset hreset (·.bootWritten intact)).trans (by simp only [State.bootWritten, h])

end Completions

/-- Settles O40: each completion acts on the operation in progress, a verify by what the page holds. -/
theorem storeAndErasePhases : Obligations.StoreAndErasePhases := by
  intro s pg snap p tag hreset
  refine ⟨exec_storeEraseDone hreset, exec_storeProgramDone hreset,
    fun hop => ⟨fun himage => ?_, fun intact hbad => ?_⟩, fun hop => ?_⟩
  · rw [exec_storeVerifyDone hreset hop, if_pos (Page.verifies_iff.mpr ⟨rfl, himage⟩)]
    rfl
  · have hfail : ¬ s.memory.pages[pg].verifies snap intact = true := by
      rw [Page.verifies_iff]
      rintro ⟨rfl, himage⟩
      exact hbad.elim nofun fun h => h himage
    rw [exec_storeVerifyDone hreset hop, if_neg hfail]
    rfl
  · have hsame : s.memory.pages.set pg s.memory.pages[pg] = s.memory.pages := Vector.set_getElem_self _
    rw [exec_pageEraseDone hreset hop]
    dsimp only
    rw [hsame]
    rfl

/-- Settles O41: a load's end goes by whether the page's read yields a record, a boot write's by the cells. -/
theorem loadAndBootWriteEnd : Obligations.LoadAndBootWriteEnd := by
  intro s pg fb p tag hreset
  refine ⟨fun hop => ⟨fun pl himage => ?_, fun intact hbad => ?_⟩,
    fun hop => ⟨exec_bootWriteDone hreset hop, exec_bootWriteDone hreset hop⟩⟩
  · exact exec_pageLoadReadDone_of_record hreset hop (Page.readRecord_eq_some_iff.mpr ⟨rfl, himage⟩)
  · have hread : s.memory.pages[pg].readRecord intact = none := by
      refine Option.eq_none_iff_forall_ne_some.mpr fun pl h => ?_
      obtain ⟨rfl, himage⟩ := Page.readRecord_eq_some_iff.mp h
      exact hbad.elim nofun fun h => h pl himage
    exact exec_pageLoadReadDone_of_no_record hreset hop hread

end Sys2Proof.Machine

namespace Sys2Proof.Machine

/-! ### The request table (R176) -/

section RequestTable

variable {r : Request}

/-- A CLAIM's row rests on its body (R176; log entry 11). -/
theorem requestRow_of_claim (h : r.code = 0x10) :
    requestRow r = if r.body = [1] then .claimForce else .claimNormal := by
  simp [requestRow, h]

/-- Any other code of the table names its row whatever the body. -/
theorem requestRow_of_mem {x : Nat × RequestRow × List Nat} (hx : x ∈ requestTable) (hcode : x.1 = r.code.toNat)
    (hclaim : x.1 ≠ 0x10) : requestRow r = x.2.1 := by
  unfold requestRow
  rw [← hcode]
  clear hcode
  fin_cases hx
  any_goals exact absurd rfl hclaim
  all_goals rfl

theorem requestRow_of_not_mem (h : ∀ x ∈ requestTable, x.1 ≠ r.code.toNat) : requestRow r = .unknown := by
  simp only [requestTable, List.forall_mem_cons] at h
  unfold requestRow
  split
  case h_30 => rfl
  all_goals omega

end RequestTable

theorem lengthOk_iff_of_mem {x : Nat × RequestRow × List Nat} (hx : x ∈ requestTable) (n : Nat) :
    x.2.1.lengthOk n = true ↔ n ∈ x.2.2 := by
  fin_cases hx <;> simp [RequestRow.lengthOk, Nat.lt_succ_iff]

/-! ### The engine's codes and page (R116, R175, R178) -/

theorem Memory.codes_eq (m : Memory) : (m.engineCode, m.phaseCode) = match m.op with
    | none => (0, 0)
    | some (.store _ .erase _ _ _) => (1, 1)
    | some (.store _ .program _ _ _) => (1, 2)
    | some (.store _ .verify _ _ _) => (1, 3)
    | some (.erase _ _ _) => (2, 0)
    | some (.load _ _ _) => (3, 0)
    | some (.startUpRead _) => (3, 0)
    | some (.reloadRead _ _ _) => (3, 0)
    | some (.bootWrite _ _ _ _) => (4, 0) := by
  unfold Memory.engineCode Memory.phaseCode
  rcases m.op with _ | ⟨_, _ | _ | _⟩ | _ <;> rfl

/-- A page stands for an item once the boot record has been read and names one. -/
theorem Memory.pageOfItem_eq (m : Memory) (item : ReadItem) : m.pageOfItem item = match item, readBoot m.boot with
    | .primary, some (pr, _) => some pr
    | .fallback _, some (_, fb) => fb
    | _, _ => none := by
  unfold Memory.pageOfItem
  cases item with
  | record => cases readBoot m.boot <;> rfl
  | primary => cases readBoot m.boot <;> rfl
  | fallback _ => cases readBoot m.boot <;> rfl

/-! ### The two CRCs, bit by bit (R136, R179) -/

section Crc

variable {w : Nat} (poly : BitVec w)

/-- One move of a CRC register that no bit enters, for either width and polynomial (R136, R179). -/
def crcMove (c : BitVec w) : BitVec w := if c.msb then (c <<< 1) ^^^ poly else c <<< 1

/-- One move of a CRC register as a bit enters: the polynomial is met when the bit that leaves differs from it. -/
def crcTake (c : BitVec w) (x : Bool) : BitVec w := (c <<< 1) ^^^ (if c.msb = x then 0 else poly)

theorem crc16Bit_eq : crc16Bit = crcMove 0x1021 := rfl

theorem crc32Bit_eq : crc32Bit = crcMove 0x04C11DB7 := rfl

/-- What has been added to a register enters by its first bit, and the rest of it moves up. -/
theorem crcMove_xor (c y : BitVec w) : crcMove poly (c ^^^ y) = crcTake poly c y.msb ^^^ (y <<< 1) := by
  unfold crcMove crcTake
  rw [BitVec.msb_xor, BitVec.shiftLeft_xor_distrib]
  by_cases h : c.msb = y.msb
  · simp [h]
  · have hbit : (c.msb ^^ y.msb) = true := bne_iff_ne.mpr h
    rw [if_pos hbit, if_neg h]
    ac_rfl

/-- After n moves the first n bits of what was added have entered, one after another. -/
theorem iterate_crcMove_xor (c y : BitVec w) (n : Nat) :
    (crcMove poly)^[n] (c ^^^ y) = ((List.range n).map y.getMsbD).foldl (crcTake poly) c ^^^ (y <<< n) := by
  induction n with
  | zero => simp
  | succ n ih =>
    have hbit : (y <<< n).msb = y.getMsbD n := by simp [BitVec.msb]
    rw [Function.iterate_succ_apply', ih, crcMove_xor, hbit, List.range_succ, List.map_append, List.foldl_append,
      BitVec.shiftLeft_add]
    rfl

/-- The bits of a byte, its most significant one first. -/
def byteBits (b : Byte) : List Bool := (List.range 8).map b.getMsbD

/-- A byte added at the top of a register enters bit by bit in eight moves, and nothing of it is left. -/
theorem iterate_crcMove_byte (hw : 8 ≤ w) (c : BitVec w) (b : Byte) :
    (crcMove poly)^[8] (c ^^^ (b.setWidth w <<< (w - 8))) = (byteBits b).foldl (crcTake poly) c := by
  have hgone : (b.setWidth w <<< (w - 8)) <<< 8 = 0#w := by
    rw [← BitVec.shiftLeft_add, Nat.sub_add_cancel hw, BitVec.shiftLeft_eq_zero le_rfl]
  have hbits : (List.range 8).map (b.setWidth w <<< (w - 8)).getMsbD = byteBits b := by
    refine List.map_congr_left fun i hi => ?_
    have hi : i < 8 := List.mem_range.mp hi
    have hplace : w - 1 - i - (w - 8) = 7 - i := by omega
    simp only [BitVec.getMsbD, BitVec.getLsbD_shiftLeft, BitVec.getLsbD_setWidth, hplace, hi,
      show i < w by omega, show w - 1 - i < w by omega, show ¬ w - 1 - i < w - 8 by omega, show 7 - i < w by omega]
    simp
  rw [iterate_crcMove_xor, hgone, BitVec.xor_zero, hbits]

theorem crc16_eq (bs : List Byte) : crc16 bs = (bs.flatMap byteBits).foldl (crcTake 0x1021) 0xFFFF := by
  rw [crc16, crc16Bit_eq, List.foldl_flatMap]
  congr 1
  funext c b
  exact iterate_crcMove_byte 0x1021 (by decide) c b

theorem crc32_eq (bs : List Byte) : crc32 bs = ~~~((bs.flatMap byteBits).foldl (crcTake 0x04C11DB7) 0xFFFFFFFF) := by
  rw [crc32, crc32Bit_eq, List.foldl_flatMap]
  congr 2
  funext c b
  exact iterate_crcMove_byte 0x04C11DB7 (by decide) c b

end Crc

/-! ### Page images and the boot record (R114, R179) -/

theorem Plan.imageBytes_eq (pl : Plan) :
    pl.imageBytes = pl.header.bytes ++ (List.finRange 16).flatMap fun i => pl.entries[i].bytes := by
  unfold Plan.imageBytes Plan.entryRun
  rw [← List.map_coe_finRange_eq_range, List.flatMap_map]
  rfl

theorem readBoot_of_record (pr : PageIx) (fb : Option PageIx) (c : BitVec 16) :
    readBoot (some ⟨pr, fb, c⟩) = if c = crc16 (bootBytes pr fb) then some (pr, fb) else none := by
  simp [readBoot, eq_comm]

/-- The image's length, the header's place and each entry's (R179). -/
theorem Plan.imageBytes_places (pl : Plan) : pl.imageBytes.length = 563
    ∧ ∀ i : SlotIx, (pl.imageBytes.drop (35 + 33 * i.val)).take 33 = pl.entries[i].bytes := by
  obtain ⟨hlen, -, hentries⟩ := pl.entryRun_body pl.header.bytes 0 16
  rw [Header.bytes_length] at hlen hentries
  exact ⟨hlen, fun i => hentries i i.isLt i (by omega)⟩

theorem Status.code_mem (st : Status) : (st.code, st) ∈ statusTable := by cases st <;> decide

/-- Settles O22: the tables row by row, the CRCs bit by bit, and the images as the records written one after another. -/
theorem codesAndFrames : Obligations.CodesAndFrames := by
  refine ⟨fun r => ⟨fun x hx hcode hne => requestRow_of_mem hx hcode ?_, requestRow_of_claim, requestRow_of_not_mem⟩,
    fun x hx => lengthOk_iff_of_mem hx, Status.code_mem, by decide, by decide, rfl, rfl, rfl, rfl, rfl, rfl,
    fun _ _ => rfl, rfl, Memory.codes_eq, Memory.pageOfItem_eq, fun s => ?_, fun _ => rfl,
    fun bs => ⟨crc16_eq bs, crc32_eq bs⟩, fun pl => ?_, Image.matching_iff,
    fun pr fb => ⟨rfl, fun c => ⟨rfl, readBoot_of_record pr fb c⟩⟩, rfl, rfl⟩
  · exact fun h => hne (BitVec.eq_of_toNat_eq (hcode.symm.trans h))
  · unfold State.enginePage
    cases s.memory.op with
    | none => rfl
    | some op => cases op <;> rfl
  · obtain ⟨hlen, hentries⟩ := pl.imageBytes_places
    exact ⟨rfl, pl.imageBytes_eq, hlen, pl.header.bytes_length, hentries⟩

end Sys2Proof.Machine

namespace Sys2Proof.Machine

/-! ### What a request leaves of the other port (R145, R162, R173) -/

/-- From the one ring to the other a port reads no entry: its unread count goes no lower, nor does its lost count, which
stays within its range (R169, R171). -/
structure Ring.Spares (q : Port) (r r' : Ring) : Prop where
  unread : r.unread.get q ≤ r'.unread.get q
  lost : r.lost.get q ≤ 255 → r.lost.get q ≤ r'.lost.get q ∧ r'.lost.get q ≤ 255

namespace Ring.Spares

variable {q : Port} {r r' r'' : Ring}

theorem refl (r : Ring) : r.Spares q r := ⟨le_refl _, fun h => ⟨le_refl _, h⟩⟩

theorem trans (h : r.Spares q r') (h' : r'.Spares q r'') : r.Spares q r'' where
  unread := h.unread.trans h'.unread
  lost hl := by
    obtain ⟨hle, hl'⟩ := h.lost hl
    obtain ⟨hle', hl''⟩ := h'.lost hl'
    exact ⟨hle.trans hle', hl''⟩

end Ring.Spares

theorem Ring.write_unread (r : Ring) (generation : Nat) (n : Notice) (q : Port) :
    (r.write generation n).unread.get q = unreadAfterWrite r.entries.length (r.unread.get q) := by
  cases q <;> rfl

theorem Ring.write_lost (r : Ring) (generation : Nat) (n : Notice) (q : Port) :
    (r.write generation n).lost.get q = lostAfterWrite r.entries.length (r.unread.get q) (r.lost.get q) := by
  cases q <;> rfl

/-- An event only adds to what a port has not read or has lost (R171). -/
theorem Ring.spares_write (q : Port) (r : Ring) (generation : Nat) (n : Notice) :
    r.Spares q (r.write generation n) where
  unread := by
    rw [Ring.write_unread, unreadAfterWrite]
    split <;> omega
  lost h := by
    rw [Ring.write_lost, lostAfterWrite]
    split <;> omega

theorem Ring.spares_after (q : Port) (r : Ring) (generation : Nat) (ns : List Notice) :
    r.Spares q (r.after generation ns) := by
  induction ns generalizing r with
  | nil => exact .refl r
  | cons n ns ih => exact (r.spares_write q generation n).trans (ih _)

/-- From one state to the other a port keeps its queues, transfer and counters, its draft and its cross flags, and reads
no event. -/
structure State.Spares (q : Port) (s t : State) : Prop where
  port : t.ports.get q = s.ports.get q
  draft : t.drafts.get q = s.drafts.get q
  flags : t.arbiter.flags.get q = s.arbiter.flags.get q
  ring : s.ring.Spares q t.ring

namespace State.Spares

variable {p q : Port} {s t u : State}

theorem refl (s : State) : s.Spares q s := ⟨rfl, rfl, rfl, .refl _⟩

theorem of_eq (h : t = s) : s.Spares q t := h ▸ refl t

theorem trans (h : s.Spares q t) (h' : t.Spares q u) : s.Spares q u :=
  ⟨h'.port.trans h.port, h'.draft.trans h.draft, h'.flags.trans h.flags, h.ring.trans h'.ring⟩

theorem write (h : s.Spares q t) (n : Notice) : s.Spares q (t.write n) :=
  h.trans ⟨rfl, rfl, rfl, Ring.spares_write _ _ _ _⟩

theorem of_same (hports : t.ports = s.ports) (hdrafts : t.drafts = s.drafts)
    (hflags : t.arbiter.flags = s.arbiter.flags) (hring : t.ring = s.ring) : s.Spares q t :=
  ⟨by rw [hports], by rw [hdrafts], by rw [hflags], hring ▸ .refl _⟩

/-- The slots' actions leave a port what they leave it of the ring. -/
theorem of_actsWithin (h : s.ActsWithin t) (hring : s.ring.Spares q t.ring) : s.Spares q t := by
  have hframe := h.frame
  exact ⟨by rw [hframe], by rw [hframe], by rw [hframe], hring⟩

/-! What a request does to its own port's items. -/

theorem modPort (s : State) (p : Port) (f : PortState → PortState) : s.Spares p.other (s.modPort p f) :=
  ⟨PerPort.get_set_other _ _ _, rfl, rfl, .refl _⟩

theorem modDraft (s : State) (p : Port) (f : Draft → Draft) : s.Spares p.other (s.modDraft p f) :=
  ⟨rfl, PerPort.get_set_other _ _ _, rfl, .refl _⟩

theorem setDraft (s : State) (p : Port) (pl : Plan) : s.Spares p.other (s.setDraft p pl) := modDraft s p _

theorem setFlags (s : State) (p : Port) (v : BitVec 4) :
    s.Spares p.other (s.modArbiter fun a => { a with flags := a.flags.set p v }) :=
  ⟨rfl, rfl, PerPort.get_set_other _ _ _, .refl _⟩

theorem readEvents (s : State) (p : Port) (unread lost : Nat) : s.Spares p.other
    (s.modRing fun r => { r with unread := r.unread.set p unread, lost := r.lost.set p lost }) where
  port := rfl
  draft := rfl
  flags := rfl
  ring := by
    have hunread : (s.ring.unread.set p unread).get p.other = s.ring.unread.get p.other := PerPort.get_set_other _ _ _
    have hlost : (s.ring.lost.set p lost).get p.other = s.ring.lost.get p.other := PerPort.get_set_other _ _ _
    exact ⟨hunread.ge, fun h => ⟨hlost.ge, hlost.le.trans h⟩⟩

theorem dequeue (s : State) (p : Port) : s.Spares p.other (s.dequeue p) := modPort s p _

theorem respond (s : State) (p : Port) (r : Request) (a : Reply) : s.Spares p.other (s.respond p r a) := by
  obtain ⟨lease, rs, e⟩ := s.respond_frame p r a
  rw [e]
  exact ⟨PerPort.get_set_other _ _ _, rfl, rfl, .refl _⟩

/-! The Arbiter's operations. -/

theorem renewLease (h : s.Spares q t) (p : Port) (st : Status) : s.Spares q (t.renewLease p st) := by
  unfold State.renewLease
  split
  · exact h.trans (of_same rfl rfl rfl rfl)
  · exact h

theorem writeAuthority (h : s.Spares q t) (port : Option Port) (tag : Option Byte) (cause : Cause) :
    s.Spares q (t.writeAuthority port tag cause) := h.write _

theorem takeAuthority (s : State) (p : Port) (m : Manner) : s.Spares q (s.takeAuthority p m) := of_same rfl rfl rfl rfl

theorem claimOpen (s : State) (p : Port) (tag : Byte) : s.Spares q (s.claimOpen p tag) :=
  (takeAuthority s p .claim).writeAuthority _ _ _

theorem enterContested (s : State) (p : Port) (tag : Byte) : s.Spares q (s.enterContested p tag) := by
  have hcontested : s.Spares q (s.modArbiter fun a =>
      { a with authority := .contested, lease := none, forceWindow := none, contest := some tenSeconds }) :=
    of_same rfl rfl rfl rfl
  exact hcontested.writeAuthority _ _ _

theorem giveUp (h : s.Spares q t) (p : Port) : s.Spares q (t.giveUp p) := by
  unfold State.giveUp
  split
  · exact h.trans (of_same rfl rfl rfl rfl)
  · exact h

theorem writeFlags (h : s.Spares q t) (p : Port) (tag : Option Byte) (old new : BitVec 4) (cause : Cause) :
    s.Spares q (t.writeFlags p tag old new cause) := by
  unfold State.writeFlags
  split
  · exact h
  · exact h.write _

theorem clearPort (s : State) (p : Port) : s.Spares p.other (s.clearPort p) := by
  have hcleared := (((modPort s p PortState.cleared).trans (setFlags _ p 0)).giveUp p).trans (readEvents _ p 0 0)
  unfold State.clearPort
  dsimp only
  split
  · exact (hcleared.writeAuthority _ _ _).writeFlags p _ _ _ _
  · exact hcleared.writeFlags p _ _ _ _

/-! Runs, revivals, installations, trims, drafts and the memory engine. -/

theorem startRun (h : s.Spares q t) : s.Spares q t.startRun := by
  refine h.trans (of_actsWithin (State.ActsWithin.refl t).startRun ?_)
  unfold State.startRun
  split
  · exact .refl _
  · rw [State.run_ring]
    exact Ring.spares_after _ _ _ _

theorem reviveSlot (s : State) (i : SlotIx) (port : Option Port) (tag : Option Byte) (cause : Cause) :
    s.Spares q (s.reviveSlot i port tag cause) := by
  unfold State.reviveSlot
  dsimp only
  refine State.Spares.write (State.Spares.startRun ?_) _
  exact of_same rfl rfl rfl rfl

theorem install (s : State) (pl : Plan) (c : Change) : s.Spares q (s.install pl c) := by
  have hdraining : s.ring.Spares q (s.draining pl c).ring := by
    rw [State.draining_ring]
    exact Ring.spares_after _ _ _ _
  have hheld : (s.draining pl c).alloc.held = true := by
    obtain ⟨_, _, _, _, _, _, e⟩ := s.draining_frame pl c
    rw [e]
  have hring : s.ring.Spares q (s.install pl c).ring := by
    by_cases hfall : s.MustFall pl
    · rwa [State.install_of_mustFall hfall]
    · rw [State.install_of_not_mustFall hfall, State.raise_ring hheld]
      exact hdraining.trans (Ring.spares_after _ _ _ _)
  obtain ⟨_, _, _, _, _, _, e⟩ := s.install_frame pl c
  exact ⟨by rw [e], by rw [e], by rw [e], hring⟩

theorem trimLevel (s : State) (p : Port) (tag : Byte) (i : SlotIx) (delta : Int) :
    s.Spares q (s.trimLevel p tag i delta) := by
  refine State.Spares.startRun (State.Spares.write ?_ _)
  exact of_same rfl rfl rfl rfl

theorem trimFrequency (s : State) (p : Port) (tag : Byte) (i : SlotIx) (delta : Int) :
    s.Spares q (s.trimFrequency p tag i delta) := by
  unfold State.trimFrequency
  dsimp only
  refine State.Spares.write ?_ _
  exact of_same rfl rfl rfl rfl

theorem startOp (s : State) (op : EngineOp) : s.Spares q (s.startOp op) := of_same rfl rfl rfl rfl

theorem editDraft (p : Port) {f : State → State × Reply} (hf : s.Spares q (f s).1) :
    s.Spares q (s.editDraft p f).1 := by
  unfold State.editDraft
  split
  · exact refl s
  · exact hf

/-! The owning blocks of the requests. -/

section Handlers

variable (p : Port) (r : Request) (s : State)

theorem onClaimNormal : s.Spares q (onClaimNormal p r s).1 := by
  unfold Machine.onClaimNormal State.withView
  split
  · exact refl s
  · split
    · exact claimOpen s p r.tag
    · split
      · exact (refl s).renewLease p _
      · exact refl s
    · exact refl s

theorem onClaimForce : s.Spares q (onClaimForce p r s).1 := by
  unfold Machine.onClaimForce State.withView
  split
  · exact claimOpen s p r.tag
  · exact refl s
  · split
    · exact (refl s).renewLease p _
    · split
      · exact enterContested s p r.tag
      · exact (takeAuthority s p .force).writeAuthority _ _ _

theorem onRelease : s.Spares q (onRelease p r s).1 := by
  unfold Machine.onRelease State.withView
  split
  · exact ((refl s).giveUp p).write _
  · exact refl s

theorem onFlagsWrite : s.Spares p.other (onFlagsWrite p r s).1 := by
  unfold Machine.onFlagsWrite
  split
  · exact refl s
  · exact (setFlags s p _).writeFlags p _ _ _ _

theorem onTrimLevel : s.Spares q (onTrimLevel p r s).1 := by
  unfold Machine.onTrimLevel
  split
  · exact refl s
  · dsimp only
    split
    · exact refl s
    · split
      · exact refl s
      · exact trimLevel s p r.tag _ _

theorem onTrimFrequency : s.Spares q (onTrimFrequency p r s).1 := by
  unfold Machine.onTrimFrequency
  split
  · exact refl s
  · dsimp only
    split
    · exact refl s
    · split
      · exact refl s
      · split
        · split
          · exact refl s
          · exact trimFrequency s p _ _ _
        · split
          · exact refl s
          · exact trimFrequency s p _ _ _

theorem onRevive : s.Spares q (onRevive p r s).1 := by
  unfold Machine.onRevive
  split
  · exact refl s
  · split
    · exact refl s
    · split
      · exact reviveSlot s _ _ _ _
      · exact refl s

theorem onDraftCopy : s.Spares p.other (onDraftCopy p r s).1 := by
  refine editDraft p ?_
  exact setDraft s p _

theorem onDraftClear : s.Spares p.other (onDraftClear p r s).1 := by
  refine editDraft p ?_
  exact setDraft s p _

theorem onDraftPutEntry : s.Spares p.other (onDraftPutEntry p r s).1 := by
  refine editDraft p ?_
  split
  · exact refl s
  · dsimp only
    exact modDraft s p _

theorem onDraftPutHeader : s.Spares p.other (onDraftPutHeader p r s).1 := by
  refine editDraft p ?_
  split
  · exact refl s
  · dsimp only
    exact modDraft s p _

theorem onCommit : s.Spares q (onCommit p r s).1 := by
  unfold Machine.onCommit
  split
  · exact refl s
  · dsimp only
    exact install s _ _

theorem onPageStore : s.Spares q (onPageStore p r s).1 := by
  unfold Machine.onPageStore
  repeat' split
  all_goals exact of_same rfl rfl rfl rfl

theorem onPageLoad : s.Spares p.other (onPageLoad p r s).1 := by
  unfold Machine.onPageLoad
  split
  · exact refl s
  · split
    · exact refl s
    · split
      · exact refl s
      · exact refl s
      · dsimp only
        exact (startOp s _).trans (modDraft _ p _)

theorem onPageErase : s.Spares q (onPageErase p r s).1 := by
  unfold Machine.onPageErase
  repeat' split
  all_goals exact of_same rfl rfl rfl rfl

theorem onBootSet : s.Spares q (onBootSet p r s).1 := by
  unfold Machine.onBootSet
  repeat' split
  all_goals exact of_same rfl rfl rfl rfl

theorem onReload : s.Spares q (onReload p r s).1 := by
  unfold Machine.onReload
  repeat' split
  all_goals exact of_same rfl rfl rfl rfl

theorem onCounterControl : s.Spares q (onCounterControl p r s).1 := by
  unfold Machine.onCounterControl
  dsimp only
  repeat' split
  all_goals exact of_same rfl rfl rfl rfl

theorem onCounterRead : s.Spares q (onCounterRead p r s).1 := by
  unfold Machine.onCounterRead
  dsimp only
  repeat' split
  all_goals exact of_same rfl rfl rfl rfl

theorem onEventRead : s.Spares p.other (onEventRead p r s).1 := by
  unfold Machine.onEventRead
  dsimp only
  split
  · exact refl s
  · exact readEvents s p _ _

end Handlers

end State.Spares

/-- The owning block of every row spares the other port. -/
theorem RequestRow.handler_spares (row : RequestRow) (p : Port) (r : Request) (s : State) :
    s.Spares p.other (row.handler p r s).1 := by
  cases row with
  | identify | statusRead | nop | budgetRead | bootRead | unknown => exact .refl s
  | planRead => exact .of_eq (onPlanRead_state p r s)
  | draftGet => exact .of_eq (onDraftGet_state p r s)
  | slotRead => exact .of_eq (onSlotRead_state p r s)
  | pageInfo => exact .of_eq (onPageInfo_state p r s)
  | portClear => exact .clearPort s p
  | claimNormal => exact .onClaimNormal p r s
  | claimForce => exact .onClaimForce p r s
  | release => exact .onRelease p r s
  | flagsWrite => exact .onFlagsWrite p r s
  | trimLevel => exact .onTrimLevel p r s
  | trimFrequency => exact .onTrimFrequency p r s
  | revive => exact .onRevive p r s
  | draftCopy => exact .onDraftCopy p r s
  | draftClear => exact .onDraftClear p r s
  | draftPutEntry => exact .onDraftPutEntry p r s
  | draftPutHeader => exact .onDraftPutHeader p r s
  | commit => exact .onCommit p r s
  | pageStore => exact .onPageStore p r s
  | pageLoad => exact .onPageLoad p r s
  | pageErase => exact .onPageErase p r s
  | bootSet => exact .onBootSet p r s
  | reload => exact .onReload p r s
  | counterControl => exact .onCounterControl p r s
  | counterRead => exact .onCounterRead p r s
  | eventRead => exact .onEventRead p r s

/-- A taking, whatever comes of it, spares the other port. -/
theorem exec_takeCommand_spares {p : Port} {row : RequestRow} {s t : State} (h : exec (takeCommand p row) s = .next t) :
    s.Spares p.other t := by
  rw [exec_takeCommand] at h
  rcases State.take_cases h with rfl | ⟨r, -, -, ⟨st, -, rfl⟩ | ⟨-, rfl⟩⟩
  · exact .refl _
  · exact (State.Spares.dequeue s p).trans (.respond _ p r _)
  · exact ((State.Spares.dequeue s p).trans (row.handler_spares p r _)).trans (.respond _ p r _)

theorem Ring.WellFormed.lost_le {r : Ring} (h : r.WellFormed) (q : Port) : r.lost.get q ≤ 255 := by
  obtain ⟨-, -, -, -, -, -, ha, hb⟩ := h
  exact PerPort.get_of_both (P := (· ≤ 255)) ⟨ha, hb⟩ q

/-- Settles O13: the dequeuing, the owning block and the answer each spare the other port. -/
theorem requestsLeaveTheOtherPort : Obligations.RequestsLeaveTheOtherPort := by
  intro p row s t h
  obtain ⟨hport, hdraft, hflags, hring⟩ := exec_takeCommand_spares h
  refine ⟨hport, hdraft, hflags, fun hwf => ⟨?_, hring.unread⟩⟩
  obtain ⟨hlost, -⟩ := hring.lost (hwf.lost_le p.other)
  exact hlost

end Sys2Proof.Machine

namespace Sys2Proof.Machine

/-! ### Answers, the lease and unknown codes (R140, R141, R145, R155) -/

theorem Status.success_iff (st : Status) : st.success = true ↔ st = .ok ∨ st = .okClamped := by
  cases st <;> decide

/-- The Arbiter's own test is that of R150. -/
theorem State.holds_iff (s : State) (p : Port) : s.holds p = true ↔ s.holder p := by
  unfold State.holds State.holder Authority.holder
  cases s.arbiter.authority <;> simp

/-- The lease restarts on a success of the holder alone (R155, R157). -/
theorem State.renewLease_eq (s : State) (p : Port) (st : Status) : s.renewLease p st = { s with
    arbiter := if (st = .ok ∨ st = .okClamped) ∧ s.holder p then { s.arbiter with lease := s.freshLease }
      else s.arbiter } := by
  unfold State.renewLease
  simp only [Bool.and_eq_true, Status.success_iff, State.holds_iff]
  split <;> rfl

/-- A change that leaves a port as it is leaves the state. -/
theorem State.modPort_of_fixed {s : State} {p : Port} {f : PortState → PortState}
    (h : f (s.ports.get p) = s.ports.get p) : s.modPort p f = s := by
  rw [State.modPort, h, PerPort.set_get]

/-- An answer joins the response queue, but for that of a quiet success, and renews the lease (R140, R145). -/
theorem State.respond_eq (s : State) (p : Port) (r : Request) (a : Reply) : s.respond p r a =
    (s.renewLease p a.status).modPort p fun x => { x with responses := x.responses ++
      (if r.flags = 1 ∧ (a.status = .ok ∨ a.status = .okClamped) then []
        else [⟨r.tag, r.code, a.status, a.body⟩]) } := by
  have hquiet : (r.quiet && a.status.success) = true
      ↔ r.flags = 1 ∧ (a.status = .ok ∨ a.status = .okClamped) := by
    rw [Bool.and_eq_true, Status.success_iff, Request.quiet, decide_eq_true_eq]
  unfold State.respond
  by_cases h : r.flags = 1 ∧ (a.status = .ok ∨ a.status = .okClamped)
  · simp only [if_pos h, if_pos (hquiet.mpr h), List.append_nil]
    exact (State.modPort_of_fixed rfl).symm
  · simp only [if_neg h, if_neg (mt hquiet.mp h)]

/-- Settles O16: `State.respond_eq` says what an answer does, and the unknown code is the first check on the form, whose
answer `requestTaking` gives. -/
theorem answersAndUnknownRequests : Obligations.AnswersAndUnknownRequests := by
  refine ⟨fun s p r a => ?_, fun s p r hm hrow => ?_⟩
  · rw [State.respond_eq, State.renewLease_eq]
    refine ⟨?_, ?_, PerPort.get_set_other _ _ _, rfl, rfl, rfl, rfl⟩ <;>
      simp only [State.modPort, PerPort.get_set_self]
  · obtain ⟨-, -, -, -, hform⟩ := requestTaking p .unknown s
    exact hform r hm hrow .unknownRequest (.inl ⟨hrow, rfl⟩)

end Sys2Proof.Machine

namespace Sys2Proof.Machine

/-! ### IDENTIFY, NOP and STATUS READ (R146 to R148, R178) -/

/-- A request with a known code, admitted flags and an admitted length passes the checks on its form (R141). -/
theorem formCheck_of_passes {r : Request} {row : RequestRow} (hrow : requestRow r = row) (hknown : row ≠ .unknown)
    (hflags : r.flags.toNat ≤ 1) (hlen : row.lengthOk r.body.length = true) : formCheck r = none := by
  subst hrow
  simp [formCheck, hknown, not_lt.mpr hflags, hlen]

/-- Settles O18: a NOP of admitted length passes the checks, and its block answers its body. -/
theorem nopEchoes : Obligations.NopEchoes := by
  intro s p r hm hrow hflags hlen
  have hform : formCheck r = none := formCheck_of_passes hrow nofun hflags (decide_eq_true hlen)
  exact exec_takeCommand_of_answer (row := .nop) ⟨hm, hrow, hform⟩ rfl

/-- What a STATUS READ response says before the slot states (R148, R178). -/
def State.statusLead (s : State) : List Byte :=
  [byteOf s.arbiter.authority.code, optByte (s.arbiter.authority.holder.map portCode), s.flagsByte .a, s.flagsByte .b]
    ++ be16 s.ctl.generation
    ++ [byteOf s.ctl.state.code, byteOf s.memory.engineCode, byteOf s.memory.phaseCode,
        optByte (s.enginePage.map Fin.val)]

/-- What it says behind them. -/
def State.statusTail (s : State) (p : Port) : List Byte :=
  [byteOf s.combiner.state.code] ++ be16 s.alloc.pool
    ++ be16 (s.ports.get p).badFrames ++ be16 (s.ports.get p).overruns
    ++ [byteOf (s.ring.unread.get p), byteOf (s.ring.lost.get p)]

section StatusBody

variable (s : State) (p : Port)

theorem State.statusBody_eq : s.statusBody p
    = s.statusLead ++ (allSlots.map (fun i => byteOf s.slots[i].state.code) ++ s.statusTail p) := by
  simp only [State.statusBody, State.statusLead, State.statusTail, List.append_assoc]

theorem State.statusBody_length : (s.statusBody p).length = 35 := by
  rw [State.statusBody_eq, List.length_append, List.length_append, List.length_map]
  rfl

theorem State.statusBody_slot (i : SlotIx) : (s.statusBody p)[10 + i.val]? = some (byteOf s.slots[i].state.code) := by
  have hslot : allSlots[i.val]? = some i := by fin_cases i <;> rfl
  have hlead : s.statusLead.length = 10 := rfl
  rw [State.statusBody_eq, List.getElem?_append_right (by omega), hlead, Nat.add_sub_cancel_left,
    List.getElem?_append_left (by rw [List.length_map]; exact i.isLt), List.getElem?_map, hslot]
  rfl

/-- The tail stands behind the lead and the sixteen slot states. -/
theorem State.statusBody_drop (n : Nat) : (s.statusBody p).drop (26 + n) = (s.statusTail p).drop n := by
  rw [State.statusBody_eq, ← List.append_assoc, ← List.drop_drop, List.drop_left']
  rw [List.length_append, List.length_map]
  rfl

theorem State.statusBody_lead {n : Nat} {k : Nat} (h : k + n ≤ 10) :
    ((s.statusBody p).drop k).take n = (s.statusLead.drop k).take n := by
  have hlead : s.statusLead.length = 10 := rfl
  rw [State.statusBody_eq, List.drop_append_of_le_length (by omega), List.take_append_of_le_length (by
    rw [List.length_drop]
    omega)]

end StatusBody

/-- Settles O17: both blocks answer from the state, and the bytes of STATUS READ stand in its three parts. -/
theorem identifyAndStatusRead : Obligations.IdentifyAndStatusRead := by
  refine ⟨fun s p r ht => exec_takeCommand_of_answer ht rfl, fun s p r ht => ?_⟩
  have hbody : (s.dequeue p).statusBody p = s.statusBody p := by
    simp only [State.statusBody, State.dequeue, State.modPort, PerPort.get_set_self]
    rfl
  refine ⟨s.statusBody p, ?_, s.statusBody_length p, s.statusBody_lead p (k := 0) (by decide),
    s.statusBody_lead p (by decide), s.statusBody_lead p (by decide), s.statusBody_slot p, ?_, ?_, ?_, ?_, ?_⟩
  · rw [← hbody]
    exact exec_takeCommand_of_answer ht rfl
  · rw [← List.head?_drop, s.statusBody_drop p 0]
    rfl
  · rw [s.statusBody_drop p 1]
    rfl
  · rw [s.statusBody_drop p 3]
    rfl
  · rw [s.statusBody_drop p 5]
    rfl
  · rw [s.statusBody_drop p 7]
    rfl

end Sys2Proof.Machine

namespace Sys2Proof.Machine

/-! ### PORT CLEAR (R149, R154, R163) -/

section PortClear

variable (s : State) (p : Port)

/-- A PORT CLEAR changes authority where its port holds or authority is contested (R154). -/
theorem State.gives_iff : s.gives p = true ↔ s.holder p ∨ s.arbiter.authority = .contested := by
  unfold State.gives State.holder Authority.holder
  cases s.arbiter.authority <;> simp

/-- The own items that a PORT CLEAR clears, authority standing (R149). -/
def State.ownCleared : State := { s with
  ports := s.ports.set p (s.ports.get p).cleared
  ring := { s.ring with unread := s.ring.unread.set p 0, lost := s.ring.lost.set p 0 }
  arbiter := { s.arbiter with flags := s.arbiter.flags.set p 0 } }

variable {s p}

/-- Whether authority is given up goes by the authority state alone (R154). -/
theorem State.giveUp_of_gives (h : s.gives p = true) {u : State} (hu : u.arbiter.authority = s.arbiter.authority) :
    u.giveUp p = u.modArbiter Arbiter.toOpen :=
  if_pos (by rwa [State.gives, hu])

theorem State.giveUp_of_not_gives (h : ¬ s.gives p = true) {u : State}
    (hu : u.arbiter.authority = s.arbiter.authority) : u.giveUp p = u :=
  if_neg (by rwa [State.gives, hu])

/-- Where authority is given up, the AUTHORITY event names OPEN and no holder (R160). -/
theorem State.clearPort_of_gives (h : s.gives p = true) : s.clearPort p =
    (({ s.ownCleared p with arbiter := ⟨.open, none, none, none, s.arbiter.flags.set p 0⟩ } : State).write
      { kind := .authority, port := some p, value1 := some 0, cause := some .clear }).writeFlags p none
      (s.arbiter.flags.get p) 0 .clear := by
  unfold State.clearPort
  dsimp only
  rw [if_pos h, State.giveUp_of_gives h]
  · rfl
  · rfl

theorem State.clearPort_of_not_gives (h : ¬ s.gives p = true) :
    s.clearPort p = (s.ownCleared p).writeFlags p none (s.arbiter.flags.get p) 0 .clear := by
  unfold State.clearPort
  dsimp only
  rw [if_neg h, State.giveUp_of_not_gives h]
  · rfl
  · rfl

end PortClear

/-- Settles O24: the own items are cleared in each case of authority, and the FLAGS event follows. -/
theorem portClearClears : Obligations.PortClearClears := by
  intro s p r ht gives s1 s2 s3
  have hgives : (s.dequeue p).gives p = true ↔ gives := State.gives_iff _ p
  have hown : (s.dequeue p).ownCleared p
      = { s1 with arbiter := { s.arbiter with flags := s.arbiter.flags.set p 0 } } := by
    simp only [State.ownCleared, State.dequeue, State.modPort, PerPort.get_set_self, PerPort.set_set]
    rfl
  have hclear : (s.dequeue p).clearPort p = s3 := by
    by_cases h : gives
    · rw [State.clearPort_of_gives (hgives.mpr h), hown]
      simp only [s3, s2, s1, if_pos h]
      rfl
    · rw [State.clearPort_of_not_gives (mt hgives.mp h), hown]
      simp only [s3, s2, s1, if_neg h]
      rfl
  exact hclear ▸ exec_takeCommand_of_handler ht rfl

end Sys2Proof.Machine

namespace Sys2Proof.Machine

/-! ### Transfers and request frames, port by port (R133 to R138) -/

namespace PortState

variable {x : PortState} {f : Frame} {n : Nat}

theorem start_of_hunting (htransfer : x.inTransfer = true) (h : x.receive = .hunting) :
    x.start = { x with receive := .receiving } :=
  if_pos (by simp [htransfer, h])

theorem start_of_not_hunting (h : x.inTransfer = true → x.receive ≠ .hunting) : x.start = x :=
  if_neg (by simpa using h)

/-- The frame still at the head leaves the queue with its last byte (R134). -/
theorem shiftedOut_of_atHead (htransfer : x.inTransfer = true) (hframe : x.frame ≠ none) (h : x.frameAtHead = true) :
    x.shiftedOut = { x with responses := x.responses.tail, frameAtHead := false } :=
  if_pos (by simp [htransfer, Option.isSome_iff_ne_none.mpr hframe, h])

theorem shiftedOut_of_not_atHead (h : x.inTransfer = true → x.frameAtHead = false) : x.shiftedOut = x :=
  if_neg (by
    simp only [Bool.and_eq_true, not_and, Bool.not_eq_true]
    exact fun ⟨htransfer, _⟩ => h htransfer)

/-- The end of a transfer discards the frame still being received (R135, R137). -/
theorem finish_of_inTransfer (h : x.inTransfer = true) :
    x.finish = { (if x.receive = .receiving then x.discardBad else x) with
      select := false, inTransfer := false, receive := .hunting, frame := none, frameAtHead := false } := by
  simp [finish, h]

theorem finish_of_not_inTransfer (h : x.inTransfer = false) :
    x.finish = { x with
      select := false, inTransfer := false, receive := .hunting, frame := none, frameAtHead := false } := by
  simp [finish, h]

/-- The check of a request frame (R136, R175). -/
theorem frameGood_iff (f : Frame) :
    frameGood f = true ↔ crc16 (f.tag :: f.code :: f.flags :: (be16 f.body.length ++ f.body)) = f.crc :=
  decide_eq_true_iff

/-- A good frame joins the request queue, or is counted where the queue is full (R138). -/
theorem complete_of_good (htransfer : x.inTransfer = true) (h : x.receive = .receiving) (hlen : f.body.length ≤ 256)
    (hgood : frameGood f = true) : x.complete f = { x with receive := .ignoring }.offer f := by
  simp [complete, htransfer, h, hlen, hgood]

/-- A frame whose CRC-16 does not match is discarded (R137). -/
theorem complete_of_bad (htransfer : x.inTransfer = true) (h : x.receive = .receiving) (hbad : ¬ frameGood f = true) :
    x.complete f = { x with receive := .ignoring }.discardBad := by
  simp [complete, htransfer, h, hbad]

theorem complete_of_not_receiving (h : x.inTransfer = false ∨ x.receive ≠ .receiving) : x.complete f = x :=
  if_neg (by simpa [imp_iff_not_or] using h)

theorem tooLong_of_receiving (htransfer : x.inTransfer = true) (h : x.receive = .receiving) (hlen : 256 < n) :
    x.tooLong n = { x.discardBad with receive := .ignoring } :=
  if_pos (by simp [htransfer, h, hlen])

theorem tooLong_of_not_receiving (h : x.inTransfer = false ∨ x.receive ≠ .receiving) : x.tooLong n = x :=
  if_neg (by
    simp only [Bool.and_eq_true, decide_eq_true_eq]
    rintro ⟨⟨htransfer, hreceiving⟩, -⟩
    exact h.elim (fun hidle => absurd (hidle.symm.trans htransfer) nofun) (absurd hreceiving))

end PortState

section Commands

variable {s : State} {p : Port} (hr : s.inReset = false)
include hr

/-- Outside a reset a command of the line acts on its port. -/
theorem State.running_modPort {f : PortState → PortState} {y : PortState} (h : f (s.ports.get p) = y) :
    (s.running fun s => s.modPort p f) = .next { s with ports := s.ports.set p y } := by
  rw [State.running_of_not_reset hr, State.modPort, h]

theorem State.running_modPort_of_fixed {f : PortState → PortState} (h : f (s.ports.get p) = s.ports.get p) :
    (s.running fun s => s.modPort p f) = .next s := by
  rw [State.running_of_not_reset hr, State.modPort_of_fixed h]

theorem execTransferBegin_of_deselected (h : (s.ports.get p).select = false) :
    execTransferBegin p s = .next { s with ports := s.ports.set p (s.ports.get p).begin } := by
  simp only [execTransferBegin, State.modPort, h, hr, Bool.false_eq_true, if_false]

theorem execTransferEnd_of_selected (h : (s.ports.get p).select = true) :
    execTransferEnd p s = .next { s with ports := s.ports.set p (s.ports.get p).finish } := by
  simp only [execTransferEnd, State.modPort, h, hr, Bool.not_true, Bool.false_eq_true, if_false]

end Commands

/-- A select that already stands so changes nothing (log entry 3). -/
theorem execTransferBegin_of_selected {s : State} {p : Port} (h : (s.ports.get p).select = true) :
    execTransferBegin p s = .next s :=
  congrArg Host.Outcome.next (State.modPort_of_fixed (if_pos h))

theorem execTransferEnd_of_deselected {s : State} {p : Port} (h : (s.ports.get p).select = false) :
    execTransferEnd p s = .next s :=
  congrArg Host.Outcome.next (State.modPort_of_fixed (if_pos (by rw [h]; rfl)))

/-- Settles O58: each command acts on its port alone, as the port's own operation says. -/
theorem transfersAndRequestFrames : Obligations.TransfersAndRequestFrames := by
  refine ⟨fun s p hr => ?_, fun s p f n hr => ?_⟩
  · refine ⟨execTransferBegin_of_deselected hr, fun ht h => ?_, fun _ h => ?_, fun ht hf h => ?_, fun _ h => ?_,
      fun hs ht => ?_, fun hs ht => ?_, execTransferBegin_of_selected, execTransferEnd_of_deselected,
      fun ht => ⟨?_, ?_⟩⟩
    · exact State.running_modPort hr (PortState.start_of_hunting ht h)
    · exact State.running_modPort_of_fixed hr (PortState.start_of_not_hunting fun _ => h)
    · exact State.running_modPort hr (PortState.shiftedOut_of_atHead ht hf h)
    · exact State.running_modPort_of_fixed hr (PortState.shiftedOut_of_not_atHead fun _ => h)
    · exact (execTransferEnd_of_selected hr hs).trans (by rw [PortState.finish_of_inTransfer ht]; rfl)
    · exact (execTransferEnd_of_selected hr hs).trans (by rw [PortState.finish_of_not_inTransfer ht])
    · exact State.running_modPort_of_fixed hr
        (PortState.start_of_not_hunting fun h => absurd (ht.symm.trans h) nofun)
    · exact State.running_modPort_of_fixed hr
        (PortState.shiftedOut_of_not_atHead fun h => absurd (ht.symm.trans h) nofun)
  · refine ⟨fun ht h hlen => ⟨fun hsum hroom => ?_, fun hsum hfull => ?_, fun hsum => ?_⟩, fun ht h hlen => ?_,
      fun h => ⟨?_, ?_⟩⟩
    · refine State.running_modPort hr ?_
      rw [PortState.complete_of_good ht h hlen ((PortState.frameGood_iff f).mpr hsum)]
      exact if_pos hroom
    · refine State.running_modPort hr ?_
      rw [PortState.complete_of_good ht h hlen ((PortState.frameGood_iff f).mpr hsum)]
      exact if_neg (not_lt.mpr hfull)
    · exact State.running_modPort hr (PortState.complete_of_bad ht h (mt (PortState.frameGood_iff f).mp hsum))
    · exact State.running_modPort hr (PortState.tooLong_of_receiving ht h hlen)
    · exact State.running_modPort_of_fixed hr (PortState.complete_of_not_receiving h)
    · exact State.running_modPort_of_fixed hr (PortState.tooLong_of_not_receiving h)

end Sys2Proof.Machine

namespace Sys2Proof.Machine

/-! ### CLAIM (R151, R152, R155) -/

/-- An owning block that answers with the authority view (R151, R154). -/
theorem exec_takeCommand_of_view {s t : State} {p : Port} {row : RequestRow} {r : Request} {st : Status}
    (ht : s.takes p row r) (h : row.handler p r (s.dequeue p) = t.withView st) :
    exec (takeCommand p row) s = .next (t.respond p r ⟨st, t.authorityView⟩) :=
  exec_takeCommand_of_handler ht h

/-- A port holds in HELD alone, by some manner (R150). -/
theorem State.holder_iff {s : State} {p : Port} : s.holder p ↔ ∃ m, s.arbiter.authority = .held p m := by
  unfold State.holder Authority.holder
  cases s.arbiter.authority <;> simp

theorem Port.other_ne (p : Port) : p.other ≠ p := by
  cases p <;> decide

/-- Ten seconds in sample periods. -/
theorem tenSeconds_eq : tenSeconds = 1600000000 := rfl

/-- The holder's own success renews its lease (R155). -/
theorem State.renewLease_of_holder {s : State} {p : Port} (h : s.holder p) :
    s.renewLease p .ok = { s with arbiter := { s.arbiter with lease := s.freshLease } } := by
  rw [State.renewLease_eq, if_pos ⟨.inl rfl, h⟩]

/-- A claim of OPEN authority starts the lease, and its AUTHORITY event names the taker (R151, R155, R160). -/
theorem State.claimOpen_eq (s : State) (p : Port) (tag : Byte) : s.claimOpen p tag =
    ({ s with arbiter := ⟨.held p .claim, none, s.freshLease, none, s.arbiter.flags⟩ } : State).write
      { kind := .authority, port := some p, tag := some tag, value1 := some 1, value2 := some (portCode p),
        cause := some .claim } := rfl

/-- A CLAIM of either mode that no selector check refuses (R151, R152, R176). -/
def RequestRow.ClaimsBy (row : RequestRow) (r : Request) : Prop :=
  row = .claimNormal ∧ u8At r.body 0 = 0 ∨ row = .claimForce

section Claim

variable {s : State} {p : Port} {r : Request}

/-- What CLAIM NORMAL does in each authority state, past the check of its mode byte (R151). -/
theorem onClaimNormal_of_mode (hmode : u8At r.body 0 = 0) :
    onClaimNormal p r s = match s.arbiter.authority with
      | .open => (s.claimOpen p r.tag).withView .ok
      | .held q _ => if q = p then (s.renewLease p .ok).withView .ok else s.withView .heldByOther
      | .contested => s.withView .contested :=
  if_neg (by omega)

section EitherMode

variable {row : RequestRow} (hrow : row.ClaimsBy r)
include hrow

/-- Either mode takes authority that is OPEN, by the manner CLAIM (R151, R152). -/
theorem claim_of_open (h : s.arbiter.authority = .open) : row.handler p r s =
    (({ s with arbiter := ⟨.held p .claim, none, s.freshLease, none, s.arbiter.flags⟩ } : State).write
      { kind := .authority, port := some p, tag := some r.tag, value1 := some 1, value2 := some (portCode p),
        cause := some .claim }).withView .ok := by
  rw [← State.claimOpen_eq]
  rcases hrow with ⟨rfl, hmode⟩ | rfl
  · simp only [RequestRow.handler, onClaimNormal_of_mode hmode, h]
  · simp only [RequestRow.handler, onClaimForce, h]

/-- Either mode renews the lease of the holder (R151, R152, R155). -/
theorem claim_of_holder (h : s.holder p) : row.handler p r s =
    ({ s with arbiter := { s.arbiter with lease := s.freshLease } } : State).withView .ok := by
  obtain ⟨m, hheld⟩ := State.holder_iff.mp h
  rw [← State.renewLease_of_holder h]
  rcases hrow with ⟨rfl, hmode⟩ | rfl
  · simp only [RequestRow.handler, onClaimNormal_of_mode hmode, hheld, if_true]
  · simp only [RequestRow.handler, onClaimForce, hheld, if_true]

/-- Either mode leaves a contest as it is (R151 to R153). -/
theorem claim_of_contested (h : s.arbiter.authority = .contested) : row.handler p r s = s.withView .contested := by
  rcases hrow with ⟨rfl, hmode⟩ | rfl
  · simp only [RequestRow.handler, onClaimNormal_of_mode hmode, h]
  · simp only [RequestRow.handler, onClaimForce, h]

end EitherMode

/-- CLAIM NORMAL takes nothing from the other port (R151). -/
theorem onClaimNormal_of_other (hmode : u8At r.body 0 = 0) (h : s.holder p.other) :
    onClaimNormal p r s = s.withView .heldByOther := by
  obtain ⟨m, hheld⟩ := State.holder_iff.mp h
  simp only [onClaimNormal_of_mode hmode, hheld, if_neg (Port.other_ne p)]

/-- What CLAIM FORCE makes of the other port's authority goes by that port's taking (R152). -/
theorem onClaimForce_of_other {m : Manner} (h : s.arbiter.authority = .held p.other m) : onClaimForce p r s =
    if m = .force && s.arbiter.forceWindow.isSome then (s.enterContested p r.tag).withView .contested
    else ((s.takeAuthority p .force).writeAuthority (some p) (some r.tag) .force).withView .ok := by
  simp only [onClaimForce, h, if_neg (Port.other_ne p)]

/-- CLAIM FORCE takes authority from the other port, whose own force window does not run (R152). -/
theorem onClaimForce_of_no_window {m : Manner} (h : s.arbiter.authority = .held p.other m)
    (hwindow : m = .claim ∨ s.arbiter.forceWindow = none) : onClaimForce p r s =
    (({ s with arbiter := ⟨.held p .force, some 1600000000, s.freshLease, none, s.arbiter.flags⟩ } : State).write
      { kind := .authority, port := some p, tag := some r.tag, value1 := some 1, value2 := some (portCode p),
        cause := some .force }).withView .ok := by
  have hstopped : ¬ (m = .force && s.arbiter.forceWindow.isSome) = true := by
    rcases hwindow with rfl | hwindow
    · simp
    · simp [hwindow]
  rw [onClaimForce_of_other h, if_neg hstopped, ← tenSeconds_eq]
  rfl

/-- CLAIM FORCE against the other port's running force window contests authority (R152, R153). -/
theorem onClaimForce_of_window (h : s.arbiter.authority = .held p.other .force)
    (hwindow : s.arbiter.forceWindow ≠ none) : onClaimForce p r s =
    (({ s with arbiter := ⟨.contested, none, none, some 1600000000, s.arbiter.flags⟩ } : State).write
      { kind := .authority, port := some p, tag := some r.tag, value1 := some 2,
        cause := some .contest }).withView .contested := by
  have hruns : (Manner.force = .force && s.arbiter.forceWindow.isSome) = true := Option.isSome_iff_ne_none.mpr hwindow
  rw [onClaimForce_of_other h, if_pos hruns, ← tenSeconds_eq]
  rfl

end Claim

/-- Settles O26: in OPEN, for the holder and in CONTESTED a force acts as either mode does; the other port's force
window decides the rest. -/
theorem claimForce : Obligations.ClaimForce := by
  intro s p r ht
  have hrow : RequestRow.claimForce.ClaimsBy r := .inr rfl
  refine ⟨fun h => ?_, fun h => ?_, fun h => ?_, fun m h hwindow => ?_, fun h hwindow => ?_⟩
  · exact exec_takeCommand_of_view ht (claim_of_open hrow h)
  · exact exec_takeCommand_of_view ht (claim_of_holder hrow h)
  · exact exec_takeCommand_of_view ht (claim_of_contested hrow h)
  · exact exec_takeCommand_of_view ht (onClaimForce_of_no_window h hwindow)
  · exact exec_takeCommand_of_view ht (onClaimForce_of_window h hwindow)

/-- Settles O25: what either mode does, and the answer where the other port holds. -/
theorem claimNormal : Obligations.ClaimNormal := by
  intro s p r ht hmode
  have hrow : RequestRow.claimNormal.ClaimsBy r := .inl ⟨rfl, hmode⟩
  refine ⟨fun h => ?_, fun h => ?_, fun h => ?_, fun h => ?_⟩
  · exact exec_takeCommand_of_view ht (claim_of_open hrow h)
  · exact exec_takeCommand_of_view ht (claim_of_holder hrow h)
  · exact exec_takeCommand_of_view ht (onClaimNormal_of_other hmode h)
  · exact exec_takeCommand_of_view ht (claim_of_contested hrow h)

end Sys2Proof.Machine

namespace Sys2Proof.Machine

/-! ### RELEASE and FLAGS WRITE (R154, R162, R163) -/

section ReleaseAndFlags

variable {s : State} {p : Port} {r : Request}

/-- A RELEASE changes nothing where the other port holds or authority is OPEN (R154). -/
theorem State.not_gives_of_other_or_open (h : s.holder p.other ∨ s.arbiter.authority = .open) : ¬ s.gives p = true := by
  rw [State.gives_iff]
  rcases h with h | h
  · obtain ⟨m, hheld⟩ := State.holder_iff.mp h
    simp [State.holder, Authority.holder, hheld, Port.other_ne p]
  · simp [State.holder, Authority.holder, h]

/-- The AUTHORITY event of a RELEASE names OPEN and no holder (R154, R160). -/
theorem onRelease_of_gives (h : s.gives p = true) : onRelease p r s =
    (({ s with arbiter := ⟨.open, none, none, none, s.arbiter.flags⟩ } : State).write
      { kind := .authority, port := some p, tag := some r.tag, value1 := some 0,
        cause := some .release }).withView .ok := by
  rw [onRelease, if_pos h, State.giveUp_of_gives h rfl]
  rfl

theorem onRelease_of_not_gives (h : ¬ s.gives p = true) : onRelease p r s = s.withView .notAuthority := if_neg h

/-- A body with one of bits 4 to 7 set (R176). -/
theorem onFlagsWrite_of_high_bits (h : 16 ≤ u8At r.body 0) : onFlagsWrite p r s = (s, ⟨.badArgument, []⟩) := if_pos h

/-- The flags that a body names take the place of the own port's, and both ports' flags are answered (R162, R163). -/
theorem onFlagsWrite_of_flags {f : BitVec 4} (h : u8At r.body 0 = f.toNat) : onFlagsWrite p r s =
    (({ s with arbiter := { s.arbiter with flags := s.arbiter.flags.set p f } } : State).writeFlags p (some r.tag)
        (s.arbiter.flags.get p) f .write,
      ⟨.ok, [((s.arbiter.flags.set p f).get .a).setWidth 8, ((s.arbiter.flags.set p f).get .b).setWidth 8]⟩) := by
  have hlow : ¬ 16 ≤ f.toNat := not_le.mpr f.isLt
  have hnew : BitVec.ofNat 4 f.toNat = f := by rw [BitVec.ofNat_toNat, BitVec.setWidth_eq]
  simp only [onFlagsWrite, h, if_neg hlow, hnew, State.flagsByte, State.writeFlags_arbiter]
  rfl

end ReleaseAndFlags

/-- Settles O27: whether a RELEASE changes authority goes by `State.gives`, and FLAGS WRITE by its body. -/
theorem releaseAndFlagsWrite : Obligations.ReleaseAndFlagsWrite := by
  refine ⟨fun s p r ht => ⟨fun h => ?_, fun h => ?_⟩, fun s p r ht => ⟨fun h => ?_, fun f h => ?_⟩⟩
  · exact exec_takeCommand_of_view ht (onRelease_of_gives (s := s.dequeue p) ((State.gives_iff _ p).mpr h))
  · exact exec_takeCommand_of_view ht
      (onRelease_of_not_gives (s := s.dequeue p) (State.not_gives_of_other_or_open h))
  · exact exec_takeCommand_of_answer ht (onFlagsWrite_of_high_bits h)
  · exact exec_takeCommand_of_handler ht (onFlagsWrite_of_flags (s := s.dequeue p) h)

/-! ### The Arbiter's timers run out (R150, R153, R156, R160) -/

section TimersRunOut

variable {s : State}

/-- The AUTHORITY event of an expiry: OPEN, no holder, and the port that lost authority (R156, R160). -/
theorem State.opened_eq (s : State) (port : Option Port) (cause : Cause) :
    (s.modArbiter Arbiter.toOpen).writeAuthority port none cause
      = ({ s with arbiter := ⟨.open, none, none, none, s.arbiter.flags⟩ } : State).write
        { kind := .authority, port := port, value1 := some 0, cause := some cause } := rfl

theorem State.lapse_of_held {q : Port} {m : Manner} (h : s.arbiter.authority = .held q m) :
    s.lapse = (s.modArbiter Arbiter.toOpen).writeAuthority (some q) none .lapse := by
  simp only [State.lapse, h]

/-- Outside a reset the running lease lapses (R156). -/
theorem execLeaseExpiry_of_runs (hr : s.inReset = false) (hlease : s.arbiter.lease ≠ none) :
    execLeaseExpiry s = .next s.lapse := by
  rw [execLeaseExpiry, State.running_of_not_reset hr, if_pos (Option.isSome_iff_ne_none.mpr hlease)]

/-- Outside a reset the running contest timer ends the contest (R153). -/
theorem execContestTimerExpiry_of_runs (hr : s.inReset = false) (h : s.arbiter.authority = .contested)
    (hcontest : s.arbiter.contest ≠ none) : execContestTimerExpiry s
      = .next ((s.modArbiter Arbiter.toOpen).writeAuthority none none .contestEnd) := by
  rw [execContestTimerExpiry, State.running_of_not_reset hr,
    if_pos (by simp [h, Option.isSome_iff_ne_none, hcontest])]

/-- Outside a reset the force window stops, and nothing else changes (R150). -/
theorem execForceWindowExpiry_of_not_reset (hr : s.inReset = false) :
    execForceWindowExpiry s = .next { s with arbiter := { s.arbiter with forceWindow := none } } := by
  rw [execForceWindowExpiry, State.running_of_not_reset hr, State.modArbiter]

end TimersRunOut

/-- Settles O29: the first two open authority with their event, and the force window alone stops in the third. -/
theorem authorityTimersRunOut : Obligations.AuthorityTimersRunOut := by
  refine fun s hr => ⟨fun q m h hlease => ?_, fun h hcontest => ?_, ?_⟩
  · rw [← State.opened_eq, ← State.lapse_of_held h]
    exact execLeaseExpiry_of_runs hr hlease
  · rw [← State.opened_eq]
    exact execContestTimerExpiry_of_runs hr h hcontest
  · exact execForceWindowExpiry_of_not_reset hr

end Sys2Proof.Machine

namespace Sys2Proof.Machine

/-! ### What becomes of the ring (R169 to R171, R173) -/

/-- What becomes of a ring: events are written to it, a port moves its read position on and clears its lost count, and a
device reset empties it. -/
inductive Ring.Becomes (r : Ring) : Ring → Prop
  | refl : r.Becomes r
  | write {r' : Ring} (h : r.Becomes r') (generation : Nat) (n : Notice) : r.Becomes (r'.write generation n)
  | read {r' : Ring} (h : r.Becomes r') (p : Port) {left : Nat} (hleft : left ≤ r'.unread.get p) :
    r.Becomes { r' with unread := r'.unread.set p left, lost := r'.lost.set p 0 }
  | reset : r.Becomes .reset

theorem Ring.Becomes.after {r r' : Ring} (h : r.Becomes r') (generation : Nat) (ns : List Notice) :
    r.Becomes (r'.after generation ns) := by
  induction ns generalizing r' with
  | nil => exact h
  | cons n ns ih => exact ih (h.write generation n)

/-- The entries of a ring within its size after an event: the newest 63, and the event's. -/
theorem Ring.write_entries {r : Ring} (h : r.entries.length ≤ 64) (generation : Nat) (n : Notice) :
    (r.write generation n).entries
      = r.entries.drop (r.entries.length - 63) ++ [⟨nextSequence r.sequence, generation, n⟩] := by
  unfold Ring.write
  dsimp only
  split
  · rw [show r.entries.length - 63 = 1 by omega, List.drop_one]
  · rw [show r.entries.length - 63 = 0 by omega, List.drop_zero]

theorem Ring.WellFormed.length_le {r : Ring} (h : r.WellFormed) : r.entries.length ≤ 64 := by
  obtain ⟨hlen, -⟩ := h
  exact hlen

theorem Ring.WellFormed.unread_le {r : Ring} (h : r.WellFormed) (p : Port) : r.unread.get p ≤ r.entries.length := by
  obtain ⟨-, -, -, -, ha, hb, -, -⟩ := h
  exact PerPort.get_of_both (P := (· ≤ r.entries.length)) ⟨ha, hb⟩ p

theorem nextSequence_le {n : Nat} (h : n ≤ 4294967295) : nextSequence n ≤ 4294967295 := by
  unfold nextSequence
  split <;> omega

/-- The unread count stays within the entries, of which a ring of 64 gains none. -/
theorem unreadAfterWrite_le {held unread : Nat} (hheld : held ≤ 64) (h : unread ≤ held) :
    unreadAfterWrite held unread ≤ held - (held - 63) + 1 := by
  simp only [unreadAfterWrite, Bool.and_eq_true, decide_eq_true_eq]
  split <;> omega

theorem lostAfterWrite_le {held unread lost : Nat} (h : lost ≤ 255) : lostAfterWrite held unread lost ≤ 255 := by
  unfold lostAfterWrite
  split <;> omega

/-- An event follows the newest entry that it leaves. -/
theorem Ring.WellFormed.chain_write {r : Ring} (h : r.WellFormed) (generation : Nat) (n : Notice) :
    (r.write generation n).entries.IsChain Event.Follows := by
  obtain ⟨hlen, hchain, hlast, -⟩ := h
  rw [Ring.write_entries hlen]
  refine (hchain.drop _).append (.singleton _) fun x hx y hy => ?_
  obtain rfl : y = ⟨nextSequence r.sequence, generation, n⟩ := by simpa using hy.symm
  have hx' : x ∈ r.entries.getLast? := by
    rw [List.getLast?_drop] at hx
    split at hx
    · cases hx
    · exact hx
  exact congrArg nextSequence (hlast x hx').symm

/-- A ring that takes an event stays well formed. -/
theorem Ring.WellFormed.write {r : Ring} (h : r.WellFormed) (generation : Nat) (n : Notice) :
    (r.write generation n).WellFormed := by
  have hlen := h.length_le
  have hentries := Ring.write_entries hlen generation n
  have hlength : (r.write generation n).entries.length = r.entries.length - (r.entries.length - 63) + 1 := by
    rw [hentries, List.length_append, List.length_drop, List.length_singleton]
  have hunread (p : Port) : (r.write generation n).unread.get p ≤ (r.write generation n).entries.length := by
    rw [hlength, Ring.write_unread]
    exact unreadAfterWrite_le hlen (h.unread_le p)
  have hlost (p : Port) : (r.write generation n).lost.get p ≤ 255 := by
    rw [Ring.write_lost]
    exact lostAfterWrite_le (h.lost_le p)
  have hlast : ∀ e ∈ (r.write generation n).entries.getLast?, e.sequence = (r.write generation n).sequence := by
    intro e he
    rw [hentries, List.getLast?_concat, Option.mem_some] at he
    exact he ▸ rfl
  have hchain := h.chain_write generation n
  obtain ⟨-, -, -, hseq, -⟩ := h
  exact ⟨by omega, hchain, hlast, nextSequence_le hseq, hunread .a, hunread .b, hlost .a, hlost .b⟩

/-- A port that reads leaves the ring well formed. -/
theorem Ring.WellFormed.read {r : Ring} (h : r.WellFormed) (p : Port) {left : Nat} (hleft : left ≤ r.unread.get p) :
    Ring.WellFormed { r with unread := r.unread.set p left, lost := r.lost.set p 0 } := by
  have hle := hleft.trans (h.unread_le p)
  obtain ⟨hlen, hchain, hlast, hseq, hunreadA, hunreadB, hlostA, hlostB⟩ := h
  obtain ⟨hunreadA', hunreadB'⟩ :=
    PerPort.forall_set (P := (· ≤ r.entries.length)) ⟨hunreadA, hunreadB⟩ p hle
  obtain ⟨hlostA', hlostB'⟩ := PerPort.forall_set (P := (· ≤ 255)) ⟨hlostA, hlostB⟩ p (Nat.zero_le _)
  exact ⟨hlen, hchain, hlast, hseq, hunreadA', hunreadB', hlostA', hlostB'⟩

theorem Ring.reset_wellFormed : Ring.reset.WellFormed := by
  simp [Ring.WellFormed, Ring.reset]

theorem Ring.Becomes.wellFormed {r r' : Ring} (h : r.Becomes r') (hr : r.WellFormed) : r'.WellFormed := by
  induction h with
  | refl => exact hr
  | write _ generation n ih => exact ih.write generation n
  | read _ p hleft ih => exact ih.read p hleft
  | reset => exact Ring.reset_wellFormed

/-! ### What the operations write to the ring -/

/-- What becomes of the ring from the one state to the other. -/
def State.Logs (s t : State) : Prop := s.ring.Becomes t.ring

namespace State.Logs

variable {s t u : State}

theorem refl (s : State) : s.Logs s := Ring.Becomes.refl

/-- A change of other blocks. -/
theorem others (h : s.Logs t) (hring : u.ring = t.ring) : s.Logs u := by
  unfold State.Logs
  rw [hring]
  exact h

theorem of_ring (hring : t.ring = s.ring) : s.Logs t := (refl s).others hring

theorem modSlot (h : s.Logs t) (i : SlotIx) (f : Slot → Slot) : s.Logs (t.modSlot i f) := h.others rfl

theorem write (h : s.Logs t) (n : Notice) : s.Logs (t.write n) := Ring.Becomes.write h _ n

theorem writeOpt (h : s.Logs t) (n : Option Notice) : s.Logs (t.writeOpt n) := by
  cases n with
  | none => exact h
  | some n => exact h.write n

theorem after (h : s.Logs t) {generation : Nat} {ns : List Notice} (hring : u.ring = t.ring.after generation ns) :
    s.Logs u := by
  unfold State.Logs
  rw [hring]
  exact Ring.Becomes.after h generation ns

/-! Counters, sources and runs. -/

theorem noticeHigh (h : s.Logs t) (n : Nat) (i : Option SlotIx) (code : Nat) : s.Logs (t.noticeHigh n i code) := by
  unfold State.noticeHigh
  split
  · exact h.write _
  · exact h

theorem count (h : s.Logs t) (k : SlotKind) (i : SlotIx) : s.Logs (t.count k i) := by
  unfold State.count
  split
  · exact (h.others (by rfl)).noticeHigh _ _ _
  · exact h

theorem countOverload (h : s.Logs t) : s.Logs t.countOverload := by
  unfold State.countOverload
  split
  · exact (h.others (by rfl)).noticeHigh _ _ _
  · exact h

theorem countClip (h : s.Logs t) : s.Logs t.countClip := by
  unfold State.countClip
  split
  · exact (h.others (by rfl)).noticeHigh _ _ _
  · exact h

theorem flipSource (h : s.Logs t) (i : SlotIx) (cause : Cause) : s.Logs (t.flipSource i cause) := by
  unfold State.flipSource
  split
  · exact ((h.count _ _).write _).others rfl
  · exact h

theorem run (h : s.Logs t) (raise : Bool) : s.Logs (t.run raise) := h.after (t.run_ring raise)

theorem startRun (h : s.Logs t) : s.Logs t.startRun := by
  unfold State.startRun
  split
  · exact h.others rfl
  · exact h.run _

theorem releaseWithRaise (h : s.Logs t) : s.Logs t.releaseWithRaise := by
  unfold State.releaseWithRaise
  split
  · exact (h.others (by rfl)).run _
  · exact h

theorem releaseWithoutRaise (h : s.Logs t) : s.Logs t.releaseWithoutRaise := by
  unfold State.releaseWithoutRaise
  dsimp only
  split
  · split
    · exact (h.others (by rfl)).run _
    · exact h.others rfl
  · exact h

/-! Transitions of a slot. -/

theorem enterDeferred (h : s.Logs t) (i : SlotIx) (cause : Cause) : s.Logs (t.enterDeferred i cause) := by
  unfold State.enterDeferred
  exact (h.others (by rfl)).write _

theorem loseCarrier (h : s.Logs t) (i : SlotIx) (cause : Cause) : s.Logs (t.loseCarrier i cause) := by
  unfold State.loseCarrier
  exact ((((h.modSlot i _).count .losses i).write _).flipSource i .loss).modSlot i _

theorem enterFailed (h : s.Logs t) (i : SlotIx) : s.Logs (t.enterFailed i) := by
  unfold State.enterFailed
  exact ((h.others (by rfl)).write _).startRun

theorem reviveSlot (h : s.Logs t) (i : SlotIx) (port : Option Port) (tag : Option Byte) (cause : Cause) :
    s.Logs (t.reviveSlot i port tag cause) := by
  unfold State.reviveSlot
  exact (h.others (by rfl)).startRun.write _

theorem attempt (h : s.Logs t) (i : SlotIx) : s.Logs (t.attempt i) := by
  unfold State.attempt
  dsimp only
  split
  · exact ((h.modSlot i _).count .attempts i).enterFailed i
  · exact (((h.modSlot i _).count .attempts i).flipSource i _).modSlot i _

/-! Raising and the installation of a plan. -/

theorem raiseSlots (h : s.Logs t) (l : List SlotIx) : s.Logs (t.raiseSlots l) := by
  unfold State.raiseSlots
  exact (foldl_keeps s.Logs State.raiseOrder (fun _ _ hu => hu.others rfl) l t h).releaseWithRaise

theorem raiseIfDrained (h : s.Logs t) : s.Logs t.raiseIfDrained := by
  unfold State.raiseIfDrained State.raise
  split
  · exact (((h.others (u := t.inRaising) rfl).raiseSlots _).others (by rfl)).writeOpt _
  · exact h

theorem install (h : s.Logs t) (pl : Plan) (c : Change) : s.Logs (t.install pl c) :=
  (h.after (State.draining_ring)).raiseIfDrained

theorem completeFall (h : s.Logs t) (i : SlotIx) : s.Logs (t.completeFall i) := by
  unfold State.completeFall
  split
  · exact (h.others (by rfl)).enterDeferred i _
  all_goals
    dsimp only
    split
    · exact (h.others (by rfl)).raiseIfDrained
    · exact h.others rfl

/-! The level interval. -/

theorem levelLoop (h : s.Logs t) (i : SlotIx) (level : Int) : s.Logs (t.levelLoop i level) := by
  unfold State.levelLoop
  dsimp only
  split
  · exact h.count _ _
  · exact h.others rfl

theorem carrierAbsentOn (h : s.Logs t) (i : SlotIx) : s.Logs (t.carrierAbsentOn i) := by
  unfold State.carrierAbsentOn
  split
  · exact h.loseCarrier i _
  · exact h.others rfl

theorem regain (h : s.Logs t) (i : SlotIx) : s.Logs (t.regain i) := by
  unfold State.regain
  split
  · exact (h.others (by rfl)).write _
  · exact h.enterDeferred i _

theorem act (h : s.Logs t) (i : SlotIx) (level : Int) : s.Logs (t.act i level) := by
  unfold State.act
  dsimp only
  split
  · split
    · exact h.levelLoop i level
    · exact h.carrierAbsentOn i
  · split
    · exact (h.others (by rfl)).count _ _
    · exact h
  · split
    · exact h
    · exact (h.count _ _).loseCarrier i _
  · split
    · exact h.regain i
    · exact h
  all_goals exact h

theorem takeMeasurement (h : s.Logs t) (i : SlotIx) (m : Option (Int × Source)) : s.Logs (t.takeMeasurement i m) := by
  unfold State.takeMeasurement
  split
  · exact h
  · split
    · exact h.act i _
    · exact h

theorem changePool (h : s.Logs t) (new : Nat) (n : Option Notice) : s.Logs (t.changePool new n) := by
  unfold State.changePool
  split
  · exact h
  · exact ((h.others (by rfl)).writeOpt n).startRun

theorem onOverloaded (h : s.Logs t) : s.Logs t.onOverloaded := by
  unfold State.onOverloaded
  split
  · exact (h.others (by rfl)).changePool _ _
  · exact h.others rfl

theorem judgeInterval (h : s.Logs t) : s.Logs t.judgeInterval := by
  have hjudged : s.Logs (if t.overloaded then t.countOverload.onOverloaded else t.onClean) := by
    split
    · exact h.countOverload.onOverloaded
    · exact (h.others (by rfl)).changePool _ _
  unfold State.judgeInterval
  dsimp only
  split
  · split
    · exact hjudged.countClip.others rfl
    · exact hjudged.others rfl
  all_goals exact h.others rfl

theorem holdOut (h : s.Logs t) (i : SlotIx) : s.Logs (t.holdOut i) := by
  unfold State.holdOut
  split
  · exact h.loseCarrier i _
  · exact h

theorem reacquireOut (h : s.Logs t) (i : SlotIx) : s.Logs (t.reacquireOut i) := by
  unfold State.reacquireOut
  split
  · exact h.attempt i
  · exact h

theorem turn (h : s.Logs t) (ms : PerSlot (Option (Int × Source))) (a : Turn) : s.Logs (t.turn ms a) := by
  cases a with
  | judge i => exact h.takeMeasurement i _
  | combiner => exact h.judgeInterval
  | holdOut i => exact h.holdOut i
  | reacquireOut i => exact h.reacquireOut i

theorem expireInterval (h : s.Logs t) (order : List Turn) : s.Logs (t.expireInterval order) :=
  foldl_keeps s.Logs _ (fun _ a hu => hu.turn _ a) _ t.measure (h.others rfl)

/-! Authority and PORT CLEAR. -/

/-- A port moves its read position on and clears its lost count (R149, R173). -/
theorem read (h : s.Logs t) (p : Port) {left : Nat} (hleft : left ≤ t.ring.unread.get p) : s.Logs
    (t.modRing fun r => { r with unread := r.unread.set p left, lost := r.lost.set p 0 }) :=
  Ring.Becomes.read h p hleft

theorem giveUp (h : s.Logs t) (p : Port) : s.Logs (t.giveUp p) := by
  unfold State.giveUp
  split
  · exact h.others rfl
  · exact h

theorem writeFlags (h : s.Logs t) (p : Port) (tag : Option Byte) (old new : BitVec 4) (cause : Cause) :
    s.Logs (t.writeFlags p tag old new cause) := by
  unfold State.writeFlags
  split
  · exact h
  · exact h.write _

theorem clearPort (s : State) (p : Port) : s.Logs (s.clearPort p) := by
  have hflags : s.Logs ((s.modPort p PortState.cleared).modArbiter fun a => { a with flags := a.flags.set p 0 }) :=
    of_ring rfl
  have hcleared := (hflags.giveUp p).read p (Nat.zero_le _)
  unfold State.clearPort
  dsimp only
  split
  · exact (hcleared.write _).writeFlags p _ _ _ _
  · exact hcleared.writeFlags p _ _ _ _

theorem renewLease (h : s.Logs t) (p : Port) (st : Status) : s.Logs (t.renewLease p st) := by
  unfold State.renewLease
  split
  · exact h.others rfl
  · exact h

theorem respond (h : s.Logs t) (p : Port) (r : Request) (a : Reply) : s.Logs (t.respond p r a) := by
  obtain ⟨lease, rs, e⟩ := t.respond_frame p r a
  rw [e]
  exact h.others rfl

theorem lapse (s : State) : s.Logs s.lapse := by
  unfold State.lapse
  split
  · exact (of_ring (by rfl)).write _
  all_goals exact refl s

theorem interlockOn (h : s.Logs t) : s.Logs t.interlockOn := by
  unfold State.interlockOn
  split
  iterate 2 exact (h.others (by rfl)).write _
  exact h

theorem interlockOff (h : s.Logs t) : s.Logs t.interlockOff := by
  unfold State.interlockOff
  split
  · exact (h.others (by rfl)).write _
  all_goals exact h

/-! The memory engine. -/

theorem storeErased (s : State) : s.Logs s.storeErased := by
  unfold State.storeErased
  split
  · exact of_ring rfl
  · exact refl s

theorem storeProgrammed (s : State) : s.Logs s.storeProgrammed := by
  unfold State.storeProgrammed
  split
  · exact of_ring rfl
  · exact refl s

theorem storeVerified (s : State) (intact : Bool) : s.Logs (s.storeVerified intact) := by
  unfold State.storeVerified
  split
  · split <;> exact (of_ring (by rfl)).write _
  · exact refl s

theorem pageErased (s : State) : s.Logs s.pageErased := by
  unfold State.pageErased
  split
  · exact (of_ring (by rfl)).write _
  · exact refl s

theorem pageLoaded (s : State) (intact : Bool) : s.Logs (s.pageLoaded intact) := by
  unfold State.pageLoaded
  split
  · split <;> exact (of_ring (by rfl)).write _
  · exact refl s

theorem bootWritten (s : State) (intact : Bool) : s.Logs (s.bootWritten intact) := by
  unfold State.bootWritten
  split
  · split <;> exact (of_ring (by rfl)).write _
  · exact refl s

theorem startUpEnd (s : State) (x y : Bool) : s.Logs (s.startUpEnd x y) := by
  have hread (o : BootOutcome) : s.Logs (s.endRead o) := of_ring rfl
  rcases s.startUpEnd_cases x y with e | ⟨item, o, -, ⟨pl, -, e⟩ | e⟩ <;> rw [e]
  · exact refl s
  · exact ((((hread o).others (u := (s.endRead o).activated pl) rfl).raiseSlots allSlots).others (by rfl)).write _
  · exact ((hread o).releaseWithoutRaise.others (by rfl)).write _

theorem reloadEnd (s : State) (x y : Bool) : s.Logs (s.reloadEnd x y) := by
  have hread (o : BootOutcome) : s.Logs (s.endRead o) := of_ring rfl
  rcases s.reloadEnd_cases x y with e | ⟨item, p, tag, o, -, ⟨pl, -, e⟩ | e⟩ <;> rw [e]
  · exact refl s
  · exact (hread o).install pl _
  · exact ((hread o).others (by rfl)).releaseWithoutRaise.write _

/-! The owning blocks of the requests. -/

section Handlers

variable (p : Port) (r : Request) (s : State)

theorem onClaimNormal : s.Logs (onClaimNormal p r s).1 := by
  unfold Machine.onClaimNormal State.withView
  split
  · exact refl s
  · split
    · exact (of_ring (by rfl)).write _
    · split
      · exact (refl s).renewLease p _
      · exact refl s
    · exact refl s

theorem onClaimForce : s.Logs (onClaimForce p r s).1 := by
  unfold Machine.onClaimForce State.withView
  split
  · exact (of_ring (by rfl)).write _
  · exact refl s
  · split
    · exact (refl s).renewLease p _
    · split <;> exact (of_ring (by rfl)).write _

theorem onRelease : s.Logs (onRelease p r s).1 := by
  unfold Machine.onRelease State.withView
  split
  · exact ((refl s).giveUp p).write _
  · exact refl s

theorem onFlagsWrite : s.Logs (onFlagsWrite p r s).1 := by
  unfold Machine.onFlagsWrite
  split
  · exact refl s
  · exact (of_ring (by rfl)).writeFlags p _ _ _ _

theorem onTrimLevel : s.Logs (onTrimLevel p r s).1 := by
  unfold Machine.onTrimLevel
  split
  · exact refl s
  · dsimp only
    split
    · exact refl s
    · split
      · exact refl s
      · exact ((of_ring (by rfl)).write _).startRun

theorem trimFrequency (tag : Byte) (i : SlotIx) (delta : Int) : s.Logs (s.trimFrequency p tag i delta) :=
  (of_ring (by rfl)).write _

theorem onTrimFrequency : s.Logs (onTrimFrequency p r s).1 := by
  unfold Machine.onTrimFrequency
  split
  · exact refl s
  · dsimp only
    split
    · exact refl s
    · split
      · exact refl s
      · split
        · split
          · exact refl s
          · exact trimFrequency p s _ _ _
        · split
          · exact refl s
          · exact trimFrequency p s _ _ _

theorem onRevive : s.Logs (onRevive p r s).1 := by
  unfold Machine.onRevive
  split
  · exact refl s
  · split
    · exact refl s
    · split
      · exact (refl s).reviveSlot _ _ _ _
      · exact refl s

theorem editDraft {f : State → State × Reply} (hf : s.Logs (f s).1) : s.Logs (s.editDraft p f).1 := by
  unfold State.editDraft
  split
  · exact refl s
  · exact hf

theorem onDraftPutEntry : s.Logs (onDraftPutEntry p r s).1 := by
  refine editDraft p s ?_
  split <;> exact of_ring rfl

theorem onDraftPutHeader : s.Logs (onDraftPutHeader p r s).1 := by
  refine editDraft p s ?_
  split <;> exact of_ring rfl

theorem onCommit : s.Logs (onCommit p r s).1 := by
  unfold Machine.onCommit
  split
  · exact refl s
  · dsimp only
    exact (refl s).install _ _

theorem onPageStore : s.Logs (onPageStore p r s).1 := by
  unfold Machine.onPageStore
  repeat' split
  all_goals exact of_ring rfl

theorem onPageLoad : s.Logs (onPageLoad p r s).1 := by
  unfold Machine.onPageLoad
  repeat' split
  all_goals exact of_ring rfl

theorem onPageErase : s.Logs (onPageErase p r s).1 := by
  unfold Machine.onPageErase
  repeat' split
  all_goals exact of_ring rfl

theorem onBootSet : s.Logs (onBootSet p r s).1 := by
  unfold Machine.onBootSet
  repeat' split
  all_goals exact of_ring rfl

theorem onReload : s.Logs (onReload p r s).1 := by
  unfold Machine.onReload
  repeat' split
  all_goals exact of_ring rfl

theorem onCounterControl : s.Logs (onCounterControl p r s).1 := by
  unfold Machine.onCounterControl
  dsimp only
  repeat' split
  all_goals exact of_ring rfl

theorem onCounterRead : s.Logs (onCounterRead p r s).1 := by
  unfold Machine.onCounterRead
  dsimp only
  repeat' split
  all_goals exact of_ring rfl

/-- A port reads no more than it has unread (R173). -/
theorem onEventRead : s.Logs (onEventRead p r s).1 := by
  unfold Machine.onEventRead
  dsimp only
  split
  · exact refl s
  · exact (refl s).read p (Nat.sub_le _ _)

end Handlers

end State.Logs

theorem RequestRow.handler_logs (row : RequestRow) (p : Port) (r : Request) (s : State) :
    s.Logs (row.handler p r s).1 := by
  cases row with
  | identify | statusRead | nop | budgetRead | bootRead | unknown => exact .refl s
  | planRead => exact .of_ring (congrArg State.ring (onPlanRead_state p r s))
  | draftGet => exact .of_ring (congrArg State.ring (onDraftGet_state p r s))
  | slotRead => exact .of_ring (congrArg State.ring (onSlotRead_state p r s))
  | pageInfo => exact .of_ring (congrArg State.ring (onPageInfo_state p r s))
  | portClear => exact .clearPort s p
  | claimNormal => exact .onClaimNormal p r s
  | claimForce => exact .onClaimForce p r s
  | release => exact .onRelease p r s
  | flagsWrite => exact .onFlagsWrite p r s
  | trimLevel => exact .onTrimLevel p r s
  | trimFrequency => exact .onTrimFrequency p r s
  | revive => exact .onRevive p r s
  | draftCopy => exact .editDraft p s (.of_ring rfl)
  | draftClear => exact .editDraft p s (.of_ring rfl)
  | draftPutEntry => exact .onDraftPutEntry p r s
  | draftPutHeader => exact .onDraftPutHeader p r s
  | commit => exact .onCommit p r s
  | pageStore => exact .onPageStore p r s
  | pageLoad => exact .onPageLoad p r s
  | pageErase => exact .onPageErase p r s
  | bootSet => exact .onBootSet p r s
  | reload => exact .onReload p r s
  | counterControl => exact .onCounterControl p r s
  | counterRead => exact .onCounterRead p r s
  | eventRead => exact .onEventRead p r s

/-! ### What a command and a step make of the ring -/

section Commands

variable {s t : State}

theorem State.take_logs {p : Port} {row : RequestRow} (h : s.take p row row.handler = .next t) : s.Logs t := by
  rcases State.take_cases h with rfl | ⟨r, -, -, ⟨st, -, rfl⟩ | ⟨-, rfl⟩⟩
  · exact .refl _
  · exact (State.Logs.of_ring (by rfl)).respond p r _
  · exact (row.handler_logs p r (s.dequeue p)).respond p r _

theorem State.running_logs {f : State → State} (hf : s.Logs (f s)) (h : s.running f = .next t) : s.Logs t := by
  rcases State.running_cases h with rfl | ⟨-, rfl⟩
  · exact .refl _
  · exact hf

theorem execResetEnd_logs (h : execResetEnd s = .next t) : s.Logs t := by
  rw [← Host.Outcome.next.inj h]
  split
  · exact .of_ring rfl
  · exact .refl s

theorem execInterlockAsserted_logs (h : execInterlockAsserted s = .next t) : s.Logs t := by
  rw [← Host.Outcome.next.inj h]
  split_ifs
  · exact .refl s
  · exact .of_ring rfl
  · exact (State.Logs.of_ring (by rfl)).interlockOn

theorem execInterlockReleased_logs (h : execInterlockReleased s = .next t) : s.Logs t := by
  rw [← Host.Outcome.next.inj h]
  split_ifs
  · exact .refl s
  · exact .of_ring rfl
  · exact (State.Logs.of_ring (by rfl)).interlockOff

/-- All that a command makes of the ring: it writes events to it, a port reads it, or a device reset empties it. -/
theorem exec_logs {c : Instr} (h : exec c s = .next t) : s.Logs t := by
  have hs := State.Logs.refl s
  cases c with
  | deviceReset cause => exact Host.Outcome.next.inj h ▸ Ring.Becomes.reset
  | resetEnd => exact execResetEnd_logs h
  | interlockAsserted => exact execInterlockAsserted_logs h
  | interlockReleased => exact execInterlockReleased_logs h
  | transferBegin p => exact Host.Outcome.next.inj h ▸ .of_ring rfl
  | transferEnd p => exact Host.Outcome.next.inj h ▸ .of_ring rfl
  | requestFrame p f => exact State.running_logs (f := fun s => s.modPort p _) (.of_ring rfl) h
  | bodyLengthAbove256 p n => exact State.running_logs (f := fun s => s.modPort p _) (.of_ring rfl) h
  | responseShiftedOut p => exact State.running_logs (f := fun s => s.modPort p _) (.of_ring rfl) h
  | startByte p => exact State.running_logs (f := fun s => s.modPort p _) (.of_ring rfl) h
  | identify p | statusRead p | nop p | portClear p | claimNormal p | claimForce p | release p | flagsWrite p
  | planRead p | trimLevel p | trimFrequency p | slotRead p | revive p | budgetRead p | draftCopy p | draftPutEntry p
  | draftPutHeader p | draftClear p | draftGet p | commit p | pageStore p | pageLoad p | pageErase p | pageInfo p
  | bootSet p | bootRead p | reload p | counterControl p | counterRead p | eventRead p | unknownRequest p =>
    exact State.take_logs h
  | levelIntervalExpiry order =>
    exact State.running_logs (f := fun s => s.expireInterval order) (hs.expireInterval order) h
  | settlingComplete i => exact State.running_logs (f := fun s => s.modExtraction i _) (.of_ring rfl) h
  | holdTimerExpiry i => exact State.running_logs (f := fun s => s.holdOut i) (hs.holdOut i) h
  | reacquireTimerExpiry i => exact State.running_logs (f := fun s => s.reacquireOut i) (hs.reacquireOut i) h
  | riseCompletion i => exact State.running_logs (f := fun s => s.completeRise i) (.of_ring rfl) h
  | fallCompletion i =>
    refine State.running_logs ?_ h
    split
    · exact hs.completeFall i
    · exact hs
  | resumingRampCompletion =>
    refine State.running_logs ?_ h
    split
    · exact (hs.others (by rfl)).write _
    · exact hs
  | leaseExpiry =>
    refine State.running_logs ?_ h
    split
    · exact .lapse s
    · exact hs
  | contestTimerExpiry =>
    refine State.running_logs ?_ h
    split
    · exact (hs.others (by rfl)).write _
    · exact hs
  | forceWindowExpiry => exact State.running_logs (f := fun s => s.modArbiter _) (.of_ring rfl) h
  | storeEraseDone => exact State.running_logs (.storeErased s) h
  | storeProgramDone => exact State.running_logs (.storeProgrammed s) h
  | storeVerifyDone intact =>
    exact State.running_logs (f := fun s => s.storeVerified intact) (.storeVerified s intact) h
  | pageEraseDone => exact State.running_logs (.pageErased s) h
  | pageLoadReadDone intact => exact State.running_logs (f := fun s => s.pageLoaded intact) (.pageLoaded s intact) h
  | bootWriteDone intact => exact State.running_logs (f := fun s => s.bootWritten intact) (.bootWritten s intact) h
  | startUpReadEnd x y => exact State.running_logs (f := fun s => s.startUpEnd x y) (.startUpEnd s x y) h
  | reloadReadEnd x y => exact State.running_logs (f := fun s => s.reloadEnd x y) (.reloadEnd s x y) h

/-- What the part does by itself leaves the ring. -/
theorem State.idle_ring (s : State) : s.idle.ring = s.ring := by
  unfold State.idle
  split
  · rfl
  · split <;> rfl

theorem step_logs (h : step s = .next t) : s.Logs t := by
  rcases step_cases h with ⟨-, rfl⟩ | ⟨c, rest, -, hc⟩
  · exact .of_ring s.idle_ring
  · exact exec_logs (s := { s with pending := rest }) hc

end Commands

/-- Settles O10: a step makes of the ring what events, a port's reading or a reset make of it, and each keeps it well
formed. -/
theorem stepKeepsRingWellFormed : Obligations.StepKeepsRingWellFormed :=
  fun _ _ hring h => (step_logs h).wellFormed hring

end Sys2Proof.Machine

namespace Sys2Proof.Machine

/-! ### The counters (R164 to R166) -/

theorem CounterBank.counting_of_on {c : CounterBank} {code : Nat} (hon : c.enable = true)
    (hmask : c.mask.getLsbD code = false) : c.counting code = true := by
  simp only [CounterBank.counting, hon, hmask, Bool.not_false, Bool.and_self]

theorem CounterBank.not_counting_of_off {c : CounterBank} {code : Nat}
    (h : c.enable = false ∨ c.mask.getLsbD code = true) : ¬ c.counting code = true := by
  unfold CounterBank.counting
  rcases h with h | h <;> simp [h]

/-- The replaced counter reads what it was given, and the others as before. -/
theorem SlotCounters.get_put (c : SlotCounters) (k j : SlotKind) (n : Nat) :
    (c.put k n).get j = if j = k then n else c.get j := by
  cases k <;> cases j <;> rfl

/-- Settles O46: a counter adds 1 with the wrap of `wrap16` and gives the notice of `State.noticeHigh`, where its kind
counts. -/
theorem counterCounts : Obligations.CounterCounts := by
  refine ⟨fun s k i => ⟨fun hon hmask => ?_, fun hoff => ?_⟩, fun s => ⟨fun hon hmask => ?_, fun hoff => ?_,
    fun hon hmask => ?_, fun hoff => ?_⟩, rfl,
    fun c k n => ⟨rfl, (c.get_put k k n).trans (if_pos rfl), fun j hj => (c.get_put k j n).trans (if_neg hj)⟩⟩
  · exact if_pos (CounterBank.counting_of_on hon hmask)
  · exact if_neg (CounterBank.not_counting_of_off hoff)
  · exact if_pos (CounterBank.counting_of_on hon hmask)
  · exact if_neg (CounterBank.not_counting_of_off hoff)
  · exact if_pos (CounterBank.counting_of_on hon hmask)
  · exact if_neg (CounterBank.not_counting_of_off hoff)

/-! ### The ring takes an event (R170, R171) -/

/-- A port that has read some entry of the ring gains one unread and loses none. -/
theorem Ring.write_of_unread_lt {r : Ring} {p : Port} (hlen : r.unread.get p < 64)
    (hle : r.entries.length ≤ 64) (generation : Nat) (n : Notice) :
    (r.write generation n).unread.get p = r.unread.get p + 1 ∧ (r.write generation n).lost.get p = r.lost.get p := by
  have hkept : ¬ (64 ≤ r.entries.length && r.entries.length ≤ r.unread.get p) = true := by
    simp only [Bool.and_eq_true, decide_eq_true_eq]
    omega
  rw [Ring.write_unread, Ring.write_lost]
  exact ⟨if_neg hkept, if_neg hkept⟩

/-- A port that has read none of 64 loses the oldest. -/
theorem Ring.write_of_unread_full {r : Ring} {p : Port} (hunread : r.unread.get p = 64)
    (hlen : r.entries.length = 64) (generation : Nat) (n : Notice) :
    (r.write generation n).unread.get p = 64 ∧ (r.write generation n).lost.get p = min 255 (r.lost.get p + 1) := by
  have hlost : (64 ≤ r.entries.length && r.entries.length ≤ r.unread.get p) = true := by
    rw [hunread, hlen]
    rfl
  rw [Ring.write_unread, Ring.write_lost]
  exact ⟨(if_pos hlost).trans hunread, if_pos hlost⟩

/-- Settles O45: what a write makes of the entries, and of a port's counts by whether it has read any of 64 entries. -/
theorem ringTakesAnEvent : Obligations.RingTakesAnEvent := by
  intro s n h
  have hle := h.length_le
  refine ⟨rfl, Ring.write_entries hle _ n, fun p => ⟨fun hp => ?_, fun hp => ?_⟩, rfl⟩
  · have hunread := h.unread_le p
    exact Ring.write_of_unread_full hp (by omega) _ n
  · exact Ring.write_of_unread_lt hp hle _ n

end Sys2Proof.Machine

namespace Sys2Proof.Machine

/-! ### COUNTER CONTROL, COUNTER READ and EVENT READ (R167, R168, R173) -/

section CounterRequests

variable {s : State} {p : Port} {r : Request}

/-- The holder's COUNTER CONTROL replaces enable and mask (R167). -/
theorem onCounterControl_of_holder (hsel : u8At r.body 0 ≤ 1) (hh : s.holder p) : onCounterControl p r s
    = ({ s with counters := { s.counters with enable := u8At r.body 0 = 1, mask := r.body.getD 1 0 } },
      ⟨.ok, [if u8At r.body 0 = 1 then 1 else 0, r.body.getD 1 0]⟩) := by
  simp only [onCounterControl, if_neg (not_lt.mpr hsel), State.authorityRefusal_of_holder hh, flagByte,
    decide_eq_true_eq]
  rfl

/-- A COUNTER READ passes its authority check where the holder asks for the clear, or nobody does (R158). -/
theorem clearRefusal_of_holder (hh : u8At r.body 1 = 1 → s.holder p) :
    (if u8At r.body 1 = 1 then s.authorityRefusal p else none) = none := by
  split
  · exact State.authorityRefusal_of_holder (hh ‹_›)
  · rfl

/-- What a COUNTER READ reads of a slot, and the bank it leaves (R168). -/
theorem CounterBank.read_slot (c : CounterBank) {target : Nat} {i : SlotIx} (h : target = i.val) (clear : Bool) :
    c.read target clear
      = some (if clear then { c with slots := c.slots.set i ⟨0, 0, 0, 0, 0, 0⟩ } else c, c.slots[i].bytes) := by
  simp only [CounterBank.read, h, indexOf_val]

/-- What it reads of the composite. -/
theorem CounterBank.read_composite (c : CounterBank) {target : Nat} (h : target = 16) (clear : Bool) :
    c.read target clear
      = some (if clear then { c with overload := 0, clip := 0 } else c, be16 c.overload ++ be16 c.clip) := by
  subst h
  rfl

/-- Above 16 there is no target. -/
theorem CounterBank.read_of_lt (c : CounterBank) {target : Nat} (h : 16 < target) (clear : Bool) :
    c.read target clear = none := by
  simp only [CounterBank.read, indexOf_of_le (Nat.lt_of_succ_lt h), if_neg h.ne']

/-- Past its selector and its authority a COUNTER READ goes by what the bank reads (R158, R168). -/
theorem onCounterRead_of_read (hsel : u8At r.body 1 ≤ 1) (hh : u8At r.body 1 = 1 → s.holder p) {c : CounterBank}
    {bs : List Byte} (hread : s.counters.read (u8At r.body 0) (u8At r.body 1 = 1) = some (c, bs)) : onCounterRead p r s
    = ({ s with counters := c }, ⟨.ok, [byteOf (u8At r.body 0), if s.counters.enable then 1 else 0, s.counters.mask,
        if (u8At r.body 1 = 1 : Bool) then 1 else 0] ++ bs⟩) := by
  simp only [onCounterRead, if_neg (not_lt.mpr hsel), clearRefusal_of_holder hh, hread]
  rfl

/-- A target that the bank has not is refused. -/
theorem onCounterRead_of_no_target (hsel : u8At r.body 1 ≤ 1) (hh : u8At r.body 1 = 1 → s.holder p)
    (hread : s.counters.read (u8At r.body 0) (u8At r.body 1 = 1) = none) :
    onCounterRead p r s = (s, ⟨.badArgument, []⟩) := by
  simp only [onCounterRead, if_neg (not_lt.mpr hsel), clearRefusal_of_holder hh, hread]
  rfl

end CounterRequests

section EventRead

variable {s : State} {p : Port} {r : Request}

theorem Event.bytes_length (e : Event) : e.bytes.length = 20 := rfl

theorem events_bytes_length (es : List Event) : (es.flatMap Event.bytes).length = 20 * es.length := by
  simp only [List.length_flatMap, Event.bytes_length, List.map_const', List.sum_replicate, smul_eq_mul, Nat.mul_comm]

/-- A maximum of 0 or above 8 is refused (R173). -/
theorem onEventRead_of_refused (h : u8At r.body 0 = 0 ∨ 8 < u8At r.body 0) :
    onEventRead p r s = (s, ⟨.badArgument, []⟩) :=
  if_pos (by simpa only [Bool.or_eq_true, decide_eq_true_eq] using h)

theorem Ring.unreadEntries_length {g : Ring} (h : g.WellFormed) (p : Port) :
    (g.unreadEntries p).length = g.unread.get p := by
  have hle := h.unread_le p
  rw [Ring.unreadEntries, List.length_drop]
  omega

/-- The entries that a port takes, up to a maximum, are as many as it has unread within that maximum (R173). -/
theorem Ring.take_unreadEntries {g : Ring} (h : g.WellFormed) (p : Port) (maximum : Nat) :
    (g.unreadEntries p).take maximum = (g.unreadEntries p).take (min maximum (g.unread.get p)) := by
  rw [List.take_eq_take_min, Ring.unreadEntries_length h]

/-- Between them, an EVENT READ moves the read position past what it takes and answers it (R173). -/
theorem onEventRead_of_taken (h1 : 1 ≤ u8At r.body 0) (h8 : u8At r.body 0 ≤ 8) {es : List Event}
    (hes : (s.ring.unreadEntries p).take (u8At r.body 0) = es) : onEventRead p r s
    = (s.modRing fun g => { g with unread := g.unread.set p (s.ring.unread.get p - es.length), lost := g.lost.set p 0 },
      ⟨.ok, [byteOf (s.ring.lost.get p), byteOf es.length, byteOf (s.ring.unread.get p - es.length)]
        ++ es.flatMap Event.bytes⟩) := by
  subst hes
  exact if_neg (by simp only [Bool.or_eq_true, decide_eq_true_eq]; omega)

end EventRead

/-- Settles O44: the owning block's part in each case, with the taking that gives it the request. -/
theorem counterAndEventRequests : Obligations.CounterAndEventRequests := by
  refine ⟨fun s p r => ⟨fun ht hsel => ?_, fun ht hsel => ?_, fun ht hh hsel => ?_, fun ht hsel hh => ?_⟩,
    fun s p r ht => ⟨fun h => ?_, fun h1 h8 hring => ?_⟩⟩
  · exact exec_takeCommand_of_answer ht (onCounterControl_of_selector hsel)
  · exact exec_takeCommand_of_answer ht (onCounterRead_of_selector hsel)
  · exact exec_takeCommand_of_handler ht (onCounterControl_of_holder (s := s.dequeue p) hsel hh)
  · intro clear lead
    refine ⟨fun i hi => ?_, fun hi => ?_, fun hi => ?_⟩
    · exact exec_takeCommand_of_handler ht
        (onCounterRead_of_read (s := s.dequeue p) hsel hh (s.counters.read_slot hi clear))
    · exact exec_takeCommand_of_handler ht
        (onCounterRead_of_read (s := s.dequeue p) hsel hh (s.counters.read_composite hi clear))
    · exact exec_takeCommand_of_answer ht
        (onCounterRead_of_no_target (s := s.dequeue p) hsel hh (s.counters.read_of_lt hi clear))
  · exact exec_takeCommand_of_answer ht (onEventRead_of_refused h)
  · intro n es
    have htaken : (s.ring.unreadEntries p).take (u8At r.body 0) = es := Ring.take_unreadEntries hring p _
    have hn : es.length = n := by
      rw [← htaken, List.length_take, Ring.unreadEntries_length hring]
    refine ⟨es.flatMap Event.bytes, by rw [events_bytes_length, hn], rfl, ?_⟩
    rw [← hn]
    exact exec_takeCommand_of_handler ht (onEventRead_of_taken (s := s.dequeue p) h1 h8 htaken)

end Sys2Proof.Machine

namespace Sys2Proof.Machine

/-! ### A step with a command in the queue -/

/-- The companion of `step_of_empty`: the front command runs, and the queue keeps its rest. -/
theorem step_of_cons {s : State} {c : Instr} {rest : List Instr} (hp : s.pending = c :: rest) :
    step s = exec c { s with pending := rest } := by
  simp only [step, hp]

/-- Settles O1: the queue of the given state has the command at its front, and its rest replaces that queue. -/
theorem stepRunsTheFrontCommand : Obligations.StepRunsTheFrontCommand := by
  intro c rest s
  have hfront : State.pending { s with pending := c :: rest } = c :: rest := rfl
  exact step_of_cons hfront

end Sys2Proof.Machine
